-- ==== Sys2Proof/Word.lean ====
section
/-! DEFINITION. Numbers, identifiers and text of the KT-640: saturating amounts, the ranges of spec/00_scope.md
("Numbering"), and fixed tables read and written by an identifier that cannot be out of range. -/

namespace Sys2Proof

/-- Characters of a line, a label or a language code. -/
abbrev Text := List Char

/-- The tag of a line: 1 to 4 decimal digits, given back as it came (R157, R160). -/
abbrev Tag := Text

/-- A serial number or a badge number: 32 bits, the serial also taken bit by bit with a window's mask (R98). -/
abbrev Serial := BitVec 32

/-- Channels 0 to 31; channel 0 is the floor. -/
abbrev ChannelId := Fin 32
/-- Carriers 0 to 15; carrier 0 serves the floor channel. -/
abbrev CarrierId := Fin 16
/-- Cost centres 0 to 15; centre 0 is the hall. -/
abbrev CentreId := Fin 16
/-- Booths 1 to 16: index `i` is booth `i + 1`. -/
abbrev BoothId := Fin 16
/-- Console addresses 1 to 48: index `i` is address `i + 1`. -/
abbrev ConsoleId := Fin 48
/-- Issue desks 1 to 4: index `i` is desk `i + 1`. -/
abbrev DeskId := Fin 4
/-- Emitters 1 to 8: index `i` is emitter `i + 1`. -/
abbrev EmitterId := Fin 8
/-- Tariff classes 1 to 8: index `i` is class `i + 1`. -/
abbrev TariffId := Fin 8
/-- Fleet windows 1 to 8: index `i` is window `i + 1`. -/
abbrev WindowId := Fin 8
/-- Meters 1 to 8: index `i` is meter `i + 1`. -/
abbrev MeterId := Fin 8

/-- The number printed for an identifier of a table that is numbered from 1. -/
def numOf {n : Nat} (i : Fin n) : Nat := i.val + 1

/-- The greatest minute accumulator or count: 4,294,967,295. -/
def maxCount : Nat := 4294967295

/-- The greatest amount of money in cents: 99,999,999. -/
def maxMoney : Nat := 99999999

/-- A count that stays at 4,294,967,295. -/
def satCount (n : Nat) : Nat := min n maxCount

/-- An amount that stays at 99,999,999. -/
def satMoney (n : Nat) : Nat := min n maxMoney

/-- A stamp moved with the clock from minute `old` to minute `new`, 0 where a backward move would take it below 0. -/
def moveStamp (old new m : Nat) : Nat := if old ≤ new then m + (new - old) else m - (old - new)

/-- The table with entry `i` replaced. -/
def vset {α : Type} {n : Nat} (v : Vector α n) (i : Fin n) (x : α) : Vector α n := v.set i.val x i.isLt

/-- The table with entry `i` changed by `f`. -/
def vmod {α : Type} {n : Nat} (v : Vector α n) (i : Fin n) (f : α → α) : Vector α n := vset v i (f v[i])

/-- The table with every entry computed anew from its identifier. -/
def vtab {α : Type} {n : Nat} (f : Fin n → α) : Vector α n := Vector.ofFn f

/-- Every identifier of a table, in ascending order. -/
def ids (n : Nat) : List (Fin n) := List.finRange n

end Sys2Proof
end

