-- ==== Sys2Proof/Syntax.lean ====
section
/-! DEFINITION. The commands of the KT-640, one constructor for each row of spec/opcode_table.json, and the operands
they carry: the host's orders, the desks' requests, the console, emitter and store events, the expiries, the pins. -/

namespace Sys2Proof

/-- One argument of an order: not given, given with a value of a form the argument does not take, or given. -/
inductive Arg (α : Type) where
  | absent
  | bad
  | val (a : α)
deriving DecidableEq, Repr

/-- A number with decimal places as it is written: "8.0" is `⟨8, [0]⟩`. -/
structure Decimal where
  whole  : Nat
  places : List Nat
deriving DecidableEq, Repr

/-- The handover modes of a booth (R20). -/
inductive HandoverMode where
  | handover
  | queue
  | override
deriving DecidableEq, Repr

/-- A console's output selection, or the output an output key names (R23). -/
inductive Output where
  | a
  | b
deriving DecidableEq, Repr

/-- The pressed-or-released position of the six console keys (R23). -/
structure Keys where
  talk      : Bool
  mute      : Bool
  outA      : Bool
  outB      : Bool
  relayNext : Bool
  handover  : Bool
deriving DecidableEq, Repr

/-- The classes of event notices (R162). -/
inductive NoticeClass where
  | hire
  | booth
  | carrier
  | account
  | meter
  | fault
deriving DecidableEq, Repr

/-- One word of the MASK argument: NONE, a class, or a word that is neither (R161). -/
inductive MaskWord where
  | noneWord
  | cls (c : NoticeClass)
  | other
deriving DecidableEq, Repr

/-- The condition names of R165. -/
inductive ConditionName where
  | hallDark
  | quarantine
  | settleOverflow
  | storeFault
  | clockStale
deriving DecidableEq, Repr

/-- The event kinds and level kinds a meter may watch (R149). -/
inductive MeterSource where
  | issue
  | returned
  | language
  | overdue
  | lowBattery
  | live
  | handover
  | handoverExpired
  | relayFallback
  | shiftDue
  | consoleFault
  | carrierEvict
  | carrierWait
  | liveConsoles
  | openHires
  | carriersInUse
  | unservedChannels
deriving DecidableEq, Repr

/-- The QUAL argument of SET METER: ANY, or a letter B, D, C or T with a number (R153). -/
inductive QualWord where
  | any
  | booth (n : Nat)
  | desk (n : Nat)
  | channel (n : Nat)
  | tariff (n : Nat)
deriving DecidableEq, Repr

/-- The four retained areas (R170). -/
inductive Area where
  | settings
  | fleet
  | account
  | clock
deriving DecidableEq, Repr

/-- A set of retained areas. -/
structure AreaSet where
  settings : Bool
  fleet    : Bool
  account  : Bool
  clock    : Bool
deriving DecidableEq, Repr

/-- No area. -/
def AreaSet.none : AreaSet := ⟨false, false, false, false⟩

/-- Every area. -/
def AreaSet.all : AreaSet := ⟨true, true, true, true⟩

/-- What an emitter's answer says; an answer that is malformed is discarded (R91). -/
inductive EmitterReport where
  | ok
  | fault
  | malformed
deriving DecidableEq, Repr

/-- The COND argument of a RETURN request (R109). -/
inductive ReturnCond where
  | ok
  | damaged
deriving DecidableEq, Repr

/-- Why the part starts up (R174). -/
inductive StartCause where
  | powerUp
  | resetnRelease
deriving DecidableEq, Repr

/-- Arguments of SET CHANNEL (R2). FORCE takes no value: a FORCE given one is `bad`. -/
structure SetChannelArgs where
  ch    : Arg Nat
  en    : Arg Bool
  code  : Arg Text
  label : Arg Text
  fill  : Arg Bool
  pin   : Arg Bool
  force : Arg Unit
deriving DecidableEq, Repr

/-- Arguments of SET BOOTH (R21); an output is a channel number, or NONE. -/
structure SetBoothArgs where
  booth  : Arg Nat
  en     : Arg Bool
  outA   : Arg (Option Nat)
  outB   : Arg (Option Nat)
  mode   : Arg HandoverMode
  hto    : Arg Decimal
  shift1 : Arg Nat
  shiftR : Arg Nat
deriving DecidableEq, Repr

/-- Arguments of SET TARIFF (R119, R120). -/
structure SetTariffArgs where
  tar     : Arg Nat
  defined : Arg Bool
  base    : Arg Nat
  len     : Arg Nat
  rate    : Arg Nat
  grace   : Arg Nat
  cap     : Arg Nat
  limit   : Arg Nat
  odfee   : Arg Nat
  dep     : Arg Nat
  credit  : Arg Bool
deriving DecidableEq, Repr

/-- Arguments of SET FLEET (R97). -/
structure SetFleetArgs where
  win    : Arg Nat
  en     : Arg Bool
  base   : Arg Nat
  mask   : Arg Nat
  label  : Arg Text
  fee    : Arg Nat
  lowStk : Arg Nat
deriving DecidableEq, Repr

/-- Arguments of SET HALL (R161). -/
structure SetHallArgs where
  emargin  : Arg Nat
  chold    : Arg Decimal
  badgeLim : Arg Nat
  minBat   : Arg Nat
  chkReq   : Arg Bool
  mask     : Arg (List MaskWord)
deriving DecidableEq, Repr

/-- Arguments of SET METER (R153). -/
structure SetMeterArgs where
  met    : Arg Nat
  en     : Arg Bool
  src    : Arg MeterSource
  qual   : Arg QualWord
  win    : Arg Nat
  thr    : Arg Nat
  inv    : Arg Bool
  edge   : Arg Bool
  preset : Arg Nat
  day    : Arg Bool
deriving DecidableEq, Repr

/-- The commands, in the order of spec/opcode_table.json. A host order or a desk request carries its line's tag; a
desk request carries the number of the link it came on. -/
inductive Instr where
  | setChannel (tag : Tag) (a : SetChannelArgs)
  | setBooth (tag : Tag) (a : SetBoothArgs)
  | setConsole (tag : Tag) (addr : Arg Nat) (booth : Arg (Option Nat))
  | setRelayList (tag : Tag) (booth : Arg Nat) (list : Arg (List Nat))
  | setTariff (tag : Tag) (a : SetTariffArgs)
  | setTariffReading (tag : Tag) (tar : Arg Nat)
  | setFleet (tag : Tag) (a : SetFleetArgs)
  | setCentre (tag : Tag) (centre : Arg Nat) (label : Arg Text)
  | setHall (tag : Tag) (a : SetHallArgs)
  | setMeter (tag : Tag) (a : SetMeterArgs)
  | setClock (tag : Tag) (min : Arg Nat)
  | openDay (tag : Tag) (day : Arg Nat)
  | closeDay (tag : Tag)
  | openSession (tag : Tag) (centre : Arg Nat)
  | suspendSession (tag : Tag)
  | resumeSession (tag : Tag)
  | endSession (tag : Tag)
  | declareLost (tag : Tag) (ser : Arg Nat)
  | markFaulty (tag : Tag) (ser : Arg Nat)
  | markRepaired (tag : Tag) (ser : Arg Nat)
  | removeReceiver (tag : Tag) (ser : Arg Nat)
  | clearDebt (tag : Tag) (badge : Arg Nat)
  | readmitConsole (tag : Tag) (addr : Arg Nat)
  | forceRelease (tag : Tag) (addr : Arg Nat)
  | restart (tag : Tag)
  | restartHold (tag : Tag) (valued : Bool)
  | readChannel (tag : Tag) (ch : Arg Nat)
  | readBooth (tag : Tag) (booth : Arg Nat)
  | readConsole (tag : Tag) (addr : Arg Nat)
  | readCarriers (tag : Tag) (car : Arg Nat)
  | readEmitters (tag : Tag)
  | readReceiver (tag : Tag) (ser : Arg Nat) (win : Arg Nat)
  | readHire (tag : Tag) (hire : Arg Nat)
  | readBadge (tag : Tag) (badge : Arg Nat)
  | readCentres (tag : Tag)
  | readDay (tag : Tag) (ch : Arg Nat) (booth : Arg Nat) (cons : Arg Nat)
  | readSessions (tag : Tag) (idx : Arg Nat)
  | readMeter (tag : Tag) (met : Arg Nat)
  | readStatus (tag : Tag)
  | readFaults (tag : Tag)
  | readStart (tag : Tag)
  | fetchNotices (tag : Tag)
  | ackCondition (tag : Tag) (name : Arg ConditionName) (addr : Arg Nat)
  | clearFaults (tag : Tag)
  | peekSettlements (tag : Tag) (n : Arg Nat)
  | releaseSettlements (tag : Tag) (seq : Arg Nat)
  | clearMeter (tag : Tag) (met : Arg Nat)
  /-- The characters of a completed line, without its CR (R157). -/
  | lineRefused (line : Text)
  | lineDiscarded
  | issue (desk : DeskId) (tag : Tag) (ser badge : Serial) (tar : TariffId) (ch : ChannelId) (bat : Nat)
  | language (desk : DeskId) (tag : Tag) (ser : Serial) (ch : ChannelId)
  | returnRcv (desk : DeskId) (tag : Tag) (ser : Serial) (cond : ReturnCond) (bat : Nat)
  | query (desk : DeskId) (tag : Tag) (ser : Serial)
  /-- The characters of a completed desk line, without its CR (R105, R157). -/
  | deskLineRefused (desk : DeskId) (line : Text)
  | deskLineDiscarded (desk : DeskId)
  /-- The address an answer to a poll carries, whether it passes its check, and its key state (R28). -/
  | pollAnswer (addr : Nat) (check : Bool) (keys : Keys)
  | answerWindowClose
  /-- The address an answer to a probe carries, whether it passes its check, and its key state (R28, R34). -/
  | probeAnswer (addr : Nat) (check : Bool) (keys : Keys)
  | probeTimerExpiry (con : ConsoleId)
  | goodRunExpiry (con : ConsoleId)
  | engagedFlashExpiry (con : ConsoleId)
  | handoverTimerExpiry (con : ConsoleId)
  | shiftReminder (con : ConsoleId)
  | holdExpiry (car : CarrierId)
  | directorySend
  | emitterAnswer (slot : Nat) (report : EmitterReport)
  | dueMinuteExpiry (hire : Nat)
  | windowClose (met : MeterId)
  | hallMinuteRise
  /-- The areas of the write in progress that the store did not take (R170). -/
  | writeCompletion (notTaken : AreaSet)
  | areaRewrite (area : Area)
  | pfwnAssertion
  | pfwnRelease
  | resetnAssertion
  /-- The areas whose stored content the area check finds damaged (R174). -/
  | startUp (cause : StartCause) (damaged : AreaSet)
deriving DecidableEq, Repr

end Sys2Proof
end

