-- ==== Sys2Proof/Decode.lean ====
section
/-! DEFINITION. The words of spec/opcode_table.json. No row of the table gives bits: a command reaches the part as a line,
an answer on a bus, an expiry or a pin, never as a word. -/

namespace Sys2Proof

/-- The command a word of the table spells: none, since no row gives bits (log entry 11). -/
def decodeTableWord (_nbits _w : Nat) : Option Instr := none

end Sys2Proof
end

