-- ==== Sys2Proof/Config.lean ====
section
/-! DEFINITION. What the spec leaves open as a value: a constant without a body, so that no proof can see it. -/

namespace Sys2Proof

/-- The values the spec does not state, one for each use (log entry 1). METER_FULL is posted "with the meter number
as subject" and no value (R152), while every notice holds a value (R162): the value is this constant at the state's
counter of free values, which then advances. -/
opaque Config.freeValue : Nat → Nat

end Sys2Proof
end

