-- ==== Sys2Proof/Machine/State.lean ====
section
/-! DEFINITION. The state of the KT-640 as plain data: the three larger retained areas as the records they hold, the
volatile state of each block, the notice unit, the store controller, the ports, and the queue of waiting commands. -/

namespace Sys2Proof.Machine

/-! ### Settings (retained in the SETTINGS area, R170) -/

/-- The settings of one channel (R1). A blank code is the empty text. -/
structure ChannelSettings where
  enabled : Bool
  code    : Text
  label   : Text
  fill    : Bool
  pinned  : Bool
deriving DecidableEq, Repr

/-- The settings of one booth (R20, R65); the timeout is in tenths of a second. -/
structure BoothSettings where
  enabled   : Bool
  outA      : Option ChannelId
  outB      : Option ChannelId
  mode      : HandoverMode
  timeout   : Nat
  shift1    : Nat
  shiftR    : Nat
  relayList : List ChannelId
deriving DecidableEq, Repr

/-- A tariff record (R119). -/
structure Tariff where
  defined : Bool
  base    : Nat
  len     : Nat
  rate    : Nat
  grace   : Nat
  cap     : Nat
  limit   : Nat
  odfee   : Nat
  deposit : Nat
  credit  : Bool
deriving DecidableEq, Repr

/-- The settings of one fleet window (R97). -/
structure WindowSettings where
  enabled  : Bool
  base     : Serial
  mask     : Serial
  label    : Text
  fee      : Nat
  lowStock : Nat
deriving DecidableEq, Repr

/-- The hall settings (R161); the carrier hold is in tenths of a second. The masked classes stand in the order of
R162, each at most once. -/
structure HallSettings where
  margin     : Nat
  hold       : Nat
  badgeLimit : Nat
  minBattery : Nat
  checksum   : Bool
  masked     : List NoticeClass
deriving DecidableEq, Repr

/-- A meter's qualifier (R148). -/
inductive Qualifier where
  | any
  | booth (b : BoothId)
  | desk (d : DeskId)
  | channel (c : ChannelId)
  | tariff (t : TariffId)
deriving DecidableEq, Repr

/-- The settings of one meter (R148). -/
structure MeterSettings where
  enabled   : Bool
  source    : MeterSource
  qualifier : Qualifier
  window    : Nat
  threshold : Nat
  invert    : Bool
  edge      : Bool
  preset    : Nat
  day       : Bool
deriving DecidableEq, Repr

/-- The SETTINGS area (R170). -/
structure Settings where
  channels     : Vector ChannelSettings 32
  booths       : Vector BoothSettings 16
  consoleBooth : Vector (Option BoothId) 48
  tariffs      : Vector Tariff 8
  windows      : Vector WindowSettings 8
  labels       : Vector Text 16
  hall         : HallSettings
  meters       : Vector MeterSettings 8
deriving DecidableEq, Repr

/-! ### Fleet (retained in the FLEET area) -/

/-- Where a receiver is (R100), with its open hire's number while it is out. -/
inductive ReceiverState where
  | stock
  | issued (hire : Nat)
  | overdue (hire : Nat)
  | faulty
  | lost
deriving DecidableEq, Repr

/-- A receiver record (R100). -/
structure Receiver where
  serial  : Serial
  window  : WindowId
  state   : ReceiverState
  issues  : Nat
  battery : Option Nat
deriving DecidableEq, Repr

/-- An open hire (R102). `overdue` is its state: clear for OPEN, set for OVERDUE. -/
structure Hire where
  number   : Nat
  serial   : Serial
  badge    : Serial
  desk     : DeskId
  tariff   : TariffId
  issued   : Nat
  due      : Option Nat
  preset   : ChannelId
  snapshot : Nat
  unserved : Nat
  deposit  : Nat
  overdue  : Bool
  stale    : Bool
deriving DecidableEq, Repr

/-- A badge entry (R103). -/
structure Badge where
  number : Serial
  hires  : List Nat
  debt   : Nat
deriving DecidableEq, Repr

/-- The FLEET area: the three tables, each in strictly rising order of its key. -/
structure Fleet where
  receivers : List Receiver
  hires     : List Hire
  badges    : List Badge
deriving DecidableEq, Repr

/-! ### Accounts (retained in the ACCOUNT area) -/

/-- The day figures of a channel (R1). -/
structure ChannelDay where
  outage : Nat
  onAir  : Nat
  fill   : Nat
deriving DecidableEq, Repr

/-- The day figures of a booth (R20, R65). -/
structure BoothDay where
  handovers : Nat
  live      : Nat
  fallback  : Nat
deriving DecidableEq, Repr

/-- The day record (R134). -/
structure DayRecord where
  isOpen    : Bool
  number    : Nat
  total     : Nat
  unitCount : Nat
  unitTotal : Nat
  powerUps  : Nat
deriving DecidableEq, Repr

/-- The session state (R137). -/
inductive Session where
  | none
  | running (n : Nat) (centre : CentreId)
  | suspended (n : Nat) (centre : CentreId)
deriving DecidableEq, Repr

/-- An interval of the session log (R139). -/
structure Interval where
  session : Nat
  centre  : CentreId
  start   : Nat
  finish  : Option Nat
deriving DecidableEq, Repr

/-- The kinds of settlement record (R141). -/
inductive SettlementKind where
  | returned
  | lost
  | found
deriving DecidableEq, Repr

/-- A settlement record (R141). -/
structure Settlement where
  seq         : Nat
  kind        : SettlementKind
  day         : Nat
  serial      : Serial
  badge       : Serial
  hire        : Nat
  desk        : Nat
  tariff      : Nat
  issued      : Nat
  closed      : Nat
  elapsed     : Nat
  unserved    : Nat
  billable    : Nat
  intervals   : Nat
  gross       : Nat
  charge      : Nat
  overdue     : Bool
  stale       : Bool
  deposit     : Nat
  refund      : Nat
  outstanding : Nat
  shares      : List (CentreId × Nat)
deriving DecidableEq, Repr

/-- The ACCOUNT area (R170). -/
structure Account where
  day         : DayRecord
  session     : Session
  lastSession : Nat
  log         : List Interval
  balances    : Vector Nat 16
  channels    : Vector ChannelDay 32
  booths      : Vector BoothDay 16
  consoleLive : Vector Nat 48
  queue       : List Settlement
  seq         : Nat
  hireCounter : Nat
  peakHires   : Nat
deriving DecidableEq, Repr

/-! ### Volatile state of the blocks -/

/-- The hall clock (R172). `ticks` counts twentieths of a second of the timebase since start-up; the present minute
began at tick `minuteStart`. -/
structure Clock where
  minute      : Nat
  stale       : Bool
  ticks       : Nat
  minuteStart : Nat
deriving DecidableEq, Repr

/-- A channel's service state (R10). -/
inductive Service where
  | live
  | fill
  | silent
  | off
deriving DecidableEq, Repr

/-- The running state of a channel (R1). -/
structure ChannelRun where
  service     : Service
  feeder      : Option ConsoleId
  demand      : Nat
  peak        : Nat
  outageSince : Option Nat
  servedSince : Option Nat
  fillSince   : Option Nat
deriving DecidableEq, Repr

/-- The running state of a booth (R20, R65). `unowned` and `fallback` hold a channel, or FLOOR and off. -/
structure BoothRun where
  owner         : Option ConsoleId
  queue         : List ConsoleId
  unowned       : Option ChannelId
  fallback      : Option ChannelId
  fallbackSince : Option Nat
deriving DecidableEq, Repr

/-- The states of a console (R24). -/
inductive ConsoleState where
  | absent
  | idle
  | requesting
  | live
  | muted
  | fault
  | quarantined
deriving DecidableEq, Repr

/-- The running state of a console (R23). `relaySel` is a channel, or FLOOR. Timers hold the tenth at which they
expire. `probeDue` marks a probe that has fallen due and has not been sent (R27, R34); `shiftLamp` holds the SHIFT
lamp and `engagedFlash` the ENGAGED flash, from which and the rest of the state the lamp set follows (R29). -/
structure ConsoleRun where
  state          : ConsoleState
  output         : Output
  relaySel       : Option ChannelId
  accepted       : Option Keys
  candidate      : Option Keys
  bad            : Nat
  good           : Nat
  isolation      : Nat
  goodStart      : Option Nat
  goodExpiry     : Option Nat
  probeTimer     : Option Nat
  probeDue       : Bool
  liveSince      : Option Nat
  contStart      : Option Nat
  nextShift      : Option Nat
  shiftLamp      : Bool
  engagedFlash   : Option Nat
  handoverExpiry : Option Nat
deriving DecidableEq, Repr

/-- An entry of a channel wait list (R44). -/
structure WaitEntry where
  console : ConsoleId
  booth   : BoothId
deriving DecidableEq, Repr

/-- The values of a lamp (R29). -/
inductive Lamp where
  | off
  | on
  | flashing
deriving DecidableEq, Repr

/-- A console's lamp set (R29). -/
structure LampSet where
  mic       : Lamp
  engaged   : Lamp
  asked     : Lamp
  shift     : Lamp
  relayLost : Lamp
  lampA     : Lamp
  lampB     : Lamp
deriving DecidableEq, Repr

/-- The two kinds of exchange on the console bus (R27). -/
inductive ExchangeKind where
  | poll
  | probe
deriving DecidableEq, Repr

/-- The exchange in progress on the console bus: its kind, the address sent, the lamp set sent, and whether its end
is to be discarded because SET CONSOLE changed the console's booth meanwhile (R27, R28). -/
structure Exchange where
  kind    : ExchangeKind
  console : ConsoleId
  lamps   : LampSet
  void    : Bool
deriving DecidableEq, Repr

/-- The console bus (R27): the exchange in progress and the address last polled. -/
structure Bus where
  current    : Option Exchange
  lastPolled : Option ConsoleId
deriving DecidableEq, Repr

/-- A carrier record (R78): the channel, the on-air-since stamp and the hold expiry stand exactly where it has them. -/
inductive Carrier where
  | free
  | onAir (channel : ChannelId) (since : Nat)
  | holding (channel : ChannelId) (since : Nat) (expiry : Nat)
deriving DecidableEq, Repr

/-- The carrier allocator: records, wait list (head first) and peak carriers in use (R78, R84, R93). -/
structure Allocator where
  carriers : Vector Carrier 16
  waiting  : List ChannelId
  peak     : Nat
deriving DecidableEq, Repr

/-- An emitter slot's state (R91). -/
inductive SlotState where
  | ok
  | fault
  | absent
deriving DecidableEq, Repr

/-- An emitter slot (R91). `answered` holds whether the present answer window has had its answer. -/
structure Slot where
  state    : SlotState
  missed   : Nat
  answered : Bool
deriving DecidableEq, Repr

/-- The entries of a directory: carriers with their channels' codes, in ascending carrier order (R90). -/
abbrev Directory := List (CarrierId × Text)

/-- The emitter link controller (R90 to R92). `content` is the content the present generation was given for;
`windows` counts the answer windows closed since start-up, to 3; `nextSend` is the tick of the next directory. -/
structure EmitterLink where
  slots      : Vector Slot 8
  generation : Nat
  content    : Directory
  sentGen    : Nat
  sent       : Directory
  windows    : Nat
  nextSend   : Nat
deriving DecidableEq, Repr

/-- The running state of a meter (R148). -/
structure MeterRun where
  count  : Nat
  tally  : Nat
  prev   : Bool
  latch  : Bool
  full   : Bool
  next   : Option Nat
deriving DecidableEq, Repr

/-- The last value handed for each level kind (R149). -/
structure Levels where
  live     : Nat
  hires    : Nat
  carriers : Nat
  unserved : Nat
deriving DecidableEq, Repr

/-! ### The notice unit -/

/-- The notice kinds that the posting rules name. -/
inductive NoticeKind where
  | consoleFault
  | handoverExpired
  | shiftDue
  | relayFallback
  | relayRestored
  | carrierEvict
  | carrierWait
  | emitterChange
  | stockLow
  | overdue
  | queueHigh
  | meterPreset
  | meterFull
deriving DecidableEq, Repr

/-- An event notice (R162). -/
structure Notice where
  cls     : NoticeClass
  kind    : NoticeKind
  subject : Nat
  minute  : Nat
  value   : Nat
  several : Bool
deriving DecidableEq, Repr

/-- A condition's place in the condition set (R165). -/
inductive Raised where
  | clear
  | active
  | ended
deriving DecidableEq, Repr

/-- The condition set (R165), QUARANTINE once for each console. -/
structure Conditions where
  hallDark       : Raised
  quarantine     : Vector Raised 48
  settleOverflow : Raised
  storeFault     : Raised
  clockStale     : Raised
deriving DecidableEq, Repr

/-- The codes of the fault log (R167, R170, R174). -/
inductive FaultCode where
  | consoleFault
  | emitterFault
  | storeWrite
  | storeBad
deriving DecidableEq, Repr

/-- An entry of the fault log (R167). -/
structure FaultEntry where
  minute  : Nat
  code    : FaultCode
  subject : Nat
deriving DecidableEq, Repr

/-- The notice unit: the queue, the condition set, the fault log and the ATTN output (R162 to R167). -/
structure NoticeUnit where
  queue : List Notice
  conds : Conditions
  log   : List FaultEntry
  attn  : Bool
deriving DecidableEq, Repr

/-! ### The nine blocks that decide -/

/-- What the event in progress has handed over so far and the end of the event delivers; empty between events. -/
structure EventWork where
  posts   : List Notice
  faults  : List FaultEntry
  asks    : List AreaSet
  touched : List ChannelId
  granted : List ConsoleId
deriving DecidableEq, Repr

/-- The blocks other than the control port, the notice unit and the store controller: channel plan, console bus,
booths, carriers, emitter link, hire unit, accounting unit, meters and hall clock. -/
structure Hall where
  settings  : Settings
  fleet     : Fleet
  account   : Account
  clock     : Clock
  channels  : Vector ChannelRun 32
  waitLists : Vector (List WaitEntry) 32
  booths    : Vector BoothRun 16
  consoles  : Vector ConsoleRun 48
  bus       : Bus
  air       : Allocator
  link      : EmitterLink
  lowFired  : Vector Bool 8
  meters    : Vector MeterRun 8
  levels    : Levels
  free      : Nat
  work      : EventWork
deriving DecidableEq, Repr

/-! ### Answers -/

/-- The answer codes of R160 and of the desk requests. -/
inductive AnswerCode where
  | syntaxError
  | check
  | unknown
  | range
  | state
  | duplicate
  | inUse
  | full
  | frozen
  | loop
  | depth
  | openHires
  | sessionOpen
  | backward
  | notFound
  | stillActive
  | powerFail
  | dayClosed
  | foreign
  | tableFull
  | notStock
  | lowBattery
  | noTariff
  | noChannel
  | debt
  | limit
  | badgeFull
  | notIssued
deriving DecidableEq, Repr

/-- A clamped argument with the value taken (R160), in whole units or in tenths. -/
inductive Clamp where
  | units (name : String) (value : Nat)
  | tenths (name : String) (value : Nat)
deriving DecidableEq, Repr

/-- READ CHANNEL (R19, R64). -/
structure ChannelReading where
  settings  : ChannelSettings
  service   : Service
  feeder    : Option ConsoleId
  carrier   : Option (CarrierId × Bool)
  served    : Bool
  accruing  : Bool
  demand    : Nat
  peak      : Nat
  outage    : Nat
  onAir     : Nat
  fill      : Nat
  waitList  : List WaitEntry
deriving DecidableEq, Repr

/-- READ BOOTH (R42, R64, R77). -/
structure BoothReading where
  settings  : BoothSettings
  consoles  : List ConsoleId
  owner     : Option ConsoleId
  queue     : List ConsoleId
  handovers : Nat
  live      : Nat
  wait      : Option (ChannelId × Nat)
  unowned   : Option ChannelId
  source    : Option ChannelId
  input     : Option ChannelId
  fallback  : Option ChannelId
  fallMins  : Nat
deriving DecidableEq, Repr

/-- READ CONSOLE (R43, R64). -/
structure ConsoleReading where
  booth     : Option BoothId
  state     : ConsoleState
  output    : Output
  relay     : Option ChannelId
  keys      : Option Keys
  bad       : Nat
  isolation : Nat
  goodStart : Option Nat
  live      : Nat
  cont      : Nat
  lamps     : LampSet
  timer     : Option Nat
  nextShift : Option Nat
deriving DecidableEq, Repr

/-- READ CARRIERS without an argument (R95). -/
structure CarriersReading where
  carriers   : Vector Carrier 16
  waiting    : List (ChannelId × Nat)
  generation : Nat
  inUse      : Nat
  peak       : Nat
  margin     : Nat
  hold       : Nat
deriving DecidableEq, Repr

/-- READ CARRIERS with CAR (R95). -/
structure CarrierReading where
  carrier : Carrier
  code    : Option Text
  hold    : Option Nat
deriving DecidableEq, Repr

/-- READ EMITTERS (R96). -/
structure EmittersReading where
  slots : Vector Slot 8
  dark  : Bool
  gen   : Nat
deriving DecidableEq, Repr

/-- READ RECEIVER without an argument (R118). -/
structure FleetReading where
  receivers : Nat
  hires     : Nat
  badges    : Nat
  peakHires : Nat
  counter   : Nat
  windows   : Vector (Bool × Nat × Bool) 8
deriving DecidableEq, Repr

/-- READ RECEIVER with WIN (R118); the SET FLEET answer takes the same fields (R97, log entry 60). -/
structure WindowReading where
  settings : WindowSettings
  stock    : Nat
  fired    : Bool
deriving DecidableEq, Repr

/-- The hire fields of a QUERY answer (R111). -/
structure HireEstimate where
  number   : Nat
  badge    : Serial
  preset   : ChannelId
  elapsed  : Nat
  due      : Option Nat
  unserved : Nat
  charge   : Nat
  refund   : Nat
  owe      : Nat
deriving DecidableEq, Repr

/-- A QUERY answer (R111), and READ RECEIVER with SER (R118). -/
structure ReceiverReading where
  state   : ReceiverState
  window  : WindowId
  issues  : Nat
  battery : Option Nat
  hire    : Option HireEstimate
deriving DecidableEq, Repr

/-- READ HIRE (R118): the open hire, its unserved minutes as of now. -/
structure HireReading where
  hire     : Hire
  unserved : Nat
deriving DecidableEq, Repr

/-- READ DAY without an argument (R145). -/
structure DayReading where
  day         : DayRecord
  peakHires   : Nat
  hires       : Nat
  lastSession : Nat
  intervals   : Nat
  queueLen    : Nat
  seq         : Nat
deriving DecidableEq, Repr

/-- READ SESSIONS without an argument (R146). -/
structure SessionsReading where
  session   : Session
  last      : Nat
  intervals : Nat
deriving DecidableEq, Repr

/-- READ METER (R156). -/
structure MeterReading where
  settings : MeterSettings
  run      : MeterRun
  left     : Option Nat
  level    : Option Nat
deriving DecidableEq, Repr

/-- READ STATUS (R168). -/
structure StatusReading where
  dayNumber : Nat
  dayOpen   : Bool
  session   : Session
  minute    : Nat
  stale     : Bool
  powerFail : Bool
  dark      : Bool
  notices   : Nat
  masked    : List NoticeClass
  conds     : Conditions
  faults    : Nat
  checksum  : Bool
deriving DecidableEq, Repr

/-- Where the resume minute came from (R177). -/
inductive ResumeSource where
  | clock
  | stamps
  | zero
deriving DecidableEq, Repr

/-- The results of the last start-up (R177). `good` names the areas found good. -/
structure StartReport where
  good       : AreaSet
  resume     : Nat
  source     : ResumeSource
  dayZero    : Bool
  moved      : Nat
  limitRaise : Nat
deriving DecidableEq, Repr

/-- READ START (R177). -/
structure StartReading where
  report   : StartReport
  powerUps : Nat
  stale    : Bool
deriving DecidableEq, Repr

/-- The figures of a close that its answer carries (R109, R113, R142): H, R, O, the sequence number, and whether
the record went unitemised. -/
structure CloseFigures where
  charge      : Nat
  refund      : Nat
  outstanding : Nat
  seq         : Nat
  unitemised  : Bool
deriving DecidableEq, Repr

/-- The fields of an OK answer. -/
inductive Reply where
  | plain
  | moved (n : Nat)
  | tariff (t : Tariff)
  | window (w : WindowReading)
  | hall (h : HallSettings)
  | clock (minute : Nat)
  | session (n : Nat)
  | lost (f : CloseFigures)
  | was (n : Nat)
  | released (before : ConsoleState) (granted : List ConsoleId)
  | channel (r : ChannelReading)
  | booth (r : BoothReading)
  | console (r : ConsoleReading)
  | carriers (r : CarriersReading)
  | carrier (r : CarrierReading)
  | emitters (r : EmittersReading)
  | fleet (r : FleetReading)
  | receiver (r : ReceiverReading)
  | hire (r : HireReading)
  | badge (hires : List Nat) (debt : Nat)
  | centres (labels : Vector Text 16) (balances : Vector Nat 16) (total : Nat)
  | day (r : DayReading)
  | dayChannel (label code : Text) (outage onAir fill : Nat)
  | dayBooth (live handovers fallback : Nat)
  | dayConsole (booth : Option BoothId) (live : Nat)
  | sessions (r : SessionsReading)
  | interval (i : Interval)
  | meter (r : MeterReading)
  | status (r : StatusReading)
  | faults (l : List FaultEntry)
  | start (r : StartReading)
  | notices (l : List Notice)
  | settlements (l : List Settlement)
  | releasedNone
  | releasedRecords (count left : Nat)
  | issued (hire deposit : Nat) (due : Option Nat)
  | language (ch : ChannelId)
  | returned (f : CloseFigures)
  | found (seq : Nat) (unitemised : Bool)
deriving DecidableEq, Repr

/-- The outcome of an order or request: OK with fields and clamped arguments, or ER with a code (R160). -/
inductive Result where
  | ok (r : Reply) (clamped : List Clamp)
  | er (c : AnswerCode)
deriving DecidableEq, Repr

/-- To whom an answer is sent: the host with N and A, or a desk without them (R160). -/
inductive Addressee where
  | host (n : Nat) (a : Bool)
  | desk (d : DeskId)
deriving DecidableEq, Repr

/-- One answer line the part sends (R160); its text and checksum are `Answer.line`. -/
structure Answer where
  addressee : Addressee
  tag       : Tag
  result    : Result
  overrun   : Bool
deriving DecidableEq, Repr

/-! ### Store controller and ports -/

/-- What waits on a store write: an answer to the host or to a desk, or the end of start-up (R170, R174). -/
inductive Waiter where
  | host (tag : Tag) (r : Result)
  | desk (d : DeskId) (tag : Tag) (r : Result)
  | startUp
deriving DecidableEq, Repr

/-- A write on the list, not begun (R170). -/
structure StoreWrite where
  areas   : AreaSet
  waiters : List Waiter
deriving DecidableEq, Repr

/-- The content of the areas of the store; an area absent here is bad or, in a write, not named. -/
structure Content where
  settings : Option Settings
  fleet    : Option Fleet
  account  : Option Account
  clock    : Option Nat
deriving DecidableEq, Repr

/-- The write in progress with the content it stores, taken when it began (R170). -/
structure CurrentWrite where
  areas   : AreaSet
  content : Content
  waiters : List Waiter
deriving DecidableEq, Repr

/-- The four areas' times of writing again after a failure (R170), in tenths. -/
structure Rewrites where
  settings : Option Nat
  fleet    : Option Nat
  account  : Option Nat
  clock    : Option Nat
deriving DecidableEq, Repr

/-- The store controller (R170, R174): the store's content (an area without content has a bad checksum), the write in
progress, the writes not begun, the areas that failed and have not since been taken, and their rewrite times. -/
structure Store where
  held    : Content
  current : Option CurrentWrite
  writes  : List StoreWrite
  failed  : AreaSet
  rewrite : Rewrites
deriving DecidableEq, Repr

/-- A line port (R157, R159, R105): whether an order or request is in progress, the overrun mark, and the line
buffer. -/
structure LinePort where
  busy    : Bool
  overrun : Bool
  buffer  : Text
deriving DecidableEq, Repr

/-- The machine. `listening` holds whether lines are assembled (R174); `pfw` and `resetn` whether the inputs PFWn and
RESETn are asserted; `out` the answer lines sent by the latest step (the model's own field, log entry 3); `pending`
the commands that wait, first in, first out. -/
structure State where
  hall      : Hall
  notice    : NoticeUnit
  store     : Store
  port      : LinePort
  desks     : Vector LinePort 4
  listening : Bool
  pfw       : Bool
  resetn    : Bool
  start     : StartReport
  out       : List Answer
  pending   : List Instr
deriving DecidableEq, Repr

/-- A machine fault. There is none: no rule of the spec stops the part, so no command raises one (log entry 2). -/
inductive Fault where
deriving DecidableEq, Repr

/-- Why a command has no meaning. -/
inductive Refusal where
  /-- Raised by exec's arm of a command that is not modelled yet, and by nothing else; safe, since a run stops. No arm
  of this model raises it. -/
  | notModelled (mnemonic : String)
deriving DecidableEq, Repr

/-! ### Values by default and at reset -/

/-- Channel records from a SETTINGS area loaded with defaults (R18). -/
def ChannelSettings.default (c : ChannelId) : ChannelSettings :=
  if c = 0 then ⟨true, ['F', 'L', 'R'], ['F', 'l', 'o', 'o', 'r'], false, true⟩ else ⟨false, [], [], false, false⟩

/-- Booth records by default (R40). -/
def BoothSettings.default : BoothSettings := ⟨false, none, none, .handover, 100, 30, 5, []⟩

/-- Tariff records by default: undefined, with the defaults of R119 (R121). -/
def Tariff.default : Tariff := ⟨false, 0, 60, 0, 0, 0, 0, 0, 0, false⟩

/-- Fleet windows by default (R97). -/
def WindowSettings.default : WindowSettings := ⟨false, 0, 0, [], 0, 0⟩

/-- Hall settings by default (R161). -/
def HallSettings.default : HallSettings := ⟨5, 80, 1, 60, false, []⟩

/-- Meter settings by default (R148). -/
def MeterSettings.default : MeterSettings := ⟨false, .issue, .any, 15, 0, false, false, 0, false⟩

/-- Centre labels by default (R147). -/
def defaultLabel (k : CentreId) : Text := if k = 0 then ['H', 'a', 'l', 'l'] else []

/-- The SETTINGS area by default. -/
def Settings.default : Settings where
  channels     := vtab ChannelSettings.default
  booths       := Vector.replicate 16 BoothSettings.default
  consoleBooth := Vector.replicate 48 none
  tariffs      := Vector.replicate 8 Tariff.default
  windows      := Vector.replicate 8 WindowSettings.default
  labels       := vtab defaultLabel
  hall         := HallSettings.default
  meters       := Vector.replicate 8 MeterSettings.default

/-- The FLEET area by default: three empty tables (R117). -/
def Fleet.default : Fleet := ⟨[], [], []⟩

/-- The ACCOUNT area by default (R147, R18, R40, R76, R117). -/
def Account.default : Account where
  day         := ⟨false, 0, 0, 0, 0, 0⟩
  session     := .none
  lastSession := 0
  log         := []
  balances    := Vector.replicate 16 0
  channels    := Vector.replicate 32 ⟨0, 0, 0⟩
  booths      := Vector.replicate 16 ⟨0, 0, 0⟩
  consoleLive := Vector.replicate 48 0
  queue       := []
  seq         := 0
  hireCounter := 0
  peakHires   := 0

/-- A console without a booth (R26, R40). -/
def ConsoleRun.blank : ConsoleRun where
  state          := .absent
  output         := .a
  relaySel       := none
  accepted       := none
  candidate      := none
  bad            := 0
  good           := 0
  isolation      := 0
  goodStart      := none
  goodExpiry     := none
  probeTimer     := none
  probeDue       := false
  liveSince      := none
  contStart      := none
  nextShift      := none
  shiftLamp      := false
  engagedFlash   := none
  handoverExpiry := none

/-- A booth without owner, queue, unowned source or fallback (R63, R76). -/
def BoothRun.blank : BoothRun := ⟨none, [], none, none, none⟩

/-- No event in progress. -/
def EventWork.empty : EventWork := ⟨[], [], [], [], []⟩

/-- No condition raised. -/
def Conditions.none : Conditions := ⟨.clear, Vector.replicate 48 .clear, .clear, .clear, .clear⟩

/-- A line port with nothing in progress. -/
def LinePort.idle : LinePort := ⟨false, false, []⟩

/-- The directory of a part whose only carrier in use is carrier 0 (R90). -/
def Directory.floorOnly : Directory := [(0, ['F', 'L', 'R'])]

/-- The nine blocks after a start-up with every area loaded with defaults (log entry 4). -/
def Hall.reset : Hall where
  settings  := Settings.default
  fleet     := Fleet.default
  account   := { Account.default with day := ⟨false, 0, 0, 0, 0, 1⟩ }
  clock     := ⟨0, true, 0, 0⟩
  channels  := vtab fun c => ⟨if c = 0 then .live else .off, none, 0, 0, none, none, none⟩
  waitLists := Vector.replicate 32 []
  booths    := Vector.replicate 16 BoothRun.blank
  consoles  := Vector.replicate 48 ConsoleRun.blank
  bus       := ⟨none, none⟩
  air       := ⟨vtab fun k => if k = 0 then .onAir 0 0 else .free, [], 1⟩
  link      := ⟨Vector.replicate 8 ⟨.absent, 0, false⟩, 1, Directory.floorOnly, 1, Directory.floorOnly, 0, 5⟩
  lowFired  := Vector.replicate 8 false
  meters    := Vector.replicate 8 ⟨0, 0, false, false, false, none⟩
  levels    := ⟨0, 0, 1, 1⟩
  free      := 0
  work      := EventWork.empty

/-- The machine right after its first start-up: no area of the store was good, so every area was loaded with its
defaults and is being written through (R174), and no line is assembled until that write completes. -/
def State.reset : State where
  hall      := Hall.reset
  notice    :=
    { queue := []
      conds := { Conditions.none with storeFault := .active, clockStale := .active }
      log   := [⟨0, .storeBad, 1⟩, ⟨0, .storeBad, 2⟩, ⟨0, .storeBad, 3⟩, ⟨0, .storeBad, 4⟩]
      attn  := true }
  store     :=
    { held    := ⟨none, none, none, none⟩
      current := some ⟨AreaSet.all, ⟨some Hall.reset.settings, some Hall.reset.fleet, some Hall.reset.account, some 0⟩,
        [.startUp]⟩
      writes  := []
      failed  := AreaSet.all
      rewrite := ⟨none, none, none, none⟩ }
  port      := LinePort.idle
  desks     := Vector.replicate 4 LinePort.idle
  listening := false
  pfw       := false
  resetn    := false
  start     := ⟨AreaSet.none, 0, .zero, false, 0, 0⟩
  out       := []
  pending   := []

end Sys2Proof.Machine
end

