-- ==== Sys2Proof/Machine/Ops.lean ====
section
/-! DEFINITION. The named operations over the blocks' records: time, reading and changing one record, handing a notice,
a fault entry or a store write to the end of the event, and spells of minutes. -/

namespace Sys2Proof

/-! ### Areas -/

/-- The areas of either set. -/
def AreaSet.union (a b : AreaSet) : AreaSet :=
  ⟨a.settings || b.settings, a.fleet || b.fleet, a.account || b.account, a.clock || b.clock⟩

/-- The areas of `a` that are not in `b`. -/
def AreaSet.diff (a b : AreaSet) : AreaSet :=
  ⟨a.settings && !b.settings, a.fleet && !b.fleet, a.account && !b.account, a.clock && !b.clock⟩

/-- The areas of both sets. -/
def AreaSet.inter (a b : AreaSet) : AreaSet :=
  ⟨a.settings && b.settings, a.fleet && b.fleet, a.account && b.account, a.clock && b.clock⟩

/-- Every area of `a` is in `b`. -/
def AreaSet.subset (a b : AreaSet) : Bool := a.diff b == AreaSet.none

/-- The set with the one area `a`. -/
def AreaSet.single : Area → AreaSet
  | .settings => ⟨true, false, false, false⟩
  | .fleet => ⟨false, true, false, false⟩
  | .account => ⟨false, false, true, false⟩
  | .clock => ⟨false, false, false, true⟩

/-- The areas in order of their numbers (R170). -/
def allAreas : List Area := [.settings, .fleet, .account, .clock]

/-- Membership of an area. -/
def AreaSet.has (s : AreaSet) : Area → Bool
  | .settings => s.settings
  | .fleet => s.fleet
  | .account => s.account
  | .clock => s.clock

/-- The number of an area in the fault log and READ START (R170). -/
def Area.number : Area → Nat
  | .settings => 1
  | .fleet => 2
  | .account => 3
  | .clock => 4

end Sys2Proof

namespace Sys2Proof.Machine

/-- The SETTINGS area alone. -/
def onlySettings : AreaSet := AreaSet.single .settings
/-- The FLEET area alone. -/
def onlyFleet : AreaSet := AreaSet.single .fleet
/-- The ACCOUNT area alone. -/
def onlyAccount : AreaSet := AreaSet.single .account
/-- The CLOCK area alone. -/
def onlyClock : AreaSet := AreaSet.single .clock
/-- FLEET and ACCOUNT together. -/
def fleetAccount : AreaSet := onlyFleet.union onlyAccount

/-! ### Time -/

/-- The hall minute: "now" of every rule. -/
def Hall.now (h : Hall) : Nat := h.clock.minute

/-- The tenth-second timebase (R172). -/
def Hall.tenths (h : Hall) : Nat := h.clock.ticks / 2

/-- A tenth-second timer stands due: it is present, and the timebase has reached its tenth (log entry 6). -/
def Hall.timerDue (h : Hall) (t : Option Nat) : Bool := t.any fun t => t ≤ h.tenths

/-- The accounting day is OPEN, the day-0 opening included (R134). -/
def Hall.dayOpen (h : Hall) : Bool := h.account.day.isOpen

/-! ### Records -/

/-- Changes channel `c`'s running state. -/
def Hall.modChannel (c : ChannelId) (f : ChannelRun → ChannelRun) (h : Hall) : Hall :=
  { h with channels := vmod h.channels c f }

/-- Changes channel `c`'s settings. -/
def Hall.modChannelSettings (c : ChannelId) (f : ChannelSettings → ChannelSettings) (h : Hall) : Hall :=
  { h with settings := { h.settings with channels := vmod h.settings.channels c f } }

/-- Changes channel `c`'s day figures. -/
def Hall.modChannelDay (c : ChannelId) (f : ChannelDay → ChannelDay) (h : Hall) : Hall :=
  { h with account := { h.account with channels := vmod h.account.channels c f } }

/-- Changes booth `b`'s running state. -/
def Hall.modBooth (b : BoothId) (f : BoothRun → BoothRun) (h : Hall) : Hall :=
  { h with booths := vmod h.booths b f }

/-- Changes booth `b`'s settings. -/
def Hall.modBoothSettings (b : BoothId) (f : BoothSettings → BoothSettings) (h : Hall) : Hall :=
  { h with settings := { h.settings with booths := vmod h.settings.booths b f } }

/-- Changes booth `b`'s day figures. -/
def Hall.modBoothDay (b : BoothId) (f : BoothDay → BoothDay) (h : Hall) : Hall :=
  { h with account := { h.account with booths := vmod h.account.booths b f } }

/-- Changes console `a`'s running state. -/
def Hall.modConsole (a : ConsoleId) (f : ConsoleRun → ConsoleRun) (h : Hall) : Hall :=
  { h with consoles := vmod h.consoles a f }

/-- Adds minutes to console `a`'s live minutes today, saturating (R38). -/
def Hall.addConsoleLive (a : ConsoleId) (m : Nat) (h : Hall) : Hall :=
  { h with account := { h.account with consoleLive := vmod h.account.consoleLive a fun n => satCount (n + m) } }

/-- Changes channel `c`'s wait list (R44). -/
def Hall.modWaitList (c : ChannelId) (f : List WaitEntry → List WaitEntry) (h : Hall) : Hall :=
  { h with waitLists := vmod h.waitLists c f }

/-- Sets carrier `k`'s record. -/
def Hall.setCarrier (k : CarrierId) (r : Carrier) (h : Hall) : Hall :=
  { h with air := { h.air with carriers := vset h.air.carriers k r } }

/-- Sets the carrier wait list. -/
def Hall.setWaiting (l : List ChannelId) (h : Hall) : Hall := { h with air := { h.air with waiting := l } }

/-- Changes meter `m`'s running state. -/
def Hall.modMeter (m : MeterId) (f : MeterRun → MeterRun) (h : Hall) : Hall :=
  { h with meters := vmod h.meters m f }

/-- Changes emitter slot `e`. -/
def Hall.modSlot (e : EmitterId) (f : Slot → Slot) (h : Hall) : Hall :=
  { h with link := { h.link with slots := vmod h.link.slots e f } }

/-! ### What an event hands to its end -/

/-- Posts a notice at the present minute (R162). -/
def Hall.post (cls : NoticeClass) (kind : NoticeKind) (subject value : Nat) (h : Hall) : Hall :=
  { h with work := { h.work with posts := h.work.posts ++ [⟨cls, kind, subject, h.now, value, false⟩] } }

/-- Makes a fault log entry at the present minute (R167). -/
def Hall.logFault (code : FaultCode) (subject : Nat) (h : Hall) : Hall :=
  { h with work := { h.work with faults := h.work.faults ++ [⟨h.now, code, subject⟩] } }

/-- Asks the store controller for a write that no answer waits on (R170). -/
def Hall.ask (a : AreaSet) (h : Hall) : Hall := { h with work := { h.work with asks := h.work.asks ++ [a] } }

/-- Notes that channel `c`'s feeder has changed in this event (R50). -/
def Hall.touch (c : ChannelId) (h : Hall) : Hall :=
  { h with work := { h.work with touched := if c ∈ h.work.touched then h.work.touched else h.work.touched ++ [c] } }

/-- Notes that console `a` has been granted a channel in this event (R61). -/
def Hall.noteGrant (a : ConsoleId) (h : Hall) : Hall :=
  { h with work := { h.work with granted := h.work.granted ++ [a] } }

/-! ### Spells -/

/-- A spell meeting its condition at minute `now` (R12, R14): it begins, goes on, or ends and adds its minutes. -/
def spell (since : Option Nat) (on : Bool) (total now : Nat) : Nat × Option Nat :=
  match since, on with
  | some m, true => (total, some m)
  | some m, false => (satCount (total + (now - m)), none)
  | none, true => (total, some now)
  | none, false => (total, none)

/-- A total as of minute `now`: the open spell of its kind included (R13). -/
def asOf (since : Option Nat) (total now : Nat) : Nat :=
  match since with
  | some m => satCount (total + (now - m))
  | none => total

/-! ### Small helpers over lists -/

/-- The best entry of a list, the first of equals. -/
def pick {α : Type} (better : α → α → Bool) : List α → Option α
  | [] => none
  | x :: xs =>
    match pick better xs with
    | none => some x
    | some y => if better y x then some y else some x

/-- An entry put into a list before the first entry that it precedes. -/
def insertBy {α : Type} (before : α → α → Bool) (x : α) : List α → List α
  | [] => [x]
  | y :: ys => if before x y then x :: y :: ys else y :: insertBy before x ys

/-- A list put in order, equal entries keeping theirs. -/
def sortBy {α : Type} (before : α → α → Bool) (l : List α) : List α := l.foldl (fun acc x => insertBy before x acc) []

/-! ### Receivers, hires and badges -/

/-- The receiver record of a serial. -/
def Hall.receiver (h : Hall) (s : Serial) : Option Receiver := h.fleet.receivers.find? fun r => r.serial == s

/-- The open hire of a number. -/
def Hall.hire (h : Hall) (n : Nat) : Option Hire := h.fleet.hires.find? fun r => r.number == n

/-- The entry of a badge. -/
def Hall.badge (h : Hall) (b : Serial) : Option Badge := h.fleet.badges.find? fun r => r.number == b

/-- Stores a receiver record under its serial, replacing one that is there. -/
def Hall.putReceiver (r : Receiver) (h : Hall) : Hall :=
  let l := insertBy (fun x y => x.serial < y.serial) r (h.fleet.receivers.filter fun x => x.serial != r.serial)
  { h with fleet := { h.fleet with receivers := l } }

/-- Removes the receiver record of a serial. -/
def Hall.dropReceiver (s : Serial) (h : Hall) : Hall :=
  { h with fleet := { h.fleet with receivers := h.fleet.receivers.filter fun x => x.serial != s } }

/-- Stores an open hire under its number, replacing one that is there. -/
def Hall.putHire (r : Hire) (h : Hall) : Hall :=
  let l := insertBy (fun x y => x.number < y.number) r (h.fleet.hires.filter fun x => x.number != r.number)
  { h with fleet := { h.fleet with hires := l } }

/-- Removes the open hire of a number. -/
def Hall.dropHire (n : Nat) (h : Hall) : Hall :=
  { h with fleet := { h.fleet with hires := h.fleet.hires.filter fun x => x.number != n } }

/-- Stores a badge entry, or removes it where its list is empty and its debt 0 (R103). -/
def Hall.putBadge (b : Badge) (h : Hall) : Hall :=
  let others := h.fleet.badges.filter fun x => x.number != b.number
  let l := if b.hires = [] ∧ b.debt = 0 then others else insertBy (fun x y => x.number < y.number) b others
  { h with fleet := { h.fleet with badges := l } }

end Sys2Proof.Machine
end

