-- ==== Sys2Proof/Machine/Meters.lean ====
section
/-! DEFINITION. The meter unit (spec/09_meters.md, R148 to R156): events, levels, window closes, clearing. -/

namespace Sys2Proof

/-- The source is a level kind. -/
def MeterSource.isLevel : MeterSource → Bool
  | .liveConsoles | .openHires | .carriersInUse | .unservedChannels => true
  | _ => false

/-- The kind of value the qualifier names is one the source carries (R149). -/
def MeterSource.carries (s : MeterSource) : Machine.Qualifier → Bool
  | .any => true
  | .desk _ | .tariff _ =>
    match s with
    | .issue | .returned | .language | .overdue | .lowBattery => true
    | _ => false
  | .booth _ =>
    match s with
    | .live | .handover | .handoverExpired | .relayFallback | .shiftDue | .consoleFault => true
    | _ => false
  | .channel _ =>
    match s with
    | .issue | .returned | .language | .overdue | .lowBattery => true
    | .live | .handover | .handoverExpired | .relayFallback | .shiftDue => true
    | .carrierEvict | .carrierWait => true
    | _ => false

end Sys2Proof

namespace Sys2Proof.Machine

/-- An event handed to the meter unit with the values it carries (R149). -/
structure MeterEvent where
  kind    : MeterSource
  booth   : Option BoothId
  desk    : Option DeskId
  tariff  : Option TariffId
  channel : Option ChannelId
deriving DecidableEq, Repr

/-- An event that carries a booth and a channel. -/
def boothEvent (kind : MeterSource) (b : BoothId) (c : Option ChannelId) : MeterEvent := ⟨kind, some b, none, none, c⟩

/-- An event that carries a channel alone. -/
def channelEvent (kind : MeterSource) (c : ChannelId) : MeterEvent := ⟨kind, none, none, none, some c⟩

/-- An event that carries a desk, a tariff class and a channel. -/
def hireEvent (kind : MeterSource) (d : DeskId) (t : TariffId) (c : ChannelId) : MeterEvent :=
  ⟨kind, none, some d, some t, some c⟩

/-- The event qualifies: ANY, or its value of the qualifier's kind is the qualifier's (R150). -/
def MeterEvent.qualifies (e : MeterEvent) : Qualifier → Bool
  | .any => true
  | .booth b => e.booth == some b
  | .desk d => e.desk == some d
  | .channel c => e.channel == some c
  | .tariff t => e.tariff == some t

/-- The present level of a level kind; none for an event kind (R149). -/
def Levels.of (l : Levels) : MeterSource → Option Nat
  | .liveConsoles => some l.live
  | .openHires => some l.hires
  | .carriersInUse => some l.carriers
  | .unservedChannels => some l.unserved
  | _ => none

/-- The preset test after a rise (R152). -/
def presetTest (m : MeterId) (h : Hall) : Hall :=
  let set := h.settings.meters[m]
  let run := h.meters[m]
  if set.preset > 0 ∧ run.latch = false ∧ run.count = set.preset then
    (h.post .meter .meterPreset (numOf m) run.count).modMeter m fun r => { r with latch := true }
  else h

/-- The saturation test after a rise (R152). The notice's value is not stated: a free value (log entry 1). -/
def fullTest (m : MeterId) (h : Hall) : Hall :=
  let run := h.meters[m]
  if run.count = maxCount ∧ run.full = false then
    let h := (h.post .meter .meterFull (numOf m) (Config.freeValue h.free)).modMeter m fun r => { r with full := true }
    { h with free := h.free + 1 }
  else h

/-- A meter's count rises by 1 and the tests of R152 are made; a saturated count does not rise. -/
def raiseCount (m : MeterId) (h : Hall) : Hall :=
  if h.meters[m].count < maxCount then
    fullTest m (presetTest m (h.modMeter m fun r => { r with count := r.count + 1 }))
  else h

/-- An event offered to one meter (R150). -/
def offerEvent (e : MeterEvent) (h : Hall) (m : MeterId) : Hall :=
  let set := h.settings.meters[m]
  if set.enabled ∧ set.source = e.kind ∧ e.qualifies set.qualifier then
    if set.threshold = 0 then raiseCount m h
    else h.modMeter m fun r => { r with tally := satCount (r.tally + 1) }
  else h

/-- The meter unit takes an event (R150), offered to the meters in ascending order of number (log entry 52). -/
def meterEvent (e : MeterEvent) (h : Hall) : Hall := (ids 8).foldl (offerEvent e) h

/-- The levels with one kind's value replaced. -/
def Levels.set (l : Levels) (k : MeterSource) (v : Nat) : Levels :=
  match k with
  | .liveConsoles => { l with live := v }
  | .openHires => { l with hires := v }
  | .carriersInUse => { l with carriers := v }
  | .unservedChannels => { l with unserved := v }
  | _ => l

/-- A new level offered to one meter: the greater of tally and level (R150). -/
def offerLevel (k : MeterSource) (v : Nat) (h : Hall) (m : MeterId) : Hall :=
  let set := h.settings.meters[m]
  if set.enabled ∧ set.source = k then h.modMeter m fun r => { r with tally := max r.tally v } else h

/-- The meter unit is handed a level (R149, R150). -/
def meterLevel (k : MeterSource) (v : Nat) (h : Hall) : Hall :=
  (ids 8).foldl (offerLevel k v) { h with levels := h.levels.set k v }

/-- The level is handed where it differs from the last value handed. -/
def meterLevelChange (k : MeterSource) (v : Nat) (h : Hall) : Hall :=
  if h.levels.of k = some v then h else meterLevel k v h

/-- The tally a meter's window begins with: 0, or the present level of its kind (R151, R153). -/
def freshTally (h : Hall) (m : MeterId) : Nat := (h.levels.of h.settings.meters[m].source).getD 0

/-- Clears a meter's results, leaving its next close (R154). -/
def clearResults (h : Hall) (m : MeterId) : Hall :=
  h.modMeter m fun r => { r with count := 0, tally := freshTally h m, prev := false, latch := false, full := false }

/-- The next close of a meter whose window begins now: now plus the window while it is ON with a threshold above 0 (R153).
A sum past 4,294,967,295 stands, which no hall minute reaches (log entry 50). -/
def freshClose (h : Hall) (m : MeterId) : Option Nat :=
  let set := h.settings.meters[m]
  if set.enabled ∧ set.threshold > 0 then some (h.now + set.window) else none

/-- Clears a meter's running state, its window beginning now (R153). -/
def clearRunning (h : Hall) (m : MeterId) : Hall :=
  (clearResults h m).modMeter m fun r => { r with next := freshClose h m }

/-- Clears the running state of every meter (R155). -/
def clearAllRunning (h : Hall) : Hall := (ids 8).foldl clearRunning h

/-- OPEN DAY clears every meter whose day option is on (R154). -/
def clearDayMeters (h : Hall) : Hall :=
  (ids 8).foldl (fun h m => if h.settings.meters[m].day then clearResults h m else h) h

/-- The result of a window with this tally (R151). -/
def windowResult (set : MeterSettings) (tally : Nat) : Bool :=
  if set.invert then tally < set.threshold else set.threshold ≤ tally

/-- A meter's window close due at minute `at_` (R151). A next close past 4,294,967,295 stands as that sum (log entry 50). -/
def closeWindow (m : MeterId) (at_ : Nat) (h : Hall) : Hall :=
  let set := h.settings.meters[m]
  let result := windowResult set h.meters[m].tally
  let h := if result ∧ ¬ (set.edge ∧ h.meters[m].prev) then raiseCount m h else h
  h.modMeter m fun r => { r with prev := result, tally := freshTally h m, next := some (at_ + set.window) }

/-- A window close is taken where the minute has reached the meter's next close (R151). -/
def takeWindowClose (m : MeterId) (h : Hall) : Hall :=
  match h.meters[m].next with
  | some n => if n ≤ h.now then closeWindow m n h else h
  | none => h

end Sys2Proof.Machine
end

