-- ==== Sys2Proof/Machine/Spells.lean ====
section
/-! DEFINITION. Served status, and the outage, on-air and fill spells of a channel (R11 to R14), with the level
UNSERVED_CHANNELS. -/

namespace Sys2Proof.Machine

/-- The hall is dark while no emitter slot is OK (R92). -/
def Hall.dark (h : Hall) : Bool := (ids 8).all fun e => h.link.slots[e].state != .ok

/-- The session state is RUNNING (R137). -/
def Hall.running (h : Hall) : Bool :=
  match h.account.session with
  | .running _ _ => true
  | _ => false

/-- The channel a carrier is assigned to (R78). -/
def Carrier.channel? : Carrier → Option ChannelId
  | .free => none
  | .onAir c _ => some c
  | .holding c _ _ => some c

/-- The carrier is HOLDING. -/
def Carrier.isHolding : Carrier → Bool
  | .holding _ _ _ => true
  | _ => false

/-- The carrier is FREE. -/
def Carrier.isFree : Carrier → Bool
  | .free => true
  | _ => false

/-- The carrier assigned to a channel (R78). -/
def Hall.carrierOf (h : Hall) (c : ChannelId) : Option CarrierId :=
  (ids 16).find? fun k => h.air.carriers[k].channel? == some c

/-- A channel's carrier and whether it is HOLDING (R19, R89). -/
def Hall.carrierView (h : Hall) (c : ChannelId) : Option (CarrierId × Bool) :=
  (h.carrierOf c).map fun k => (k, h.air.carriers[k].isHolding)

/-- The channel holds a carrier whose state is ON_AIR. -/
def Hall.onAir (h : Hall) (c : ChannelId) : Bool :=
  match h.carrierView c with
  | some (_, holding) => !holding
  | none => false

/-- The served condition (R11). -/
def Hall.serves (h : Hall) (c : ChannelId) : Bool :=
  h.settings.channels[c].enabled && !h.dark && h.running && h.channels[c].service == .live && h.onAir c

/-- The outage condition (R12). -/
def Hall.lacks (h : Hall) (c : ChannelId) : Bool :=
  h.settings.channels[c].enabled && h.running && !h.serves c

/-- The fill condition; channel 0 has no fill spell (R14). -/
def Hall.fills (h : Hall) (c : ChannelId) : Bool :=
  c != 0 && h.settings.channels[c].enabled && h.channels[c].service == .fill && h.dayOpen

/-- A channel's day figures as of now (R13, R14). -/
def Hall.outage (h : Hall) (c : ChannelId) : Nat :=
  asOf h.channels[c].outageSince h.account.channels[c].outage h.now
def Hall.onAirMinutes (h : Hall) (c : ChannelId) : Nat :=
  asOf h.channels[c].servedSince h.account.channels[c].onAir h.now
def Hall.fillMinutes (h : Hall) (c : ChannelId) : Nat :=
  asOf h.channels[c].fillSince h.account.channels[c].fill h.now

/-- The spells of a channel meet their conditions at the present minute (R12, R14). A figure that changes is retained
state, so its write is asked for (R1). -/
def Hall.spells (h : Hall) (c : ChannelId) : Hall :=
  let run := h.channels[c]
  let day := h.account.channels[c]
  let o := spell run.outageSince (h.lacks c) day.outage h.now
  let s := spell run.servedSince (h.serves c) day.onAir h.now
  let f := spell run.fillSince (h.fills c) day.fill h.now
  let day' : ChannelDay := ⟨o.1, s.1, f.1⟩
  let h1 := h.modChannel c fun r => { r with outageSince := o.2, servedSince := s.2, fillSince := f.2 }
  let h2 := h1.modChannelDay c fun _ => day'
  if day' = day then h2 else h2.ask onlyAccount

/-- The number of ENABLED channels that are unserved (R149). -/
def Hall.unservedCount (h : Hall) : Nat :=
  ((ids 32).filter fun c => h.settings.channels[c].enabled && h.channels[c].servedSince.isNone).length

/-- The channel plan hands the count of unserved channels where it has changed (R10). -/
def Hall.handUnserved (h : Hall) : Hall := meterLevelChange .unservedChannels h.unservedCount h

/-- A channel re-evaluated where its service state cannot change: its spells, and the count of unserved channels (R10). -/
def reviewChannel (h : Hall) (c : ChannelId) : Hall := (h.spells c).handUnserved

/-- Every channel re-evaluated where no service state can change: a change of session state, of the day, or of hall
dark (R10, R14). One such event moves the count of unserved channels one way only, so that the count it ends with is the
highest or the lowest of those it passes through, and is handed once. -/
def Hall.spellsAll (h : Hall) : Hall := ((ids 32).foldl Hall.spells h).handUnserved

/-- Channel `c`'s open spells brought up to now, staying open from now (R17). -/
def Hall.bringUpChannel (h : Hall) (c : ChannelId) : Hall :=
  let run := h.channels[c]
  let day := h.account.channels[c]
  let day' : ChannelDay := ⟨h.outage c, h.onAirMinutes c, h.fillMinutes c⟩
  let h1 := h.modChannel c fun r =>
    { r with
      outageSince := run.outageSince.map fun _ => h.now
      servedSince := run.servedSince.map fun _ => h.now
      fillSince := run.fillSince.map fun _ => h.now }
  let h2 := h1.modChannelDay c fun _ => day'
  if day' = day then h2 else h2.ask onlyAccount

/-- Every channel's open spells brought up to now (R17). -/
def Hall.bringUpChannels (h : Hall) : Hall := (ids 32).foldl Hall.bringUpChannel h

end Sys2Proof.Machine
end

