-- ==== Sys2Proof/Machine/Carriers.lean ====
section
/-! DEFINITION. The carrier allocator and the emitter link controller (spec/05_carriers_and_emitters.md, R78 to R96). -/

namespace Sys2Proof.Machine

/-- Carriers 1 to 15, which are allocatable (R78). -/
def allocatable : List CarrierId := (ids 16).filter fun k => k != 0

/-- A channel's demand (R15). -/
def Hall.demand (h : Hall) (c : ChannelId) : Nat := h.channels[c].demand

/-- Carriers in use: those not FREE (R89). -/
def Hall.inUse (h : Hall) : Nat := ((ids 16).filter fun k => !h.air.carriers[k].isFree).length

/-- The directory as it stands (R90). -/
def Hall.directory (h : Hall) : Directory :=
  (ids 16).filterMap fun k => (h.air.carriers[k].channel?).map fun c => (k, h.settings.channels[c].code)

/-- The wait list's order: demand highest first, then channel number lowest first (R84). -/
def Hall.outranks (h : Hall) (c d : ChannelId) : Bool :=
  h.demand d < h.demand c || (h.demand c == h.demand d && c < d)

/-- A channel joins the carrier wait list, with the notice of its position and the meter event (R84). -/
def joinWait (c : ChannelId) (h : Hall) : Hall :=
  let l := insertBy h.outranks c h.air.waiting
  meterEvent (channelEvent .carrierWait c)
    ((h.setWaiting l).post .carrier .carrierWait c.val (l.idxOf c + 1))

/-- A channel leaves the carrier wait list; those behind it move up (R84). -/
def leaveWait (c : ChannelId) (h : Hall) : Hall := h.setWaiting (h.air.waiting.filter fun d => d != c)

/-- Carrier `k` becomes ON_AIR for `c`, stamped now (R81). -/
def giveCarrier (k : CarrierId) (c : ChannelId) (h : Hall) : Hall := h.setCarrier k (.onAir c h.now)

/-- An eviction of channel `e` from carrier `k`: notice and meter event (R83). -/
def postEvict (k : CarrierId) (e : ChannelId) (h : Hall) : Hall :=
  meterEvent (channelEvent .carrierEvict e) (h.post .carrier .carrierEvict e.val k.val)

/-- Step 1 of R81: the lowest-numbered FREE carrier. -/
def freeCarrier (h : Hall) : Option CarrierId := allocatable.find? fun k => h.air.carriers[k].isFree

/-- A carrier's hold expiry (R78). -/
def Carrier.expiry? : Carrier → Option Nat
  | .holding _ _ e => some e
  | _ => none

/-- Step 2 of R81: the HOLDING carrier with the earliest expiry, the lower number of equals. -/
def holdingCarrier (h : Hall) : Option CarrierId :=
  pick (fun j k => (h.air.carriers[j].expiry?).getD 0 < (h.air.carriers[k].expiry?).getD 0)
    (allocatable.filter fun k => h.air.carriers[k].isHolding)

/-- The carriers ON_AIR for an unpinned channel of service state `v`, with their channels. -/
def holders (v : Service) (h : Hall) : List (CarrierId × ChannelId) :=
  allocatable.filterMap fun k =>
    match h.air.carriers[k] with
    | .onAir c _ => if !h.settings.channels[c].pinned && h.channels[c].service == v then some (k, c) else none
    | _ => none

/-- Of two holders the one taken first: lower demand, then higher channel number (R81). -/
def Hall.takenFirst (h : Hall) (x y : CarrierId × ChannelId) : Bool :=
  h.demand x.2 < h.demand y.2 || (h.demand x.2 == h.demand y.2 && y.2 < x.2)

/-- Step 3 of R81: the unpinned FILL holder of lowest demand. -/
def fillHolder (h : Hall) : Option (CarrierId × ChannelId) := pick h.takenFirst (holders .fill h)

/-- Step 4 of R81: the unpinned LIVE holder of lowest demand whose demand plus the margin is below the requester's;
the margin test is waived for a pinned requester (R82). -/
def liveHolder (c : ChannelId) (h : Hall) : Option (CarrierId × ChannelId) :=
  pick h.takenFirst ((holders .live h).filter fun x =>
    h.settings.channels[c].pinned || h.demand x.2 + h.settings.hall.margin < h.demand c)

/-- Steps 1 to 4 of R81 for channel `c`; none where no step succeeds. -/
def offer (c : ChannelId) (h : Hall) : Option Hall :=
  match freeCarrier h with
  | some k => some (giveCarrier k c h)
  | none =>
    match holdingCarrier h with
    | some k => some (giveCarrier k c h)
    | none =>
      match fillHolder h with
      | some (k, e) => some (giveCarrier k c (postEvict k e h))
      | none =>
        match liveHolder c h with
        | some (k, e) => some (joinWait e (giveCarrier k c (postEvict k e h)))
        | none => none

/-- A channel requests a carrier (R81). -/
def requestCarrier (c : ChannelId) (h : Hall) : Hall :=
  match offer c h with
  | some h' => h'
  | none => joinWait c h

/-- Service of the wait list, at most `n` grants (R86). No channel is granted twice in one service, so 32 grants
never run out. -/
def serveList : Nat → Hall → Hall
  | 0, h => h
  | n + 1, h =>
    match h.air.waiting with
    | [] => h
    | c :: rest =>
      match offer c (h.setWaiting rest) with
      | some h' => serveList n h'
      | none => h

/-- The directory's generation after an event (R90). -/
def raiseGeneration (h : Hall) : Hall :=
  if h.directory = h.link.content then h
  else { h with link := { h.link with content := h.directory, generation := (h.link.generation + 1) % 65536 } }

/-- The count of carriers in use handed to the meter unit and the peak (R89, R93). -/
def handInUse (h : Hall) : Hall :=
  meterLevelChange .carriersInUse h.inUse { h with air := { h.air with peak := max h.air.peak h.inUse } }

/-- What the allocator hands over at the end of an event that began at `before` (R89): each channel whose carrier
changed once, with its final carrier, in ascending order (log entry 14), then the directory, then the count of carriers
in use. Each report is an event of the channel plan, which hands on the count of unserved channels (R10). -/
def allocReport (before h : Hall) : Hall :=
  let changed := (ids 32).filter fun c => before.carrierView c != h.carrierView c
  handInUse (raiseGeneration (changed.foldl reviewChannel h))

/-- An event of the carrier allocator: its own action, service of the list, and the report (R86, R89). -/
def allocEvent (act : Hall → Hall) (h : Hall) : Hall := allocReport h (serveList 32 (act h))

/-- A HOLDING carrier of a channel returns to ON_AIR, keeping its stamp (R80, R87). -/
def resumeCarrier (k : CarrierId) (h : Hall) : Hall :=
  match h.air.carriers[k] with
  | .holding c s _ => h.setCarrier k (.onAir c s)
  | _ => h

/-- An unpinned channel with an ON_AIR carrier became SILENT: the hold of R87. -/
def beginHold (k : CarrierId) (h : Hall) : Hall :=
  match h.air.carriers[k] with
  | .onAir c s =>
    if h.settings.hall.hold = 0 then h.setCarrier k .free
    else h.setCarrier k (.holding c s (h.tenths + h.settings.hall.hold))
  | _ => h

/-- The allocator's action on a report of a new service state (R80); OFF is the disable of R88. -/
def serviceReport (c : ChannelId) (v : Service) (h : Hall) : Hall :=
  match h.carrierOf c, v with
  | none, .live => if c ∈ h.air.waiting then h else requestCarrier c h
  | none, _ => leaveWait c h
  | some k, .live => resumeCarrier k h
  | some k, .fill => resumeCarrier k h
  | some k, .silent => if h.settings.channels[c].pinned then h else beginHold k h
  | some k, .off => leaveWait c (h.setCarrier k .free)

/-- The allocator's action when pinned is set on for an ENABLED channel, or a pinned channel is enabled (R80, R82). -/
def pinnedReport (c : ChannelId) (h : Hall) : Hall :=
  match h.carrierOf c with
  | none => requestCarrier c (leaveWait c h)
  | some k => resumeCarrier k h

/-- The allocator's action when pinned is set off (R88). -/
def unpinnedReport (c : ChannelId) (h : Hall) : Hall :=
  match h.carrierOf c with
  | some k => if h.channels[c].service = .silent then h.setCarrier k .free else h
  | none => h

/-- The wait list put in order again after a demand change (R85). -/
def reorder (h : Hall) : Hall := h.setWaiting (sortBy h.outranks h.air.waiting)

/-- A hold expiry: the carrier becomes FREE (R87). It is not taken where no hold stands due. -/
def expireHold (k : CarrierId) (h : Hall) : Hall :=
  if h.timerDue h.air.carriers[k].expiry? then allocEvent (fun h => h.setCarrier k .free) h else h

/-- The allocator's build from empty (R94): carrier 0 to channel 0, then the ENABLED pinned channels of 1 to 31 in
channel order, then the LIVE unpinned ones in the order the wait list would rank them. -/
def buildCarriers (h : Hall) : Hall :=
  let h0 := (ids 16).foldl (fun h k => h.setCarrier k (if k = 0 then .onAir 0 h.now else .free)) (h.setWaiting [])
  let wants (p : Bool) : List ChannelId := (ids 32).filter fun c =>
    c != 0 && h.settings.channels[c].enabled && h.settings.channels[c].pinned == p && (p || h.channels[c].service == .live)
  let h1 := (wants true).foldl (fun h c => requestCarrier c h) h0
  (sortBy h.outranks (wants false)).foldl (fun h c => requestCarrier c h) h1

/-! ### Demand -/

/-- A channel's demand rises by 1, peak demand watching, and is handed to the allocator (R15, R16). -/
def demandRise (c : ChannelId) (h : Hall) : Hall :=
  allocEvent reorder (h.modChannel c fun r => { r with demand := r.demand + 1, peak := max r.peak (r.demand + 1) })

/-- A channel's demand falls by 1 and is handed to the allocator (R15). -/
def demandFall (c : ChannelId) (h : Hall) : Hall :=
  allocEvent reorder (h.modChannel c fun r => { r with demand := r.demand - 1 })

/-! ### Emitter link -/

/-- The number of a slot's state in an EMITTER_CHANGE notice (R91). -/
def SlotState.code : SlotState → Nat
  | .absent => 0
  | .ok => 1
  | .fault => 2

/-- A slot takes a state: a change posts EMITTER_CHANGE, a change to FAULT also makes a fault log entry (R91). -/
def setSlotState (e : EmitterId) (v : SlotState) (h : Hall) : Hall :=
  if h.link.slots[e].state = v then h
  else
    let h1 := (h.modSlot e fun s => { s with state := v }).post .carrier .emitterChange (numOf e) v.code
    if v = .fault then h1.logFault .emitterFault (numOf e) else h1

/-- A change of hall dark since `before` re-evaluates every channel (R92). -/
def darkReport (before h : Hall) : Hall := if before.dark = h.dark then h else h.spellsAll

/-- An emitter's answer (R91): an answer whose slot is not 1 to 8, or that is malformed, is discarded. -/
def takeEmitterAnswer (slot : Nat) (r : EmitterReport) (h : Hall) : Hall :=
  if hs : 1 ≤ slot ∧ slot ≤ 8 then
    let e : EmitterId := ⟨slot - 1, by omega⟩
    let take (v : SlotState) : Hall :=
      darkReport h (setSlotState e v (h.modSlot e fun s => { s with missed := 0, answered := true }))
    match r with
    | .ok => take .ok
    | .fault => take .fault
    | .malformed => h
  else h

/-- The close of the answer window for one slot (R91). -/
def closeSlot (h : Hall) (e : EmitterId) : Hall :=
  let s := h.link.slots[e]
  if s.answered then h.modSlot e fun s => { s with answered := false }
  else
    let missed := min 3 (s.missed + 1)
    let h1 := h.modSlot e fun s => { s with missed := missed }
    if missed = 3 then setSlotState e .absent h1 else h1

/-- The answer window closes: every slot, in ascending order of number, which orders the notices of several slots that
change at one close (log entry 49); then hall dark, and the count of windows since start-up (R91, R92). -/
def closeAnswerWindow (h : Hall) : Hall :=
  let h1 := darkReport h ((ids 8).foldl closeSlot h)
  { h1 with link := { h1.link with windows := min 3 (h1.link.windows + 1) } }

/-- The directory is sent as it stands, with the present generation (R90). -/
def sendDirectory (h : Hall) : Hall :=
  { h with link := { h.link with sentGen := h.link.generation, sent := h.directory } }

/-- A directory send, every 0.25 s, which closes the window of the directory before it (R90, R91). -/
def takeDirectorySend (h : Hall) : Hall :=
  let t := max h.clock.ticks h.link.nextSend
  let h1 := { h with clock := { h.clock with ticks := t }, link := { h.link with nextSend := t + 5 } }
  sendDirectory (closeAnswerWindow h1)

/-- The cause of HALL_DARK: the hall is dark, and the third answer window after start-up has closed (R92). A hall that an
emitter lit before that close and that is dark again at it counts as dark (log entry 42). -/
def Hall.darkCause (h : Hall) : Bool := h.dark && h.link.windows == 3

end Sys2Proof.Machine
end

