-- ==== Sys2Proof/Machine/Relay.lean ====
section
/-! DEFINITION. Relay: incoming source, effective input, fallback and its spells, the relay graph (spec/04_relay.md,
R65 to R77). -/

namespace Sys2Proof.Machine

/-- A booth's incoming source, a channel or FLOOR (R67). -/
def Hall.incoming (h : Hall) (b : BoothId) : Option ChannelId :=
  match h.booths[b].owner with
  | some a => h.consoles[a].relaySel
  | none => h.booths[b].unowned

/-- A booth's effective input (R72). -/
def Hall.effective (h : Hall) (b : BoothId) : Option ChannelId :=
  match h.incoming b with
  | some c => if h.channels[c].service = .live then some c else none
  | none => none

/-- The channel a booth is in fallback on by the three conditions of R73; none where one fails. -/
def Hall.fallbackDue (h : Hall) (b : BoothId) : Option ChannelId :=
  match h.incoming b with
  | some c => if h.settings.booths[b].enabled ∧ h.channels[c].service ≠ .live then some c else none
  | none => none

/-- A booth's fallback spell ends: its minutes are added and the ACCOUNT write asked for (R74). -/
def endFallbackSpell (b : BoothId) (h : Hall) : Hall :=
  match h.booths[b].fallbackSince with
  | some m =>
    ((h.modBooth b fun r => { r with fallbackSince := none }).modBoothDay b fun d =>
      { d with fallback := satCount (d.fallback + (h.now - m)) }).ask onlyAccount
  | none => h

/-- A booth in fallback opens its spell while the day is OPEN (R74). -/
def openFallbackSpell (b : BoothId) (h : Hall) : Hall :=
  if h.dayOpen then h.modBooth b fun r => { r with fallbackSince := some h.now } else h

/-- A booth's fallback minutes today as of now (R77). -/
def Hall.fallbackMinutes (h : Hall) (b : BoothId) : Nat :=
  asOf h.booths[b].fallbackSince h.account.booths[b].fallback h.now

/-- A booth resolved: its fallback state before and after are compared (R72, R73). -/
def resolveBooth (h : Hall) (b : BoothId) : Hall :=
  match h.booths[b].fallback, h.fallbackDue b with
  | none, some c =>
    let h1 := (h.modBooth b fun r => { r with fallback := some c }).post .booth .relayFallback (numOf b) c.val
    openFallbackSpell b (meterEvent (boothEvent .relayFallback b (some c)) h1)
  | some c, none =>
    let h1 := (h.modBooth b fun r => { r with fallback := none }).post .booth .relayRestored (numOf b) c.val
    endFallbackSpell b h1
  | some _, some d => h.modBooth b fun r => { r with fallback := some d }
  | none, none => h

/-- Every booth resolved, in ascending order of number (R67, R73). -/
def resolveAll (h : Hall) : Hall := (ids 16).foldl resolveBooth h

/-- The booths whose relay choice list holds a channel, resolved in ascending order (R72). -/
def resolveListing (c : ChannelId) (h : Hall) : Hall :=
  ((ids 16).filter fun b => c ∈ h.settings.booths[b].relayList).foldl resolveBooth h

/-- The next source of a booth's cycle after `s` (R68). -/
def nextSource (list : List ChannelId) (s : Option ChannelId) : Option ChannelId :=
  match s with
  | none => list.head?
  | some c => if c ∈ list then list[list.idxOf c + 1]? else none

/-! ### The relay graph -/

/-- Booth `b` names channel `c` as an output. -/
def BoothSettings.names (s : BoothSettings) (c : ChannelId) : Bool := s.outA == some c || s.outB == some c

/-- An edge of the relay graph: `x` lists a channel that `y` names as an output (R69). -/
def relayEdge (bs : Vector BoothSettings 16) (x y : BoothId) : Bool := bs[x].relayList.any fun c => bs[y].names c

/-- The booths with an edge to a booth of `l`. -/
def edgesInto (bs : Vector BoothSettings 16) (l : List BoothId) : List BoothId :=
  (ids 16).filter fun x => l.any fun y => relayEdge bs x y

/-- The booths from which a path of `k` edges starts (R69). -/
def pathStarts (bs : Vector BoothSettings 16) : Nat → List BoothId
  | 0 => ids 16
  | k + 1 => edgesInto bs (pathStarts bs k)

/-- The relay graph check (R69): LOOP where a list names one of its booth's own outputs or a path leads back to its
booth (then, of 16 booths, a path of 16 edges exists); DEPTH where some path has 4 or more edges; pass otherwise. -/
def relayCheck (bs : Vector BoothSettings 16) : Option AnswerCode :=
  if (ids 16).any fun b => bs[b].relayList.any bs[b].names then some .loop
  else if pathStarts bs 16 ≠ [] then some .loop
  else if pathStarts bs 4 ≠ [] then some .depth
  else none

end Sys2Proof.Machine
end

