-- ==== Sys2Proof/Machine/Plan.lean ====
section
/-! DEFINITION. The channel plan's re-evaluation of a channel and what it hands on (R4, R7 to R10). -/

namespace Sys2Proof.Machine

/-- A channel's service state by the tests of R10. -/
def Hall.serviceOf (h : Hall) (c : ChannelId) : Service :=
  if c = 0 then .live
  else if h.settings.channels[c].enabled = false then .off
  else if h.channels[c].feeder.isSome then .live
  else if h.settings.channels[c].fill then .fill
  else .silent

/-- A re-evaluation of channel `c` (R10): the new service state, the spells of R12 and R14, the count of unserved
channels handed to the meter unit, and, where the service state has changed, the change handed to the carrier allocator
and to the booth controller. What the allocator reports of it is a further event, so the count stands handed before. -/
def reevaluate (h : Hall) (c : ChannelId) : Hall :=
  let v := h.serviceOf c
  if h.channels[c].service = v then reviewChannel h c
  else
    let h1 := reviewChannel (h.modChannel c fun r => { r with service := v }) c
    resolveListing c (allocEvent (serviceReport c v) h1)

/-- The channels whose feeder changed in an event, each reported once at its end, in the order they changed (R50). -/
def reportFeeders (h : Hall) : Hall :=
  let l := h.work.touched
  l.foldl reevaluate { h with work := { h.work with touched := [] } }

end Sys2Proof.Machine
end

