-- ==== Sys2Proof/Machine/Interlock.lean ====
section
/-! DEFINITION. The interlock: waiting places, the console keys, grants, releases and passing on, expiries and host
orders (spec/03_interlock_and_handover.md, R44 to R64). -/

namespace Sys2Proof.Machine

/-! ### Reading the interlock -/

/-- The booth a console is assigned to (R23). -/
def Hall.boothOf (h : Hall) (a : ConsoleId) : Option BoothId := h.settings.consoleBooth[a]

/-- The consoles assigned to a booth, in ascending order (R20). -/
def Hall.consolesOf (h : Hall) (b : BoothId) : List ConsoleId :=
  (ids 48).filter fun a => h.settings.consoleBooth[a] == some b

/-- The channel a booth names for an output selection. -/
def BoothSettings.output (s : BoothSettings) : Output → Option ChannelId
  | .a => s.outA
  | .b => s.outB

/-- A console's target channel: the booth output named by its output selection. -/
def Hall.target (h : Hall) (a : ConsoleId) : Option ChannelId :=
  match h.boothOf a with
  | some b => h.settings.booths[b].output h.consoles[a].output
  | none => none

/-- The channel a console feeds. -/
def Hall.feeds (h : Hall) (a : ConsoleId) : Option ChannelId :=
  (ids 32).find? fun c => h.channels[c].feeder == some a

/-- The channel on whose wait list a console has an entry (R44). -/
def Hall.waitsOn (h : Hall) (a : ConsoleId) : Option ChannelId :=
  (ids 32).find? fun c => h.waitLists[c].any fun e => e.console == a

/-- LIVE or MUTED. -/
def ConsoleState.onChannel : ConsoleState → Bool
  | .live | .muted => true
  | _ => false

/-- The states in which a console is polled (R24). -/
def ConsoleState.polled : ConsoleState → Bool
  | .idle | .requesting | .live | .muted => true
  | _ => false

/-- The number of consoles LIVE or MUTED (R24). -/
def Hall.liveCount (h : Hall) : Nat := ((ids 48).filter fun a => h.consoles[a].state.onChannel).length

/-! ### Live spells (R38) -/

/-- Ends a console's live spell, adding its minutes to the console and to its booth (R38). -/
def endLiveSpell (a : ConsoleId) (h : Hall) : Hall :=
  match h.consoles[a].liveSince with
  | none => h
  | some m =>
    let mins := h.now - m
    let h1 := (h.modConsole a fun r => { r with liveSince := none }).addConsoleLive a mins
    let h2 :=
      match h.boothOf a with
      | some b => h1.modBoothDay b fun d => { d with live := satCount (d.live + mins) }
      | none => h1
    h2.ask onlyAccount

/-- A console that leaves LIVE or MUTED: its live spell ends and its continuous-live start, reminder and SHIFT lamp go
(R38, R50, R60). -/
def stepDown (a : ConsoleId) (v : ConsoleState) (h : Hall) : Hall :=
  (endLiveSpell a h).modConsole a fun r =>
    { r with state := v, contStart := none, nextShift := none, shiftLamp := false }

/-- Opens a console's live spell while the day is OPEN (R38). -/
def openLiveSpell (a : ConsoleId) (h : Hall) : Hall :=
  if h.dayOpen then h.modConsole a fun r => { r with liveSince := some h.now } else h

/-! ### Granting, requests and pass-ons -/

/-- Sets a channel's feeder. -/
def setFeeder (c : ChannelId) (f : Option ConsoleId) (h : Hall) : Hall :=
  (h.modChannel c fun r => { r with feeder := f }).touch c

/-- Sets a booth's owner. -/
def setOwner (b : BoothId) (o : Option ConsoleId) (h : Hall) : Hall := h.modBooth b fun r => { r with owner := o }

/-- Takes a console's entry off channel `c`'s wait list (R44). -/
def dropEntry (c : ChannelId) (a : ConsoleId) (h : Hall) : Hall :=
  h.modWaitList c fun l => l.filter fun e => e.console != a

/-- Console `a` of booth `b` is granted channel `c` (R49). A next reminder past 4,294,967,295 stands as that sum, which no
hall minute reaches (R60, log entry 50). -/
def grant (a : ConsoleId) (b : BoothId) (c : ChannelId) (h : Hall) : Hall :=
  let h1 := h.modConsole a fun r =>
    { r with
      state := .live
      handoverExpiry := none
      engagedFlash := none
      contStart := some h.now
      nextShift := some (h.now + h.settings.booths[b].shift1) }
  let h2 := openLiveSpell a (dropEntry c a (setOwner b (some a) (setFeeder c (some a) h1)))
  (meterEvent (boothEvent .live b (some c)) h2).noteGrant a

/-- Starts a console's handover timer in a booth of HANDOVER mode (R55). -/
def startTimer (a : ConsoleId) (b : BoothId) (h : Hall) : Hall :=
  if h.settings.booths[b].mode = .handover then
    h.modConsole a fun r => { r with handoverExpiry := some (h.tenths + h.settings.booths[b].timeout) }
  else h

/-- A request at a free booth, on target channel `c` (R46): granted where the channel has no feeder, else the console
becomes its booth's owner at the tail of the channel's wait list. -/
def freshRequest (a : ConsoleId) (b : BoothId) (c : ChannelId) (h : Hall) : Hall :=
  if h.channels[c].feeder.isNone then grant a b c h
  else
    let h1 := h.modConsole a fun r => { r with state := .requesting, engagedFlash := none }
    startTimer a b ((setOwner b (some a) h1).modWaitList c fun l => l ++ [⟨a, b⟩])

/-- The channel pass-on (R51): the head of the wait list is granted the channel, or it is left without a feeder. -/
def channelPassOn (c : ChannelId) (h : Hall) : Hall :=
  match h.waitLists[c] with
  | e :: _ => grant e.console e.booth c h
  | [] => setFeeder c none h

/-- The booth pass-on (R52): the queue head is taken as a fresh request, or the booth is left without an owner. -/
def boothPassOn (b : BoothId) (h : Hall) : Hall :=
  match h.booths[b].queue with
  | [] => setOwner b none h
  | y :: rest =>
    let h1 := (h.modBooth b fun r => { r with queue := rest, owner := none }).modConsole y fun r =>
      { r with handoverExpiry := none }
    match h1.target y with
    | some t => freshRequest y b t h1
    | none => h1.modConsole y fun r => { r with state := .idle }

/-- A LIVE or MUTED console leaves for state `v`, and its channel is passed on (R50, steps 1 to 5). -/
def releaseChannel (a : ConsoleId) (v : ConsoleState) (b : BoothId) (h : Hall) : Hall :=
  let h1 := setOwner b none (stepDown a v h)
  match h.feeds a with
  | some c => channelPassOn c (setFeeder c none h1)
  | none => h1

/-- A LIVE or MUTED console is released, with both pass-ons (R50). -/
def release (a : ConsoleId) (v : ConsoleState) (h : Hall) : Hall :=
  match h.boothOf a with
  | some b => boothPassOn b (releaseChannel a v b h)
  | none => stepDown a v h

/-- A REQUESTING console's wait ends without a grant and it takes state `v` (R53, R56): out of its booth's queue, or
off a channel wait list with the booth pass-on. -/
def endWait (a : ConsoleId) (v : ConsoleState) (h : Hall) : Hall :=
  let h1 := h.modConsole a fun r => { r with state := v, handoverExpiry := none, engagedFlash := none }
  match h.boothOf a with
  | none => h1
  | some b =>
    if a ∈ h.booths[b].queue then h1.modBooth b fun r => { r with queue := r.queue.filter fun x => x != a }
    else
      match h.waitsOn a with
      | some c => boothPassOn b (setOwner b none (dropEntry c a h1))
      | none => h1

/-! ### The keys -/

/-- A momentary refusal: ENGAGED flashes for 2.0 s (R29). -/
def flash (a : ConsoleId) (h : Hall) : Hall :=
  h.modConsole a fun r => { r with engagedFlash := some (h.tenths + 20) }

/-- A TALK request meeting an owner in HANDOVER or QUEUE mode (R47). -/
def queueRequest (a : ConsoleId) (b : BoothId) (h : Hall) : Hall :=
  let h1 := h.modConsole a fun r => { r with state := .requesting, engagedFlash := none }
  startTimer a b (h1.modBooth b fun r => { r with queue := r.queue ++ [a] })

/-- The waiting old owner `o` of an OVERRIDE booth becomes IDLE, its timer and ENGAGED lamp cleared (R48). -/
def dismissWaiter (o : ConsoleId) (h : Hall) : Hall :=
  h.modConsole o fun r => { r with state := .idle, handoverExpiry := none, engagedFlash := none }

/-- An OVERRIDE request of console `a` with target `t` against owner `o` (R48). -/
def overrideRequest (a : ConsoleId) (b : BoothId) (o : ConsoleId) (t : ChannelId) (h : Hall) : Hall :=
  if h.consoles[o].state.onChannel then
    if h.feeds o = some t then grant a b t (stepDown o .idle h)
    else freshRequest a b t (releaseChannel o .idle b h)
  else
    match h.waitsOn o with
    | none => h
    | some c =>
      let h1 := dismissWaiter o h
      if c = t then
        let h2 := h1.modConsole a fun r => { r with state := .requesting, engagedFlash := none }
        (setOwner b (some a) h2).modWaitList c fun l => l.map fun e => if e.console = o then ⟨a, b⟩ else e
      else freshRequest a b t (setOwner b none (dropEntry c o h1))

/-- A TALK request of an IDLE console (R46). -/
def talkRequest (a : ConsoleId) (b : BoothId) (h : Hall) : Hall :=
  if h.settings.booths[b].enabled = false then flash a h
  else
    match h.target a with
    | none => flash a h
    | some t =>
      match h.booths[b].owner with
      | none => freshRequest a b t h
      | some o =>
        if h.settings.booths[b].mode = .override then overrideRequest a b o t h else queueRequest a b h

/-- A TALK press (R46). -/
def talkPress (a : ConsoleId) (h : Hall) : Hall :=
  match h.boothOf a with
  | none => h
  | some b =>
    match h.consoles[a].state with
    | .idle => talkRequest a b h
    | .requesting => endWait a .idle h
    | .live | .muted => release a .idle h
    | .absent | .fault | .quarantined => h

/-- A HANDOVER press (R54). The count rises whether the day is OPEN or CLOSED (log entry 47). -/
def handoverPress (a : ConsoleId) (h : Hall) : Hall :=
  match h.boothOf a with
  | none => h
  | some b =>
    match h.consoles[a].state.onChannel, h.booths[b].queue, h.feeds a with
    | true, y :: rest, some c =>
      let h1 := ((stepDown a .idle h).modBooth b fun r => { r with queue := rest }).modConsole y fun r =>
        { r with handoverExpiry := none }
      let t := h1.target y
      let h2 :=
        if t = some c then grant y b c h1
        else
          let h3 := channelPassOn c (setFeeder c none (setOwner b none h1))
          match t with
          | some t => freshRequest y b t h3
          | none => h3.modConsole y fun r => { r with state := .idle }
      let h4 := (h2.modBoothDay b fun d => { d with handovers := satCount (d.handovers + 1) }).ask onlyAccount
      meterEvent (boothEvent .handover b t) h4
    | _, _, _ => h

/-- A MUTE press (R57). -/
def mutePress (a : ConsoleId) (h : Hall) : Hall :=
  if h.consoles[a].state = .live then h.modConsole a fun r => { r with state := .muted } else h

/-- A MUTE release (R57). -/
def muteRelease (a : ConsoleId) (h : Hall) : Hall :=
  if h.consoles[a].state = .muted then h.modConsole a fun r => { r with state := .live } else h

/-- An OUTPUT press of a LIVE or MUTED console (R59). -/
def moveFeed (a : ConsoleId) (b : BoothId) (o : Output) (h : Hall) : Hall :=
  if h.consoles[a].output = o then h
  else
    match h.settings.booths[b].output o, h.feeds a with
    | some t, some c =>
      if h.channels[t].feeder.isSome then flash a h
      else
        let h1 := setFeeder t (some a) (h.modConsole a fun r => { r with output := o })
        channelPassOn c (setFeeder c none h1)
    | _, _ => flash a h

/-- An OUTPUT-A or OUTPUT-B press (R58, R59). -/
def outputPress (a : ConsoleId) (o : Output) (h : Hall) : Hall :=
  match h.boothOf a with
  | none => h
  | some b =>
    match h.consoles[a].state with
    | .idle => h.modConsole a fun r => { r with output := o }
    | .live | .muted => moveFeed a b o h
    | .requesting | .absent | .fault | .quarantined => h

/-- A RELAY-NEXT press (R68). -/
def relayNextPress (a : ConsoleId) (h : Hall) : Hall :=
  match h.boothOf a with
  | none => h
  | some b =>
    let list := h.settings.booths[b].relayList
    if list = [] ∨ h.consoles[a].state.polled = false then h
    else
      match h.booths[b].owner with
      | some _ => h.modConsole a fun r => { r with relaySel := nextSource list r.relaySel }
      | none =>
        if h.consoles[a].state = .idle then
          let s := nextSource list h.booths[b].unowned
          (h.modBooth b fun r => { r with unowned := s }).modConsole a fun r => { r with relaySel := s }
        else h

/-! ### The end of a booth controller event -/

/-- The end of an event of the booth controller: the channels whose feeder changed are reported, every booth's source
is taken anew, and the number of consoles LIVE or MUTED is handed over where it has changed (R24, R50, R67). That the
channels are reported before the sources are taken anew is log entry 40's choice. -/
def settle (h : Hall) : Hall :=
  let h1 := resolveAll (reportFeeders h)
  meterLevelChange .liveConsoles h1.liveCount h1

/-- The key events of one acceptance (R31). -/
inductive KeyEvent where
  | muteRelease
  | mutePress
  | talk
  | handover
  | output (o : Output)
  | relayNext
deriving DecidableEq, Repr

/-- The events of an acceptance of `new` after `old`, in their order (R31). -/
def keyEvents (old new : Keys) : List KeyEvent :=
  (if old.mute && !new.mute then [.muteRelease] else if !old.mute && new.mute then [.mutePress] else [])
    ++ (if !old.talk && new.talk then [.talk] else [])
    ++ (if !old.handover && new.handover then [.handover] else [])
    ++ (if !old.outA && new.outA then [.output .a] else [])
    ++ (if !old.outB && new.outB then [.output .b] else [])
    ++ (if !old.relayNext && new.relayNext then [.relayNext] else [])

/-- A key event taken whole by the booth controller; it is discarded where the console has left the polled states
(R31). -/
def takeKey (a : ConsoleId) (h : Hall) (e : KeyEvent) : Hall :=
  if h.consoles[a].state.polled then
    settle <|
      match e with
      | .muteRelease => muteRelease a h
      | .mutePress => mutePress a h
      | .talk => talkPress a h
      | .handover => handoverPress a h
      | .output o => outputPress a o h
      | .relayNext => relayNextPress a h
  else h

/-! ### Expiries, reminders, and host orders on the interlock -/

/-- A handover timer's expiry (R56). It is not taken where no timer stands due: a wait that has since been given a new
timer goes on (R55). -/
def expireHandover (a : ConsoleId) (h : Hall) : Hall :=
  match h.boothOf a with
  | some b =>
    if h.timerDue h.consoles[a].handoverExpiry ∧ h.consoles[a].state = .requesting then
      let c := h.target a
      let h1 := (endWait a .idle h).post .booth .handoverExpired (numOf a) ((c.map Fin.val).getD 0)
      settle (meterEvent (boothEvent .handoverExpired b c) h1)
    else h
  | none => h

/-- A shift reminder, due where the minute has reached the console's next reminder while it is LIVE or MUTED (R60). A next
reminder past 4,294,967,295 stands as that sum (log entry 50). -/
def takeShiftReminder (a : ConsoleId) (h : Hall) : Hall :=
  match h.consoles[a].nextShift, h.boothOf a with
  | some m, some b =>
    if m ≤ h.now ∧ h.consoles[a].state.onChannel then
      let repeat_ := h.settings.booths[b].shiftR
      let mins := h.now - (h.consoles[a].contStart).getD h.now
      let h1 := (h.modConsole a fun r => { r with shiftLamp := true }).post .booth .shiftDue (numOf a) mins
      let h2 := meterEvent (boothEvent .shiftDue b (h.feeds a)) h1
      h2.modConsole a fun r => { r with nextShift := if repeat_ = 0 then none else some (h.now + repeat_) }
    else h
  | _, _ => h

/-- The end of the ENGAGED flash (R29). It is not taken where no flash stands due. -/
def endFlash (a : ConsoleId) (h : Hall) : Hall :=
  if h.timerDue h.consoles[a].engagedFlash then h.modConsole a fun r => { r with engagedFlash := none } else h

/-- FORCE RELEASE of a LIVE, MUTED or REQUESTING console (R61). -/
def forceOff (a : ConsoleId) (h : Hall) : Hall :=
  if h.consoles[a].state.onChannel then release a .idle h else endWait a .idle h

/-- The interlock of a booth made DISABLED is taken down (R62). -/
def disableBooth (b : BoothId) (h : Hall) : Hall :=
  let h1 := h.booths[b].queue.foldl (fun h a =>
    h.modConsole a fun r => { r with state := .idle, handoverExpiry := none }) h
  let h2 := h1.modBooth b fun r => { r with queue := [] }
  let h3 :=
    match h.booths[b].owner with
    | none => h2
    | some o =>
      if h2.consoles[o].state.onChannel then release o .idle h2
      else
        match h2.waitsOn o with
        | some c => dropEntry c o (dismissWaiter o h2)
        | none => dismissWaiter o h2
  setOwner b none h3

/-- The interlock taken down without pass-on (R63): every wait withdrawn, every LIVE or MUTED console released. -/
def takeDownInterlock (h : Hall) : Hall :=
  let h1 := (ids 48).foldl (fun h a =>
    match h.consoles[a].state with
    | .requesting => h.modConsole a fun r => { r with state := .idle, handoverExpiry := none, engagedFlash := none }
    | .live | .muted => stepDown a .idle h
    | _ => h) h
  let h2 := (ids 16).foldl (fun h b => h.modBooth b fun r => { r with owner := none, queue := [] }) h1
  (ids 32).foldl (fun h c =>
    (h.modChannel c fun r => { r with feeder := none }).modWaitList c fun _ => []) h2

/-! ### Lamps and readings -/

/-- A lamp that is ON or OFF. -/
def Lamp.ofBool (b : Bool) : Lamp := if b then .on else .off

/-- A console's lamp set, as R29 gives what each lamp shows; all off outside the polled states (R26, R33). -/
def Hall.lamps (h : Hall) (a : ConsoleId) : LampSet :=
  let r := h.consoles[a]
  if r.state.polled = false then ⟨.off, .off, .off, .off, .off, .off, .off⟩
  else
    let booth := h.boothOf a
    let queued := booth.any fun b => h.booths[b].queue != []
    let lost := booth.any fun b => (h.booths[b].fallback).isSome
    { mic := match r.state with
        | .live => .on
        | .muted => .flashing
        | _ => .off
      engaged := if r.engagedFlash.isSome then .flashing else Lamp.ofBool (h.waitsOn a).isSome
      asked := Lamp.ofBool (r.state.onChannel && queued)
      shift := Lamp.ofBool r.shiftLamp
      relayLost := Lamp.ofBool lost
      lampA := Lamp.ofBool (r.output == .a)
      lampB := Lamp.ofBool (r.output == .b) }

/-- A console's live minutes today as of now (R43). -/
def Hall.consoleLiveMinutes (h : Hall) (a : ConsoleId) : Nat :=
  asOf h.consoles[a].liveSince h.account.consoleLive[a] h.now

/-- A booth's live minutes today as of now, the open spells of its consoles included (R42). -/
def Hall.boothLiveMinutes (h : Hall) (b : BoothId) : Nat :=
  (h.consolesOf b).foldl (fun n a => asOf h.consoles[a].liveSince n h.now) h.account.booths[b].live

/-- The channel and position at which a booth's owner waits (R64). -/
def Hall.waitPlace (h : Hall) (b : BoothId) : Option (ChannelId × Nat) :=
  match h.booths[b].owner with
  | none => none
  | some o => (h.waitsOn o).map fun c => (c, (h.waitLists[c].map fun e => e.console).idxOf o + 1)

end Sys2Proof.Machine
end

