-- ==== Sys2Proof/Machine/ConsoleBus.lean ====
section
/-! DEFINITION. The console bus controller: polling and probing, debouncing, fault entry, readmission, quarantine, and
the assignment of consoles (R25 to R37). -/

namespace Sys2Proof

/-- A key state decodes unless OUTPUT-A and OUTPUT-B are pressed together (R28). -/
def Keys.decodes (k : Keys) : Bool := !(k.outA && k.outB)

end Sys2Proof

namespace Sys2Proof.Machine

/-! ### The bus -/

/-- The first polled address after `last` in ascending order, wrapping to the lowest (R27). -/
def Hall.nextPolled (h : Hall) : Option ConsoleId :=
  let polled := (ids 48).filter fun a => h.consoles[a].state.polled
  let later :=
    match h.bus.lastPolled with
    | some l => polled.find? fun a => l < a
    | none => none
  match later with
  | some a => some a
  | none => polled.head?

/-- The lowest address whose probe has fallen due (R27); that it goes before one that fell due earlier is log entry 41. -/
def Hall.nextProbe (h : Hall) : Option ConsoleId :=
  (ids 48).find? fun a => h.consoles[a].state == .fault && h.consoles[a].probeDue

/-- All lamps off: the set a probe carries (R28). -/
def LampSet.allOff : LampSet := ⟨.off, .off, .off, .off, .off, .off, .off⟩

/-- The controller chooses the next exchange while none is in progress: a due probe, else the next poll (R27). -/
def chooseExchange (h : Hall) : Hall :=
  match h.bus.current with
  | some _ => h
  | none =>
    match h.nextProbe with
    | some a =>
      let h1 := h.modConsole a fun r => { r with probeDue := false }
      { h1 with bus := { h1.bus with current := some ⟨.probe, a, LampSet.allOff, false⟩ } }
    | none =>
      match h.nextPolled with
      | some a => { h with bus := ⟨some ⟨.poll, a, h.lamps a, false⟩, some a⟩ }
      | none => h

/-- The exchange in progress has ended. -/
def endExchange (h : Hall) : Hall := { h with bus := { h.bus with current := none } }

/-- The key state of a good answer to an exchange with console `a`; none for a bad answer (R28). -/
def goodAnswer (a : ConsoleId) (addr : Nat) (check : Bool) (keys : Keys) : Option Keys :=
  if addr = numOf a ∧ check = true ∧ keys.decodes = true then some keys else none

/-! ### Debouncing (R30, R31) -/

/-- A good poll answer's key state taken against the accepted and candidate key states (R30, R31). -/
def debounce (a : ConsoleId) (s : Keys) (h : Hall) : Hall :=
  let r := h.consoles[a]
  match r.accepted with
  | none => h.modConsole a fun r => { r with accepted := some s, candidate := none }
  | some old =>
    match r.candidate with
    | none => if s = old then h else h.modConsole a fun r => { r with candidate := some s }
    | some c =>
      if s = c then
        (keyEvents old s).foldl (takeKey a) (h.modConsole a fun r => { r with accepted := some s, candidate := none })
      else if s = old then h.modConsole a fun r => { r with candidate := none }
      else h.modConsole a fun r => { r with candidate := some s }

/-! ### Fault entry, readmission, quarantine (R32 to R37) -/

/-- The booth controller takes the report of a fault entry that puts the console into state `v` (R33). -/
def reportFault (a : ConsoleId) (v : ConsoleState) (h : Hall) : Hall :=
  match h.consoles[a].state with
  | .live | .muted => release a v h
  | .requesting => endWait a v h
  | _ => h.modConsole a fun r => { r with state := v }

/-- A fault entry (R32). -/
def faultEntry (a : ConsoleId) (h : Hall) : Hall :=
  let iso := h.consoles[a].isolation + 1
  let v : ConsoleState := if 8 ≤ iso then .quarantined else .fault
  let h1 := h.modConsole a fun r =>
    { r with
      bad := 0
      candidate := none
      accepted := none
      isolation := iso
      goodExpiry := none
      goodStart := none
      good := 0
      engagedFlash := none
      probeDue := false
      probeTimer := if 8 ≤ iso then none else some (h.tenths + 50) }
  let h2 := settle (reportFault a v h1)
  let h3 := (h2.post .fault .consoleFault (numOf a) iso).logFault .consoleFault (numOf a)
  match h.boothOf a with
  | some b => meterEvent (boothEvent .consoleFault b none) h3
  | none => h3

/-- The end of a poll of console `a`: good with a key state, or bad (R28, R30, R32). -/
def pollEnd (a : ConsoleId) (answer : Option Keys) (h : Hall) : Hall :=
  match answer with
  | some k => debounce a k (h.modConsole a fun r => { r with bad := 0 })
  | none =>
    let n := h.consoles[a].bad + 1
    let h1 := h.modConsole a fun r => { r with bad := n, candidate := none }
    if 3 ≤ n then faultEntry a h1 else h1

/-- A console leaves FAULT for IDLE on its second good probe answer in a row (R35). A good-run expiry past 4,294,967,295
stands as that sum, which no hall minute reaches (log entry 50). -/
def readmit (a : ConsoleId) (k : Keys) (h : Hall) : Hall :=
  h.modConsole a fun r =>
    { r with
      state := .idle
      accepted := some k
      candidate := none
      bad := 0
      good := 0
      probeTimer := none
      probeDue := false
      goodStart := some h.now
      goodExpiry := some (h.now + 10) }

/-- The end of a probe of console `a` (R34). -/
def probeEnd (a : ConsoleId) (answer : Option Keys) (h : Hall) : Hall :=
  match answer with
  | some k =>
    if 1 ≤ h.consoles[a].good then readmit a k h
    else h.modConsole a fun r => { r with good := 1, probeTimer := some (h.tenths + 50) }
  | none => h.modConsole a fun r => { r with good := 0, probeTimer := some (h.tenths + 50) }

/-- The end of the exchange in progress, taken where the console's state is still one that is sent that kind of
exchange and discarded otherwise (R27). -/
def exchangeEnd (x : Exchange) (answer : Option Keys) (h : Hall) : Hall :=
  let h1 := endExchange h
  if x.void then h1
  else
    match x.kind with
    | .poll => if h.consoles[x.console].state.polled then pollEnd x.console answer h1 else h1
    | .probe => if h.consoles[x.console].state = .fault then probeEnd x.console answer h1 else h1

/-- An answer to a poll arrives (R28); without a poll in progress it is not one. -/
def takePollAnswer (addr : Nat) (check : Bool) (keys : Keys) (h : Hall) : Hall :=
  match h.bus.current with
  | some x => if x.kind = .poll then exchangeEnd x (goodAnswer x.console addr check keys) h else h
  | none => h

/-- An answer to a probe arrives (R28, R34); without a probe in progress it is not one. -/
def takeProbeAnswer (addr : Nat) (check : Bool) (keys : Keys) (h : Hall) : Hall :=
  match h.bus.current with
  | some x => if x.kind = .probe then exchangeEnd x (goodAnswer x.console addr check keys) h else h
  | none => h

/-- The answer window of the exchange in progress closes with no answer: a bad answer (R28). -/
def takeWindowEnd (h : Hall) : Hall :=
  match h.bus.current with
  | some x => exchangeEnd x none h
  | none => h

/-- A FAULT console's probe timer expires: a probe falls due (R34). It is not taken where no timer stands due. -/
def expireProbe (a : ConsoleId) (h : Hall) : Hall :=
  if h.timerDue h.consoles[a].probeTimer then
    h.modConsole a fun r => { r with probeTimer := none, probeDue := true }
  else h

/-- A good-run expiry, due where the minute has reached it outside FAULT and QUARANTINED (R36). -/
def takeGoodRun (a : ConsoleId) (h : Hall) : Hall :=
  match h.consoles[a].goodExpiry with
  | some m =>
    if m ≤ h.now ∧ h.consoles[a].state ≠ .fault ∧ h.consoles[a].state ≠ .quarantined then
      h.modConsole a fun r => { r with isolation := 0, goodExpiry := none }
    else h
  | none => h

/-- READMIT CONSOLE of a QUARANTINED console (R37). -/
def readmitQuarantined (a : ConsoleId) (h : Hall) : Hall :=
  h.modConsole a fun r => { r with state := .fault, isolation := 0, good := 0, probeDue := true }

/-! ### Assignment (R25, R26) -/

/-- A probe in progress with console `a` has its end discarded (R27). -/
def voidProbe (a : ConsoleId) (h : Hall) : Hall :=
  match h.bus.current with
  | some x =>
    if x.console = a ∧ x.kind = .probe then { h with bus := { h.bus with current := some { x with void := true } } }
    else h
  | none => h

/-- An accepted change of a console's booth (R26). The live minutes of the day are the account's and stay. -/
def assignConsole (a : ConsoleId) (b : Option BoothId) (h : Hall) : Hall :=
  let old := h.consoles[a].state
  let h1 := { h with settings := { h.settings with consoleBooth := vset h.settings.consoleBooth a b } }
  let h2 := voidProbe a (h1.modConsole a fun r => { r with output := .a, relaySel := none })
  match b with
  | none => h2.modConsole a fun _ => ConsoleRun.blank
  | some _ =>
    if old = .absent ∨ old = .fault then
      h2.modConsole a fun r => { r with state := .fault, good := 0, probeTimer := none, probeDue := true }
    else h2

end Sys2Proof.Machine
end

