-- ==== Sys2Proof/Machine/Flags.lean ====
section
/-! DEFINITION. The notice unit: delivery of notices and fault log entries, the condition set, the masks and the ATTN
output (spec/10_the_control_port_and_notices.md, R162 to R167). -/

namespace Sys2Proof.Machine

/-! ### The notice queue -/

/-- The notice names a console, not a booth (R163). -/
def NoticeKind.namesConsole : NoticeKind → Bool
  | .handoverExpired | .shiftDue => true
  | _ => false

/-- Two BOOTH-class notices of one subject, compared together with what it names (R163). -/
def Notice.sameSubject (n m : Notice) : Bool :=
  n.cls == .booth && m.cls == .booth && n.subject == m.subject && n.kind.namesConsole == m.kind.namesConsole

/-- The list without its last entry that satisfies `p`. -/
def eraseLast {α : Type} (p : α → Bool) (l : List α) : List α := (l.reverse.eraseP p).reverse

/-- A posting taken by the notice unit (R162, R163): coalesced, appended, or written over the tail. -/
def deliver (q : List Notice) (n : Notice) : List Notice :=
  if 2 ≤ (q.filter n.sameSubject).length then eraseLast n.sameSubject q ++ [{ n with several := true }]
  else if q.length < 32 then q ++ [n]
  else q.dropLast ++ [{ n with several := true }]

/-- A fault log entry made (R167): at 16 entries the oldest is removed first. -/
def logEntry (l : List FaultEntry) (e : FaultEntry) : List FaultEntry :=
  if l.length < 16 then l ++ [e] else l.tail ++ [e]

/-- The notice classes, in the order of R162. -/
def allClasses : List NoticeClass := [.hire, .booth, .carrier, .account, .meter, .fault]

/-- The notice's class is not masked (R164). -/
def unmasked (masked : List NoticeClass) (n : Notice) : Bool := !masked.contains n.cls

/-- The number of unmasked notices: N (R160, R164). -/
def noticeCount (masked : List NoticeClass) (q : List Notice) : Nat := (q.filter (unmasked masked)).length

/-- The oldest unmasked notices, at most `k` (R164). -/
def fetched (masked : List NoticeClass) (k : Nat) (q : List Notice) : List Notice := (q.filter (unmasked masked)).take k

/-- The queue after the oldest unmasked notices, at most `k`, are removed; the others keep their order (R164). -/
def unfetched (masked : List NoticeClass) : Nat → List Notice → List Notice
  | _, [] => []
  | 0, q => q
  | k + 1, n :: q => if unmasked masked n then unfetched masked k q else n :: unfetched masked (k + 1) q

/-! ### Conditions -/

/-- A condition meets its cause (R165): a cause that begins raises it ACTIVE, a cause that ends makes it ENDED. -/
def Raised.meet (r : Raised) (cause : Bool) : Raised :=
  match r, cause with
  | _, true => .active
  | .active, false => .ended
  | r, false => r

/-- The condition is raised, ACTIVE or ENDED. -/
def Raised.isRaised : Raised → Bool
  | .clear => false
  | _ => true

/-- A restart's re-evaluation removes a condition whose cause has ended (R169). -/
def Raised.dropEnded : Raised → Raised
  | .ended => .clear
  | r => r

/-- Any unmasked condition is raised: A (R160, R165). -/
def anyRaised (masked : List NoticeClass) (c : Conditions) : Bool :=
  (!masked.contains .carrier && c.hallDark.isRaised)
    || (!masked.contains .account && c.settleOverflow.isRaised)
    || (!masked.contains .fault
        && (c.storeFault.isRaised || c.clockStale.isRaised || (ids 48).any fun a => c.quarantine[a].isRaised))

/-- The condition set meets the causes its owners hold (R165): hall dark (R92), the quarantined consoles (R37), a full
settlement queue (R142), failed areas of the store (R170), a stale clock (R172). -/
def syncConditions (h : Hall) (failed : AreaSet) (c : Conditions) : Conditions where
  hallDark       := c.hallDark.meet h.darkCause
  quarantine     := vtab fun a => c.quarantine[a].meet (h.consoles[a].state == .quarantined)
  settleOverflow := c.settleOverflow.meet (256 ≤ h.account.queue.length)
  storeFault     := c.storeFault.meet (failed != AreaSet.none)
  clockStale     := c.clockStale.meet h.clock.stale

/-- Every condition whose cause has ended removed (R169). -/
def dropEndedConditions (c : Conditions) : Conditions where
  hallDark       := c.hallDark.dropEnded
  quarantine     := vtab fun a => c.quarantine[a].dropEnded
  settleOverflow := c.settleOverflow.dropEnded
  storeFault     := c.storeFault.dropEnded
  clockStale     := c.clockStale.dropEnded

/-- The state of one condition, QUARANTINE by its console. -/
def Conditions.get (c : Conditions) : ConditionName → ConsoleId → Raised
  | .hallDark, _ => c.hallDark
  | .quarantine, a => c.quarantine[a]
  | .settleOverflow, _ => c.settleOverflow
  | .storeFault, _ => c.storeFault
  | .clockStale, _ => c.clockStale

/-- The condition removed from the set (R165). -/
def Conditions.remove (c : Conditions) : ConditionName → ConsoleId → Conditions
  | .hallDark, _ => { c with hallDark := .clear }
  | .quarantine, a => { c with quarantine := vset c.quarantine a .clear }
  | .settleOverflow, _ => { c with settleOverflow := .clear }
  | .storeFault, _ => { c with storeFault := .clear }
  | .clockStale, _ => { c with clockStale := .clear }

/-! ### At the end of an event -/

/-- The ATTN output as R166 gives it. -/
def attnLevel (masked : List NoticeClass) (u : NoticeUnit) : Bool :=
  0 < noticeCount masked u.queue || anyRaised masked u.conds

/-- The notices and fault entries an event handed over are delivered in order, the conditions meet their causes, and
ATTN is set (R162, R165, R166). -/
def noticeEnd (h : Hall) (failed : AreaSet) (u : NoticeUnit) : NoticeUnit :=
  let u1 : NoticeUnit :=
    { u with
      queue := h.work.posts.foldl deliver u.queue
      log := h.work.faults.foldl logEntry u.log
      conds := syncConditions h failed u.conds }
  { u1 with attn := attnLevel h.settings.hall.masked u1 }

end Sys2Proof.Machine
end

