-- ==== Sys2Proof/Machine/Store.lean ====
section
/-! DEFINITION. The store controller: the write list, joining, beginning and completing a write, failures (R170). -/

namespace Sys2Proof.Machine

/-- The content of the areas a write names, as they stand (R170). -/
def contentOf (h : Hall) (a : AreaSet) : Content where
  settings := if a.settings then some h.settings else none
  fleet    := if a.fleet then some h.fleet else none
  account  := if a.account then some h.account else none
  clock    := if a.clock then some h.clock.minute else none

/-- A write asked for joins the earliest unbegun write that names every area it names; otherwise it takes a place of
its own at the tail (R170). -/
def joinWrites (areas : AreaSet) (ws : List Waiter) : List StoreWrite → List StoreWrite
  | [] => [⟨areas, ws⟩]
  | w :: rest =>
    if areas.subset w.areas then { w with waiters := w.waiters ++ ws } :: rest
    else w :: joinWrites areas ws rest

/-- A write asked for by the part (R170). -/
def askWrite (areas : AreaSet) (ws : List Waiter) (st : Store) : Store :=
  { st with writes := joinWrites areas ws st.writes }

/-- The store port takes up the first write of the list while it makes none (R170). -/
def beginWrite (h : Hall) (st : Store) : Store :=
  match st.current, st.writes with
  | none, w :: rest => { st with current := some ⟨w.areas, contentOf h w.areas, w.waiters⟩, writes := rest }
  | _, _ => st

/-- The rewrite time of an area set or removed. -/
def Rewrites.set (r : Rewrites) (a : Area) (t : Option Nat) : Rewrites :=
  match a with
  | .settings => { r with settings := t }
  | .fleet => { r with fleet := t }
  | .account => { r with account := t }
  | .clock => { r with clock := t }

/-- The rewrite time of an area. -/
def Rewrites.get (r : Rewrites) : Area → Option Nat
  | .settings => r.settings
  | .fleet => r.fleet
  | .account => r.account
  | .clock => r.clock

/-- The store takes the content of the areas `a` (R170). -/
def Content.store (old new : Content) (a : AreaSet) : Content where
  settings := if a.settings then new.settings else old.settings
  fleet    := if a.fleet then new.fleet else old.fleet
  account  := if a.account then new.account else old.account
  clock    := if a.clock then new.clock else old.clock

/-- The content without the areas `a`: their checksums fail (R174). -/
def Content.spoil (c : Content) (a : AreaSet) : Content where
  settings := if a.settings then none else c.settings
  fleet    := if a.fleet then none else c.fleet
  account  := if a.account then none else c.account
  clock    := if a.clock then none else c.clock

/-- The write in progress completes, the store not having taken the areas `notTaken` of it at tenth `now` (R170):
taken areas hold the new content at once, whatever becomes of the others (log entry 55), and are no longer failed; the
others are failed and are written again 1.0 s later, which replaces an earlier time of theirs. A taken area's rewrite that
still waits from an earlier failure is dropped (log entry 54). -/
def completeWrite (w : CurrentWrite) (notTaken : AreaSet) (now : Nat) (st : Store) : Store :=
  let bad := w.areas.inter notTaken
  let taken := w.areas.diff notTaken
  { st with
    held := st.held.store w.content taken
    current := none
    failed := (st.failed.diff taken).union bad
    rewrite := allAreas.foldl (fun r a =>
      if bad.has a then r.set a (some (now + 10)) else if taken.has a then r.set a none else r) st.rewrite }

end Sys2Proof.Machine
end

