-- ==== Sys2Proof/Machine/Events.lean ====
section
/-! DEFINITION. One event from its beginning to its end: what it hands over is delivered, writes are asked for and
begun, answers are sent or made to wait (R105, R159, R160, R170). -/

namespace Sys2Proof.Machine

/-- What an order or request comes to: an answer in the same event, or one that waits on a store write of these areas,
with the state it leaves (R159, R170). -/
inductive Verdict where
  | now (r : Result) (s : State)
  | wait (areas : AreaSet) (r : Result) (s : State)

/-- A refusal: the answer ER with nothing changed. -/
def refuse (c : AnswerCode) (s : State) : Verdict := .now (.er c) s

/-! ### Sending answers -/

/-- N as it stands (R160). -/
def State.noticesWaiting (s : State) : Nat := noticeCount s.hall.settings.hall.masked s.notice.queue

/-- A as it stands (R160). -/
def State.conditionRaised (s : State) : Bool := anyRaised s.hall.settings.hall.masked s.notice.conds

/-- The port after an answer: nothing in progress, the overrun mark cleared (R159). -/
def LinePort.answered (p : LinePort) : LinePort := { p with busy := false, overrun := false }

/-- An answer is sent to the host, with N and A of this moment (R160). -/
def sendHost (tag : Tag) (r : Result) (s : State) : State :=
  { s with
    out := s.out ++ [⟨.host s.noticesWaiting s.conditionRaised, tag, r, s.port.overrun⟩]
    port := s.port.answered }

/-- An answer is sent to desk `d` (R105, R160). -/
def sendDesk (d : DeskId) (tag : Tag) (r : Result) (s : State) : State :=
  { s with
    out := s.out ++ [⟨.desk d, tag, r, s.desks[d].overrun⟩]
    desks := vmod s.desks d LinePort.answered }

/-- What waited on a write has its turn: an answer is sent, or the lines are assembled from now on (R170, R174). -/
def serveWaiter (s : State) (w : Waiter) : State :=
  match w with
  | .host tag r => sendHost tag r s
  | .desk d tag r => sendDesk d tag r s
  | .startUp => { s with listening := true }

/-- What waits on a write has its order or request in progress until then (R105, R159). -/
def markBusy (s : State) (w : Waiter) : State :=
  match w with
  | .host _ _ => { s with port := { s.port with busy := true } }
  | .desk d _ _ => { s with desks := vmod s.desks d fun p => { p with busy := true } }
  | .startUp => s

/-! ### The end of an event -/

/-- The blocks between two events: the bus has chosen its next exchange, and nothing is left to hand over (R27). -/
def Hall.rested (h : Hall) : Hall := { chooseExchange h with work := EventWork.empty }

/-- The write list after the writes an event asked for have taken their places in the order asked, the write that its
answer waits on last (R170). -/
def placeWrites (own : Option (AreaSet × Waiter)) (asks : List AreaSet) (st : Store) : Store :=
  let st1 := asks.foldl (fun st a => askWrite a [] st) st
  match own with
  | some (areas, w) => askWrite areas [w] st1
  | none => st1

/-- What an event's own write has waiting on it is in progress until then. -/
def markOwn (own : Option (AreaSet × Waiter)) (s : State) : State :=
  match own with
  | some (_, w) => markBusy s w
  | none => s

/-- The end of an event, `own` being the write its order or request waits on: the bus chooses its next exchange,
the notice unit takes what was handed over, the writes asked for are placed, and the store port takes up a write while
it makes none (R27, R162, R166, R170). -/
def finish (own : Option (AreaSet × Waiter)) (s : State) : State :=
  markOwn own
    { s with
      hall := s.hall.rested
      notice := noticeEnd s.hall s.store.failed s.notice
      store := beginWrite s.hall (placeWrites own s.hall.work.asks s.store) }

/-- A step begins: the answers of the step before it are gone. -/
def State.opened (s : State) : State := { s with out := [] }

/-- An event that answers nobody, taken by the blocks; not taken while RESETn is asserted (R174). -/
def event (f : Hall → Hall) (s : State) : State :=
  let s := s.opened
  if s.resetn then s else finish none { s with hall := f s.hall }

/-! ### Orders and requests -/

/-- A host order concluded: answered now, at the end of its event, or when its write completes (R159). -/
def concludeHost (tag : Tag) (v : Verdict) : State :=
  match v with
  | .now r s => sendHost tag r (finish none s)
  | .wait areas r s => finish (some (areas, .host tag r)) s

/-- A desk request concluded (R105). -/
def concludeDesk (d : DeskId) (tag : Tag) (v : Verdict) : State :=
  match v with
  | .now r s => sendDesk d tag r (finish none s)
  | .wait areas r s => finish (some (areas, .desk d tag r)) s

/-- A line completed on the control port: lost while RESETn is asserted or lines are not assembled (R174), discarded
with the overrun mark set while an order is in progress (R159), otherwise taken. -/
def hostLine (tag : Tag) (f : State → Verdict) (s : State) : State :=
  let s := s.opened
  if s.resetn || !s.listening then s
  else if s.port.busy then { s with port := { s.port with overrun := true } }
  else concludeHost tag (f s)

/-- A line completed on desk link `d`, in the same way (R105, R174). -/
def deskLine (d : DeskId) (tag : Tag) (f : State → Verdict) (s : State) : State :=
  let s := s.opened
  if s.resetn || !s.listening then s
  else if s.desks[d].busy then { s with desks := vmod s.desks d fun p => { p with overrun := true } }
  else concludeDesk d tag (f s)

/-- A reading: answered at once with `r`, or refused, with nothing changed. -/
def reading (r : State → Except AnswerCode Reply) (s : State) : Verdict :=
  match r s with
  | .ok a => .now (.ok a []) s
  | .error c => refuse c s

end Sys2Proof.Machine
end

