-- ==== Sys2Proof/Machine/Operands.lean ====
section
/-! DEFINITION. The tests of argument values: given, malformed, in range, clamped (spec/00_scope.md "Settings given out
of range", R158, R160). -/

namespace Sys2Proof

/-- The argument was given with a value of a form it does not take. -/
def Arg.isBad {α : Type} : Arg α → Bool
  | .bad => true
  | _ => false

/-- The argument was not given. -/
def Arg.isAbsent {α : Type} : Arg α → Bool
  | .absent => true
  | _ => false

/-- The argument's value, where it was given one of the form it takes. -/
def Arg.val? {α : Type} : Arg α → Option α
  | .val a => some a
  | _ => none

/-- The value given, or the value that stands. -/
def Arg.or {α : Type} (x : Arg α) (old : α) : α := x.val?.getD old

/-- The value given satisfies `p`. -/
def Arg.any {α : Type} (x : Arg α) (p : α → Bool) : Bool := x.val?.any p

/-- The value in tenths of a number with at most one decimal place (R21, R79). -/
def Decimal.tenths? (d : Decimal) : Option Nat :=
  match d.places with
  | [] => some (10 * d.whole)
  | [p] => some (10 * d.whole + p)
  | _ => none

end Sys2Proof

namespace Sys2Proof.Machine

/-! ### Identifiers -/

/-- An identifier of a table numbered from 0. -/
def idFrom0 (n m : Nat) : Option (Fin n) := if h : m < n then some ⟨m, h⟩ else none

/-- An identifier of a table numbered from 1. -/
def idFrom1 (n m : Nat) : Option (Fin n) := if h : 1 ≤ m ∧ m ≤ n then some ⟨m - 1, by omega⟩ else none

/-- A required identifier of an order that tests RANGE and then SYNTAX (R158): missing or outside its range is RANGE,
malformed is SYNTAX. The RANGE test of such an order looks only at a value of valid form. -/
def needId {n : Nat} (conv : Nat → Option (Fin n)) (x : Arg Nat) : Except AnswerCode (Fin n) :=
  match x with
  | .absent => .error .range
  | .bad => .error .syntaxError
  | .val m =>
    match conv m with
    | some i => .ok i
    | none => .error .range

/-- A required 32-bit number: a serial or a badge. -/
def needSerial (x : Arg Nat) : Except AnswerCode Serial :=
  match x with
  | .absent => .error .range
  | .bad => .error .syntaxError
  | .val m => if m ≤ maxCount then .ok (BitVec.ofNat 32 m) else .error .range

/-- A required number from `lo` to `hi`. -/
def needNat (lo hi : Nat) (x : Arg Nat) : Except AnswerCode Nat :=
  match x with
  | .absent => .error .range
  | .bad => .error .syntaxError
  | .val m => if lo ≤ m ∧ m ≤ hi then .ok m else .error .range

/-- The same argument of an order whose rule names RANGE and no SYNTAX: a malformed value too is none of the values the
order takes, and is RANGE (R160, log entry 13). -/
def rangeOnly {α : Type} : Except AnswerCode α → Except AnswerCode α
  | .ok a => .ok a
  | .error _ => .error .range

/-! ### Text -/

/-- A printable character: codes 32 to 126 (log entry 7). -/
def printable (c : Char) : Bool := 32 ≤ c.toNat && c.toNat ≤ 126

/-- A label: 0 to 16 printable characters (R2, R97, R140). -/
def labelForm (t : Text) : Bool := t.length ≤ 16 && t.all printable

/-- A language code: three capital letters A to Z. -/
def codeForm (t : Text) : Bool := t.length == 3 && t.all fun c => 'A'.toNat ≤ c.toNat && c.toNat ≤ 'Z'.toNat

/-! ### Clamping -/

/-- A number taken to the nearer bound of its range. -/
def clampTo (lo hi n : Nat) : Nat := max lo (min hi n)

/-- The CLAMPED mark of a given number that was not taken as given (R160). -/
def clampMark (name : String) (lo hi : Nat) (x : Arg Nat) : List Clamp :=
  match x with
  | .val n => if clampTo lo hi n = n then [] else [.units name (clampTo lo hi n)]
  | _ => []

/-- The CLAMPED mark of a given time in seconds that was not taken as given; bounds and value in tenths. -/
def clampMarkTenths (name : String) (lo hi : Nat) (x : Arg Decimal) : List Clamp :=
  match x.val?.bind Decimal.tenths? with
  | some n => if clampTo lo hi n = n then [] else [.tenths name (clampTo lo hi n)]
  | none => []

/-- The time in tenths a setting takes: the value given, clamped, or the value that stands. -/
def tenthsOr (lo hi old : Nat) (x : Arg Decimal) : Nat :=
  match x.val?.bind Decimal.tenths? with
  | some n => clampTo lo hi n
  | none => old

/-- The number a setting takes: the value given, clamped, or the value that stands. -/
def clampOr (lo hi old : Nat) (x : Arg Nat) : Nat :=
  match x with
  | .val n => clampTo lo hi n
  | _ => old

/-- A time with more than one decimal place (R21, R79). -/
def tooFine (x : Arg Decimal) : Bool := x.any fun d => d.tenths?.isNone

/-! ### Tests in order -/

/-- The first test that fails gives the answer (R2 and every order's table). -/
def firstFailing : List (Bool × AnswerCode) → Option AnswerCode
  | [] => none
  | (fails, c) :: rest => if fails then some c else firstFailing rest

end Sys2Proof.Machine
end

