-- ==== Sys2Proof/Machine/Charge.lean ====
section
/-! DEFINITION. The charge computation in nine stages, its variants, and the settlement record with its queue
(spec/07_tariffs_and_the_charge_computation.md R122 to R133, spec/08_the_accounting_day.md R140 to R142). -/

namespace Sys2Proof.Machine

/-- A number divided by `d`, rounded up. -/
def divUp (n d : Nat) : Nat := (n + d - 1) / d

/-- The null tariff, by which a hire of an undefined class is priced (R122). -/
def Tariff.null : Tariff := ⟨true, 0, 1, 0, 0, 0, 0, 0, 0, false⟩

/-- The tariff a hire of class `t` is priced by at its close (R122). -/
def Hall.pricing (h : Hall) (t : TariffId) : Tariff :=
  if h.settings.tariffs[t].defined then h.settings.tariffs[t] else Tariff.null

/-- The figures of stages 1 to 8 (R124 to R126). -/
structure Figures where
  elapsed     : Nat
  unserved    : Nat
  billable    : Nat
  intervals   : Nat
  gross       : Nat
  charge      : Nat
  refund      : Nat
  outstanding : Nat
deriving DecidableEq, Repr

/-- Stage 6: the gross under the daily cap (R125). -/
def capped (cap elapsed gross : Nat) : Nat :=
  if cap = 0 then gross else min gross (satMoney (cap * max 1 (divUp elapsed 1440)))

/-- Stages 1 to 8 for a hire issued at `i`, with unserved minutes `u`, returned at `t` (R124 to R126). -/
def figures (f : Tariff) (i t u deposit : Nat) (overdue : Bool) : Figures :=
  let d := t - i
  let credit := if f.credit then u else 0
  let b := d - credit - f.grace
  let n := divUp b f.len
  let g := satMoney (f.base + n * f.rate)
  let under := capped f.cap d g
  let charge := if overdue then satMoney (under + f.odfee) else under
  ⟨d, credit, b, n, g, charge, deposit - charge, charge - deposit⟩

/-- The LOST variant's figures: stages 3 to 7 replaced by the replacement fee (R130). -/
def lostFigures (f : Tariff) (i t u deposit fee : Nat) : Figures :=
  ⟨t - i, if f.credit then u else 0, 0, 0, fee, fee, deposit - fee, fee - deposit⟩

/-! ### Stage 9 -/

/-- The minutes that a log interval and [i, t) have in common; an open interval counts as ending at `t` (R127). -/
def common (i t : Nat) (v : Interval) : Nat := min (v.finish.getD t) t - max v.start i

/-- The minutes of [i, t) in intervals of centre `k` (R127). -/
def sessionMinutes (log : List Interval) (i t : Nat) (k : CentreId) : Nat :=
  ((log.filter fun v => v.centre == k).map (common i t)).sum

/-- The minutes of [i, t) in the intervals of every centre but 0. -/
def loggedMinutes (log : List Interval) (i t : Nat) : Nat :=
  (((ids 16).filter fun k => k != 0).map (sessionMinutes log i t)).sum

/-- m_k: the minutes of the hire counted to centre `k`; centre 0 takes those in no interval (R127). -/
def centreMinutes (log : List Interval) (i t : Nat) (k : CentreId) : Nat :=
  if k = 0 then (t - i) - loggedMinutes log i t else sessionMinutes log i t k

/-- The centre of the largest m_k, the lowest-numbered of equals (R128). -/
def largestCentre (log : List Interval) (i t : Nat) : CentreId :=
  (pick (fun j k => centreMinutes log i t k < centreMinutes log i t j) (ids 16)).getD 0

/-- A log interval contains minute `i` (R128). -/
def contains (i : Nat) (v : Interval) : Bool := v.start ≤ i && v.finish.all fun e => i < e

/-- The centre of the log interval that contains minute `i`, or centre 0 (R128). -/
def centreAt (log : List Interval) (i : Nat) : CentreId := ((log.find? (contains i)).map Interval.centre).getD 0

/-- The centre that takes the remainder, or the whole of a hire of no minutes (R128). -/
def mainCentre (log : List Interval) (i t : Nat) : CentreId :=
  if t - i = 0 then centreAt log i else largestCentre log i t

/-- s_k before the remainder: H times m_k, divided by D, rounded down (R128); 0 for a hire of no minutes. -/
def roundedShare (log : List Interval) (i t charge : Nat) (k : CentreId) : Nat :=
  charge * centreMinutes log i t k / (t - i)

/-- The share of centre `k`, the remainder added to the main centre's (R128). -/
def shareOf (log : List Interval) (i t charge : Nat) (k : CentreId) : Nat :=
  let parts := ((ids 16).map (roundedShare log i t charge)).sum
  roundedShare log i t charge k + if k = mainCentre log i t then charge - parts else 0

/-- The shares list: pairs in ascending centre order, a share of 0 left out; a charge of 0 is the main centre's single
pair of amount 0 (R128). -/
def apportion (log : List Interval) (i t charge : Nat) : List (CentreId × Nat) :=
  if charge = 0 then [(mainCentre log i t, 0)]
  else (ids 16).filterMap fun k =>
    let a := shareOf log i t charge k
    if a = 0 then none else some (k, a)

/-! ### Settlement records -/

/-- Each share added to its centre's balance and the charge to the day's charge total, saturating (R140). -/
def addToBalances (shares : List (CentreId × Nat)) (charge : Nat) (h : Hall) : Hall :=
  let bal := shares.foldl (fun b x => vmod b x.1 fun n => satMoney (n + x.2)) h.account.balances
  let day := { h.account.day with total := satMoney (h.account.day.total + charge) }
  { h with account := { h.account with balances := bal, day := day } }

/-- A record that does not enter the queue is counted as unitemised (R142). -/
def unitemise (charge : Nat) (h : Hall) : Hall :=
  let day := { h.account.day with
    unitCount := satCount (h.account.day.unitCount + 1)
    unitTotal := satMoney (h.account.day.unitTotal + charge) }
  { h with account := { h.account with day := day } }

/-- A settlement record is numbered and placed, the last step of its close (R141, R142): queued, with QUEUE_HIGH at 224 records, or counted as
unitemised where the queue is full or the counter stands at its end. The answer is the sequence number, 0 where none
was given, and whether the record went unitemised. -/
def placeRecord (r : Settlement) (h : Hall) : Hall × Nat × Bool :=
  if h.account.seq = maxCount then (unitemise r.charge h, 0, true)
  else
    let seq := h.account.seq + 1
    let h1 := { h with account := { h.account with seq := seq } }
    if h.account.queue.length < 256 then
      let q := h.account.queue ++ [{ r with seq := seq }]
      let h2 := { h1 with account := { h1.account with queue := q } }
      (if q.length = 224 then h2.post .account .queueHigh seq 224 else h2, seq, false)
    else (unitemise r.charge h1, seq, true)

end Sys2Proof.Machine
end

