-- ==== Sys2Proof/Machine/Hire.lean ====
section
/-! DEFINITION. The hire unit: fleet windows and stock, receiver records, moves of a hire, issue, close and overdue
(spec/06_receivers_badges_and_hire.md, R97 to R118). -/

namespace Sys2Proof.Machine

/-! ### Windows and stock -/

/-- A serial matches a window: bit by bit with AND, serial and base agree under the mask (R98). -/
def WindowSettings.claims (w : WindowSettings) (s : Serial) : Bool := s &&& w.mask == w.base &&& w.mask

/-- The window of a serial: the lowest ENABLED window it matches; none for a foreign serial (R98). -/
def Hall.windowOf (h : Hall) (s : Serial) : Option WindowId :=
  (ids 8).find? fun w => h.settings.windows[w].enabled && h.settings.windows[w].claims s

/-- A window's stock count: its receiver records in STOCK (R99). -/
def Hall.stockCount (h : Hall) (w : WindowId) : Nat :=
  (h.fleet.receivers.filter fun r => r.window == w && r.state == .stock).length

/-- The low-stock test of one window whose count an event changed since `before` (R99). -/
def lowStockTest (before : Hall) (h : Hall) (w : WindowId) : Hall :=
  let n := h.stockCount w
  if before.stockCount w = n then h
  else if n < h.settings.windows[w].lowStock then
    if h.lowFired[w] then h
    else { h.post .hire .stockLow (numOf w) n with lowFired := vset h.lowFired w true }
  else { h with lowFired := vset h.lowFired w false }

/-- The low-stock test at the end of a request or order that began at `before` (R99). -/
def lowStockTests (before h : Hall) : Hall := (ids 8).foldl (lowStockTest before) h

/-- The low-stock flag as it is set without a notice: FIRED where the count is below the threshold (R99). -/
def Hall.lowFlag (h : Hall) (w : WindowId) : Bool := h.stockCount w < h.settings.windows[w].lowStock

/-- The receiver table holds its 4,096 records (R100). -/
def Hall.tableFull (h : Hall) : Bool := 4096 ≤ h.fleet.receivers.length

/-- A receiver record created in STOCK for a serial of window `w` (R101). -/
def createReceiver (s : Serial) (w : WindowId) (h : Hall) : Hall := h.putReceiver ⟨s, w, .stock, 0, none⟩

/-- A receiver's hire, while it is ISSUED or OVERDUE (R100). -/
def ReceiverState.hire? : ReceiverState → Option Nat
  | .issued n | .overdue n => some n
  | _ => none

/-- The number of open hires (R102). -/
def Hall.openHires (h : Hall) : Nat := h.fleet.hires.length

/-- The number of open hires handed to the meter unit (R102). -/
def handOpenHires (h : Hall) : Hall := meterLevel .openHires h.openHires h

/-! ### A hire's outage and preset -/

/-- A hire's unserved minutes as of now (R111): those accumulated, and its preset's outage since the snapshot. An outage
below the snapshot, which R13 rules out but a start-up can bring, counts as no minutes (log entry 45). -/
def Hall.unservedNow (h : Hall) (x : Hire) : Nat := satCount (x.unserved + (h.outage x.preset - x.snapshot))

/-- The hire record of a move to channel `d` (R6, R108 steps 1 to 3 and 5). -/
def Hall.moved (h : Hall) (x : Hire) (d : ChannelId) : Hire :=
  { x with unserved := h.unservedNow x, snapshot := h.outage d, preset := d, stale := x.stale || h.clock.stale }

/-- A hire moves to channel `d`, demand with it (R6, R108 steps 1 to 5). -/
def moveHire (d : ChannelId) (h : Hall) (x : Hire) : Hall :=
  demandRise d (demandFall x.preset (h.putHire (h.moved x d)))

/-! ### Issue (R106, R107) -/

/-- The hire-number counter's next value, from 65,535 wrapping to 1 (R102). -/
def stepCounter (n : Nat) : Nat := if 65535 ≤ n then 1 else n + 1

/-- The counter stepped until it reaches a number no open hire holds (R102); at most 4,096 hires are open. -/
def drawNumber (h : Hall) : Nat → Nat → Nat
  | 0, n => n
  | k + 1, n => if (h.hire n).isSome then drawNumber h k (stepCounter n) else n

/-- The number the next hire takes (R102). -/
def Hall.nextNumber (h : Hall) : Nat := drawNumber h 4096 (stepCounter h.account.hireCounter)

/-- An accepted ISSUE of receiver `r` (R107, steps 1 to 8). A due minute past 4,294,967,295 stands as that sum, which no
hall minute reaches (log entry 50). -/
def openHire (desk : DeskId) (r : Receiver) (badge : Serial) (tar : TariffId) (ch : ChannelId) (bat : Nat)
    (h : Hall) : Hall :=
  let n := h.nextNumber
  let f := h.settings.tariffs[tar]
  let due := if f.limit = 0 then none else some (h.now + f.limit)
  let x : Hire := ⟨n, r.serial, badge, desk, tar, h.now, due, ch, h.outage ch, 0, f.deposit, false, h.clock.stale⟩
  let old := (h.badge badge).getD ⟨badge, [], 0⟩
  let h1 := { h with account := { h.account with hireCounter := n } }
  let h2 := (h1.putHire x).putReceiver { r with state := .issued n, issues := satCount (r.issues + 1), battery := some bat }
  let h3 := demandRise ch (h2.putBadge { old with hires := old.hires ++ [n] })
  let h4 := { h3 with account := { h3.account with peakHires := max h3.account.peakHires h3.openHires } }
  meterEvent (hireEvent .issue desk tar ch) (handOpenHires h4)

/-! ### Closing a hire (R109, R113) -/

/-- The settlement record of a close (R133, R141), numbered when it is placed. -/
def closeRecord (h : Hall) (kind : SettlementKind) (desk : Nat) (x : Hire) (f : Figures)
    (shares : List (CentreId × Nat)) : Settlement where
  seq         := 0
  kind        := kind
  day         := h.account.day.number
  serial      := x.serial
  badge       := x.badge
  hire        := x.number
  desk        := desk
  tariff      := numOf x.tariff
  issued      := x.issued
  closed      := h.now
  elapsed     := f.elapsed
  unserved    := f.unserved
  billable    := f.billable
  intervals   := f.intervals
  gross       := f.gross
  charge      := f.charge
  overdue     := x.overdue
  stale       := x.stale || h.clock.stale
  deposit     := x.deposit
  refund      := f.refund
  outstanding := f.outstanding
  shares      := shares

/-- A hire leaves its badge's list, and the outstanding amount is added to the debt; an entry left with neither is
removed (R103). -/
def settleBadge (x : Hire) (owe : Nat) (h : Hall) : Hall :=
  match h.badge x.badge with
  | some b => h.putBadge { b with hires := b.hires.filter fun n => n != x.number, debt := satMoney (b.debt + owe) }
  | none => h

/-- A close but for its record's place: balances, receiver, hire and badge, demand, number of open hires (R109 steps 2
to 5). -/
def closeHire (rec : Settlement) (x : Hire) (r : Receiver) (h : Hall) : Hall :=
  let h1 := (addToBalances rec.shares rec.charge h).putReceiver r
  handOpenHires (demandFall x.preset (settleBadge x rec.outstanding (h1.dropHire x.number)))

/-- The end of a close: its record is numbered and placed, behind every other step (R142, log entry 51), and the answer
has its figures. -/
def endClose (rec : Settlement) (h : Hall) : Hall × CloseFigures :=
  let p := placeRecord rec h
  (p.1, ⟨rec.charge, rec.refund, rec.outstanding, p.2.1, p.2.2⟩)

/-- The state a returned receiver takes (R109, R110). -/
def afterReturn : ReturnCond → ReceiverState
  | .ok => .stock
  | .damaged => .faulty

/-- The figures of a return taken now (R109 step 1, R123). -/
def Hall.returnFigures (h : Hall) (x : Hire) : Figures :=
  figures (h.pricing x.tariff) x.issued h.now (h.unservedNow x) x.deposit x.overdue

/-- The RETURN of an ISSUED or OVERDUE receiver closes its hire (R109, steps 1 to 7). -/
def returnHire (desk : DeskId) (cond : ReturnCond) (bat : Nat) (r : Receiver) (x : Hire) (h : Hall) :
    Hall × CloseFigures :=
  let f := h.returnFigures x
  let rec_ := closeRecord h .returned (numOf desk) x f (apportion h.account.log x.issued h.now f.charge)
  let h1 := closeHire rec_ x { r with state := afterReturn cond, battery := some bat } h
  endClose rec_ (lowStockTests h (meterEvent (hireEvent .returned desk x.tariff x.preset) h1))

/-- DECLARE LOST closes a hire at the replacement fee, wholly to centre 0 (R113, R130). -/
def loseHire (r : Receiver) (x : Hire) (h : Hall) : Hall × CloseFigures :=
  let fee := h.settings.windows[r.window].fee
  let f := lostFigures (h.pricing x.tariff) x.issued h.now (h.unservedNow x) x.deposit fee
  let rec_ := closeRecord h .lost 0 x f [(0, fee)]
  endClose rec_ (closeHire rec_ x { r with state := .lost } h)

/-- The FOUND record of a LOST receiver returned (R131). -/
def foundRecord (h : Hall) (desk : DeskId) (s : Serial) : Settlement where
  seq         := 0
  kind        := .found
  day         := h.account.day.number
  serial      := s
  badge       := 0
  hire        := 0
  desk        := numOf desk
  tariff      := 0
  issued      := h.now
  closed      := h.now
  elapsed     := 0
  unserved    := 0
  billable    := 0
  intervals   := 0
  gross       := 0
  charge      := 0
  overdue     := false
  stale       := h.clock.stale
  deposit     := 0
  refund      := 0
  outstanding := 0
  shares      := []

/-- The RETURN of a LOST receiver finds it (R110): its sequence number and whether the record went unitemised. The
record is placed last, as every record is (R142, log entry 51). -/
def findReceiver (desk : DeskId) (cond : ReturnCond) (bat : Nat) (r : Receiver) (h : Hall) : Hall × Nat × Bool :=
  let h1 := h.putReceiver { r with state := afterReturn cond, battery := some bat }
  placeRecord (foundRecord h desk r.serial)
    (lowStockTests h (meterEvent ⟨.returned, none, some desk, none, none⟩ h1))

/-! ### Overdue (R112) -/

/-- An OPEN hire becomes OVERDUE with its receiver (R112). -/
def makeOverdue (x : Hire) (h : Hall) : Hall :=
  let h1 := h.putHire { x with overdue := true }
  let h2 :=
    match h1.receiver x.serial with
    | some r => h1.putReceiver { r with state := .overdue x.number }
    | none => h1
  let h3 := h2.post .hire .overdue x.serial.toNat x.number
  (meterEvent (hireEvent .overdue x.desk x.tariff x.preset) h3).ask onlyFleet

/-- A due-minute expiry, due where the minute has reached the due minute of an OPEN hire (R112). -/
def takeDue (n : Nat) (h : Hall) : Hall :=
  match h.hire n with
  | some x => if x.overdue = false ∧ x.due.any (fun d => d ≤ h.now) then makeOverdue x h else h
  | none => h

/-- The OPEN hires whose due minute has been reached, in ascending order of due minute (R112), of equal minutes in
ascending order of hire number (log entry 43). -/
def Hall.dueHires (h : Hall) : List Hire :=
  sortBy (fun x y => x.due.getD 0 < y.due.getD 0)
    (h.fleet.hires.filter fun x => !x.overdue && x.due.any fun d => d ≤ h.now)

/-- Every due expiry the minute has reached is taken, in ascending order of due minute (R112). -/
def takeAllDue (h : Hall) : Hall := h.dueHires.foldl (fun h x => takeDue x.number h) h

/-! ### Readings (R111, R118) -/

/-- The hire fields of a QUERY answer, with the estimate of R132. -/
def Hall.estimate (h : Hall) (x : Hire) : HireEstimate :=
  let f := h.returnFigures x
  ⟨x.number, x.badge, x.preset, h.now - x.issued, x.due, h.unservedNow x, f.charge, f.refund, f.outstanding⟩

/-- A QUERY answer, and READ RECEIVER with SER (R111, R118). -/
def Hall.receiverReading (h : Hall) (r : Receiver) : ReceiverReading :=
  ⟨r.state, r.window, r.issues, r.battery, (r.state.hire?.bind h.hire).map h.estimate⟩

/-- READ RECEIVER with WIN (R118); the SET FLEET answer takes the same fields (R97, log entry 60). -/
def Hall.windowReading (h : Hall) (w : WindowId) : WindowReading :=
  ⟨h.settings.windows[w], h.stockCount w, h.lowFired[w]⟩

end Sys2Proof.Machine
end

