-- ==== Sys2Proof/Machine/Settings.lean ====
section
/-! DEFINITION. The SET orders: SET CHANNEL, SET BOOTH, SET CONSOLE, SET RELAY LIST, SET TARIFF and its reading,
SET FLEET, SET CENTRE, SET HALL, SET METER. Each is tested as a whole and then takes effect as a whole. -/

namespace Sys2Proof.Machine

/-- The answer of the first failing test, or else the effect. -/
def tested (tests : List (Bool × AnswerCode)) (s : State) (effect : Verdict) : Verdict :=
  match firstFailing tests with
  | some c => refuse c s
  | none => effect

/-! ### SET CHANNEL (R2 to R9) -/

end Sys2Proof.Machine

namespace Sys2Proof

open Machine

/-- The channel record as it would stand with every given argument applied (R2). Channel 0 keeps enable, pinned and
floor fill. -/
def SetChannelArgs.apply (a : SetChannelArgs) (c : ChannelId) (r : ChannelSettings) : ChannelSettings where
  enabled := if c = 0 then r.enabled else a.en.or r.enabled
  code    := a.code.or r.code
  label   := a.label.or r.label
  fill    := if c = 0 then r.fill else a.fill.or r.fill
  pinned  := if c = 0 then r.pinned else a.pin.or r.pinned

end Sys2Proof

namespace Sys2Proof.Machine

/-- A booth names the channel as an output or in its relay choice list (R5). -/
def Hall.channelNamed (h : Hall) (c : ChannelId) : Bool :=
  (ids 16).any fun b => h.settings.booths[b].names c || h.settings.booths[b].relayList.contains c

/-- Another ENABLED channel holds the code (R3). -/
def Hall.codeTaken (h : Hall) (c : ChannelId) (code : Text) : Bool :=
  (ids 32).any fun d => d != c && h.settings.channels[d].enabled && h.settings.channels[d].code == code

/-- The other channels of 1 to 31 with pinned on, DISABLED ones among them (R8). -/
def Hall.otherPinned (h : Hall) (c : ChannelId) : Nat :=
  ((ids 32).filter fun d => d != 0 && d != c && h.settings.channels[d].pinned).length

end Sys2Proof.Machine

namespace Sys2Proof

open Machine

/-- A value of SET CHANNEL is malformed (R2, test 2). -/
def SetChannelArgs.malformed (a : SetChannelArgs) : Bool :=
  a.ch.isBad || a.en.isBad || a.code.isBad || a.label.isBad || a.fill.isBad || a.pin.isBad || a.force.isBad
    || a.code.any (fun t => !codeForm t) || a.label.any (fun t => !labelForm t)

end Sys2Proof

namespace Sys2Proof.Machine

/-- Tests 3 to 9 of R2 for channel `c`. -/
def channelTests (pfw : Bool) (h : Hall) (c : ChannelId) (a : SetChannelArgs) : List (Bool × AnswerCode) :=
  let new := a.apply c h.settings.channels[c]
  let off := a.en == Arg.val false
  [ (pfw, .powerFail),
    (c == 0 && (off || a.pin == Arg.val false || a.fill == Arg.val true), .state),
    (new.enabled && new.code == [], .state),
    (new.enabled && h.codeTaken c new.code, .duplicate),
    (c != 0 && a.pin == Arg.val true && 3 ≤ h.otherPinned c, .full),
    (off && h.channelNamed c, .inUse),
    (off && 0 < h.demand c && a.force != Arg.val (), .inUse) ]

/-- The open hires preset to a channel. -/
def Hall.hiresOn (h : Hall) (c : ChannelId) : List Hire := h.fleet.hires.filter fun x => x.preset == c

/-- The consequences of a settings change on channel `c` from `old` to the record that now stands (R3, R4, R7 to R9):
re-evaluation, then the reports of pinning and of a new code to the carrier allocator. That order of the reports, which
R80 leaves open, is log entry 39's choice. -/
def channelConsequences (c : ChannelId) (old : ChannelSettings) (h : Hall) : Hall :=
  let new := h.settings.channels[c]
  let h1 := reevaluate h c
  let h2 :=
    if new.enabled && new.pinned && !(old.enabled && old.pinned) then
      allocEvent (pinnedReport c) h1
    else if new.enabled && old.enabled && old.pinned && !new.pinned then allocEvent (unpinnedReport c) h1
    else h1
  if new.enabled && old.enabled && new.code != old.code && (h2.carrierOf c).isSome then allocEvent id h2 else h2

/-- An accepted SET CHANNEL (R2 to R9): a disable first moves the channel's hires to channel 0 (R6). -/
def applyChannel (c : ChannelId) (a : SetChannelArgs) (h : Hall) : Hall :=
  let old := h.settings.channels[c]
  let new := a.apply c old
  let h1 := if old.enabled && !new.enabled then (h.hiresOn c).foldl (moveHire 0) h else h
  channelConsequences c old (h1.modChannelSettings c fun _ => new)

/-- The hires an accepted SET CHANNEL moves (R6). -/
def hiresMoved (c : ChannelId) (a : SetChannelArgs) (h : Hall) : Nat :=
  let old := h.settings.channels[c]
  if old.enabled && !(a.apply c old).enabled then (h.hiresOn c).length else 0

/-- The areas of the one write that an order's answer waits on: its own and those its consequences ask for (R2). -/
def gatherAsks (own : AreaSet) (h : Hall) : AreaSet × Hall :=
  (h.work.asks.foldl AreaSet.union own, { h with work := { h.work with asks := [] } })

/-- SET CHANNEL (R2). The answer of an order that gives EN=OFF carries MOVED (R6). -/
def setChannel (a : SetChannelArgs) (s : State) : Verdict :=
  match needId (idFrom0 32) a.ch with
  | .error code => refuse code s
  | .ok c =>
    let h := s.hall
    let moved := hiresMoved c a h
    let own := if 0 < moved then onlySettings.union fleetAccount else onlySettings
    let p := gatherAsks own (applyChannel c a h)
    tested ((a.malformed, .syntaxError) :: channelTests s.pfw h c a) s
      (.wait p.1 (.ok (if a.en == Arg.val false then .moved moved else .plain) []) { s with hall := p.2 })

/-! ### SET BOOTH (R21, R22) -/

/-- An output argument as a channel of 1 to 31, or NONE; the outer `none` where it is out of range. -/
def outputChannel : Option Nat → Option (Option ChannelId)
  | none => some none
  | some n => if h : 1 ≤ n ∧ n < 32 then some (some ⟨n, h.2⟩) else none

/-- The output a booth would name with the argument applied. -/
def outputOr (x : Arg (Option Nat)) (old : Option ChannelId) : Option ChannelId :=
  match x with
  | .val v => (outputChannel v).getD old
  | _ => old

end Sys2Proof.Machine

namespace Sys2Proof

open Machine

/-- The booth record as it would stand with every given argument applied, its numbers clamped (R21). -/
def SetBoothArgs.apply (a : SetBoothArgs) (r : BoothSettings) : BoothSettings where
  enabled   := a.en.or r.enabled
  outA      := outputOr a.outA r.outA
  outB      := outputOr a.outB r.outB
  mode      := a.mode.or r.mode
  timeout   := tenthsOr 20 600 r.timeout a.hto
  shift1    := clampOr 1 90 r.shift1 a.shift1
  shiftR    := clampOr 0 30 r.shiftR a.shiftR
  relayList := r.relayList

/-- A value of SET BOOTH is malformed (R21, test 2). -/
def SetBoothArgs.malformed (a : SetBoothArgs) : Bool :=
  a.booth.isBad || a.en.isBad || a.outA.isBad || a.outB.isBad || a.mode.isBad || a.hto.isBad || a.shift1.isBad
    || a.shiftR.isBad || tooFine a.hto

end Sys2Proof

namespace Sys2Proof.Machine

/-- An output names a DISABLED channel (R21, test 5). -/
def Hall.outputDisabled (h : Hall) (o : Option ChannelId) : Bool := o.any fun c => !h.settings.channels[c].enabled

/-- Four booths other than `b` name the channel as an output (R21, test 7). -/
def Hall.outputCrowded (h : Hall) (b : BoothId) (o : Option ChannelId) : Bool :=
  o.any fun c => 4 ≤ ((ids 16).filter fun x => x != b && h.settings.booths[x].names c).length

/-- Tests 3 to 8 of R21 for booth `b`. -/
def boothTests (pfw : Bool) (h : Hall) (b : BoothId) (a : SetBoothArgs) : List (Bool × AnswerCode) :=
  let old := h.settings.booths[b]
  let new := a.apply old
  let changed := new.outA != old.outA || new.outB != old.outB
  let graph := if changed then relayCheck (vset h.settings.booths b new) else none
  [ (pfw, .powerFail),
    (changed && (h.booths[b].owner).isSome, .state),
    (h.outputDisabled new.outA || h.outputDisabled new.outB, .state),
    (new.outA.isSome && new.outA == new.outB, .duplicate),
    (h.outputCrowded b new.outA || h.outputCrowded b new.outB, .full),
    (graph.isSome, graph.getD .loop) ]

end Sys2Proof.Machine

namespace Sys2Proof

open Machine

/-- The clamped arguments of SET BOOTH, in the order its rule lists them (log entry 44). -/
def SetBoothArgs.clamps (a : SetBoothArgs) : List Clamp :=
  clampMarkTenths "HTO" 20 600 a.hto ++ clampMark "SHIFT1" 1 90 a.shift1 ++ clampMark "SHIFTR" 0 30 a.shiftR

end Sys2Proof

namespace Sys2Proof.Machine

/-- An accepted SET BOOTH (R21, R22): a booth made DISABLED has its interlock taken down (R62). -/
def applyBooth (b : BoothId) (a : SetBoothArgs) (h : Hall) : Hall :=
  let old := h.settings.booths[b]
  let new := a.apply old
  let h1 := h.modBoothSettings b fun _ => new
  settle (if old.enabled && !new.enabled then disableBooth b h1 else h1)

/-- SET BOOTH (R21). -/
def setBooth (a : SetBoothArgs) (s : State) : Verdict :=
  let badOut := a.outA.any (fun o => (outputChannel o).isNone) || a.outB.any (fun o => (outputChannel o).isNone)
  match needId (idFrom1 16) a.booth with
  | .error .range => refuse .range s
  | .error code => if badOut then refuse .range s else refuse code s
  | .ok b =>
    tested ((badOut, .range) :: (a.malformed, .syntaxError) :: boothTests s.pfw s.hall b a) s
      (.wait onlySettings (.ok .plain a.clamps) { s with hall := applyBooth b a s.hall })

/-! ### SET CONSOLE (R25, R26) -/

/-- The BOOTH argument of SET CONSOLE as a booth, or NONE; the outer `none` where it is out of range. -/
def consoleBoothArg : Option Nat → Option (Option BoothId)
  | none => some none
  | some n => (idFrom1 16 n).map some

/-- The booth already has three consoles other than this one (R25, test 5). -/
def Hall.boothFull (h : Hall) (a : ConsoleId) (b : Option BoothId) : Bool :=
  b.any fun b => 3 ≤ ((h.consolesOf b).filter fun x => x != a).length

/-- The console is LIVE, MUTED, REQUESTING or QUARANTINED (R25, test 4). -/
def ConsoleState.tied : ConsoleState → Bool
  | .live | .muted | .requesting | .quarantined => true
  | _ => false

/-- SET CONSOLE (R25). An order naming the console's present booth changes nothing and is answered at once. -/
def setConsole (addr : Arg Nat) (booth : Arg (Option Nat)) (s : State) : Verdict :=
  let noBooth := booth.isAbsent || booth.any fun v => (consoleBoothArg v).isNone
  match needId (idFrom1 48) addr with
  | .error .range => refuse .range s
  | .error code => if noBooth then refuse .range s else refuse code s
  | .ok a =>
    let b := (booth.val?.bind consoleBoothArg).getD none
    tested
      [ (noBooth, .range), (booth.isBad, .syntaxError), (s.pfw, .powerFail),
        (s.hall.consoles[a].state.tied, .state), (s.hall.boothFull a b, .full) ] s
      (if s.hall.boothOf a = b then .now (.ok .plain []) s
       else .wait onlySettings (.ok .plain []) { s with hall := assignConsole a b s.hall })

/-! ### SET RELAY LIST (R71) -/

/-- Listed channels as channels of 1 to 31; none where one is out of range. -/
def relayChannels (l : List Nat) : Option (List ChannelId) :=
  l.mapM fun n => if h : 1 ≤ n ∧ n < 32 then some ⟨n, h.2⟩ else none

/-- An accepted SET RELAY LIST, steps 1 to 4 of R71. -/
def applyRelayList (b : BoothId) (list : List ChannelId) (h : Hall) : Hall :=
  let keep (s : Option ChannelId) : Option ChannelId := s.filter fun c => list.contains c
  let h1 := h.modBoothSettings b fun r => { r with relayList := list }
  let h2 := (h.consolesOf b).foldl (fun h a => h.modConsole a fun r => { r with relaySel := keep r.relaySel }) h1
  settle (h2.modBooth b fun r => { r with unowned := keep r.unowned })

/-- SET RELAY LIST (R71). An order that gives the list the booth holds changes nothing and is answered at once. -/
def setRelayList (booth : Arg Nat) (list : Arg (List Nat)) (s : State) : Verdict :=
  let badChannel := list.any fun l => (relayChannels l).isNone
  match needId (idFrom1 16) booth with
  | .error .range => refuse .range s
  | .error code => if badChannel then refuse .range s else refuse code s
  | .ok b =>
    let h := s.hall
    let l := (list.val?.bind relayChannels).getD []
    let graph := relayCheck (vmod h.settings.booths b fun r => { r with relayList := l })
    tested
      [ (badChannel, .range), (list.isAbsent || list.isBad, .syntaxError), (s.pfw, .powerFail), (4 < l.length, .full),
        (!decide l.Nodup, .duplicate), (l.any fun c => !h.settings.channels[c].enabled, .state),
        (graph.isSome, graph.getD .loop) ] s
      (if h.settings.booths[b].relayList = l then .now (.ok .plain []) s
       else .wait onlySettings (.ok .plain []) { s with hall := applyRelayList b l h })

/-! ### SET TARIFF (R119 to R121) -/

end Sys2Proof.Machine

namespace Sys2Proof

open Machine

/-- A value of SET TARIFF is malformed (R120, test 2). -/
def SetTariffArgs.malformed (a : SetTariffArgs) : Bool :=
  a.tar.isBad || a.defined.isBad || a.base.isBad || a.len.isBad || a.rate.isBad || a.grace.isBad || a.cap.isBad
    || a.limit.isBad || a.odfee.isBad || a.dep.isBad || a.credit.isBad

/-- A setting other than DEF is given. -/
def SetTariffArgs.givesOther (a : SetTariffArgs) : Bool :=
  !(a.base.isAbsent && a.len.isAbsent && a.rate.isAbsent && a.grace.isAbsent && a.cap.isAbsent && a.limit.isAbsent
    && a.odfee.isAbsent && a.dep.isAbsent && a.credit.isAbsent)

/-- TAR is given alone: the order is a reading (R120, R121). -/
def SetTariffArgs.isReading (a : SetTariffArgs) : Bool := a.defined.isAbsent && !a.givesOther

/-- The tariff record after an accepted order (R120, steps 1 to 3): a class that was undefined and is not given DEF=NO
takes the defaults of R119 for the fields not given. -/
def SetTariffArgs.apply (a : SetTariffArgs) (r : Tariff) : Tariff :=
  if a.defined = .val false then { r with defined := false }
  else
    let r := if r.defined then r else Tariff.default
    { defined := true
      base    := clampOr 0 maxMoney r.base a.base
      len     := clampOr 1 1440 r.len a.len
      rate    := clampOr 0 maxMoney r.rate a.rate
      grace   := clampOr 0 240 r.grace a.grace
      cap     := clampOr 0 maxMoney r.cap a.cap
      limit   := clampOr 0 10080 r.limit a.limit
      odfee   := clampOr 0 maxMoney r.odfee a.odfee
      deposit := clampOr 0 maxMoney r.deposit a.dep
      credit  := a.credit.or r.credit }

/-- The clamped arguments of SET TARIFF, in the order of R119 (log entry 44). -/
def SetTariffArgs.clamps (a : SetTariffArgs) : List Clamp :=
  clampMark "BASE" 0 maxMoney a.base ++ clampMark "LEN" 1 1440 a.len ++ clampMark "RATE" 0 maxMoney a.rate
    ++ clampMark "GRACE" 0 240 a.grace ++ clampMark "CAP" 0 maxMoney a.cap ++ clampMark "LIMIT" 0 10080 a.limit
    ++ clampMark "ODFEE" 0 maxMoney a.odfee ++ clampMark "DEP" 0 maxMoney a.dep

end Sys2Proof

namespace Sys2Proof.Machine

/-- SET TARIFF with TAR alone (R121). -/
def tariffReading (tar : Arg Nat) (s : State) : Verdict :=
  reading (fun s => (rangeOnly (needId (idFrom1 8) tar)).map fun t => .tariff s.hall.settings.tariffs[t]) s

/-- Sets tariff class `t`'s record. -/
def Hall.setTariff (t : TariffId) (r : Tariff) (h : Hall) : Hall :=
  { h with settings := { h.settings with tariffs := vset h.settings.tariffs t r } }

/-- SET TARIFF (R120). An order that gives a class the values it holds writes nothing and is answered at once. -/
def setTariff (a : SetTariffArgs) (s : State) : Verdict :=
  if a.isReading then tariffReading a.tar s
  else
    match needId (idFrom1 8) a.tar with
    | .error code => refuse code s
    | .ok t =>
      let old := s.hall.settings.tariffs[t]
      let new := a.apply old
      tested
        [ (a.malformed, .syntaxError), (a.defined == Arg.val false && a.givesOther, .syntaxError), (s.pfw, .powerFail),
          (s.hall.dayOpen, .frozen) ] s
        (if new = old then .now (.ok (.tariff old) a.clamps) s
         else .wait onlySettings (.ok (.tariff new) a.clamps) { s with hall := s.hall.setTariff t new })

/-! ### SET FLEET (R97) -/

end Sys2Proof.Machine

namespace Sys2Proof

open Machine

/-- A value of SET FLEET is malformed (R97, test 2). -/
def SetFleetArgs.malformed (a : SetFleetArgs) : Bool :=
  a.win.isBad || a.en.isBad || a.base.isBad || a.mask.isBad || a.label.isBad || a.fee.isBad || a.lowStk.isBad
    || a.base.any (fun n => maxCount < n) || a.mask.any (fun n => maxCount < n) || a.label.any (fun t => !labelForm t)

end Sys2Proof

namespace Sys2Proof.Machine

/-- A 32-bit pattern given, or the one that stands. -/
def serialOr (x : Arg Nat) (old : Serial) : Serial :=
  match x with
  | .val n => BitVec.ofNat 32 n
  | _ => old

end Sys2Proof.Machine

namespace Sys2Proof

open Machine

/-- The window's settings as they would stand with every given argument applied, its numbers clamped (R97). -/
def SetFleetArgs.apply (a : SetFleetArgs) (w : WindowSettings) : WindowSettings where
  enabled  := a.en.or w.enabled
  base     := serialOr a.base w.base
  mask     := serialOr a.mask w.mask
  label    := a.label.or w.label
  fee      := clampOr 0 maxMoney w.fee a.fee
  lowStock := clampOr 0 4096 w.lowStock a.lowStk

end Sys2Proof

namespace Sys2Proof.Machine

/-- Some receiver record names the window (R97, test 4). -/
def Hall.windowUsed (h : Hall) (w : WindowId) : Bool := h.fleet.receivers.any fun r => r.window == w

/-- An accepted SET FLEET (R97): the settings, and the low-stock flag set without a notice (R99). -/
def applyFleet (w : WindowId) (a : SetFleetArgs) (h : Hall) : Hall :=
  let h1 := { h with settings := { h.settings with windows := vmod h.settings.windows w a.apply } }
  { h1 with lowFired := vset h1.lowFired w (h1.lowFlag w) }

end Sys2Proof.Machine

namespace Sys2Proof

open Machine

/-- The clamped arguments of SET FLEET, in the order its rule lists them (log entry 44). -/
def SetFleetArgs.clamps (a : SetFleetArgs) : List Clamp :=
  clampMark "FEE" 0 maxMoney a.fee ++ clampMark "LOWSTK" 0 4096 a.lowStk

end Sys2Proof

namespace Sys2Proof.Machine

/-- SET FLEET (R97). DESIGN CHOICE (log entry 60): the answer, sent when the write completes, carries STOCK and FLAG with
the settings, and all of them as they stand when the order is taken, its own changes made. -/
def setFleet (a : SetFleetArgs) (s : State) : Verdict :=
  match needId (idFrom1 8) a.win with
  | .error code => refuse code s
  | .ok w =>
    let old := s.hall.settings.windows[w]
    let new := a.apply old
    let h := applyFleet w a s.hall
    tested
      [ (a.malformed, .syntaxError), (s.pfw, .powerFail),
        ((new.base != old.base || new.mask != old.mask) && s.hall.windowUsed w, .inUse) ] s
      (.wait onlySettings (.ok (.window (h.windowReading w)) a.clamps) { s with hall := h })

/-! ### SET CENTRE (R140) -/

/-- SET CENTRE (R140). Where LABEL is not given the label stands, and SETTINGS is written all the same (log entry 46). -/
def setCentre (centre : Arg Nat) (label : Arg Text) (s : State) : Verdict :=
  match needId (idFrom0 16) centre with
  | .error code => refuse code s
  | .ok k =>
    let labels := vmod s.hall.settings.labels k label.or
    tested
      [ (label.isBad || label.any (fun t => !labelForm t), .syntaxError), (s.pfw, .powerFail) ] s
      (.wait onlySettings (.ok .plain [])
        { s with hall := { s.hall with settings := { s.hall.settings with labels := labels } } })

/-! ### SET HALL (R79, R104, R161) -/

/-- The MASK list names a word that is not a class, a class twice, or NONE with a class (R161, test 1). -/
def maskMalformed (l : List MaskWord) : Bool :=
  l.any (fun w => w == .other) || !decide l.Nodup || (l.contains .noneWord && 1 < l.length) || l == []

/-- The set of classes a well-formed MASK list names, kept and read back in the order of R162, whatever the order given
(log entry 59). -/
def maskClasses (l : List MaskWord) : List NoticeClass := allClasses.filter fun c => l.contains (.cls c)

end Sys2Proof.Machine

namespace Sys2Proof

open Machine

/-- A value of SET HALL is malformed (R161, test 1). -/
def SetHallArgs.malformed (a : SetHallArgs) : Bool :=
  a.emargin.isBad || a.chold.isBad || a.badgeLim.isBad || a.minBat.isBad || a.chkReq.isBad || a.mask.isBad
    || tooFine a.chold || a.mask.any maskMalformed

/-- The hall settings with every given argument applied and clamped (R161). -/
def SetHallArgs.apply (a : SetHallArgs) (r : HallSettings) : HallSettings where
  margin     := clampOr 0 255 r.margin a.emargin
  hold       := tenthsOr 0 600 r.hold a.chold
  badgeLimit := clampOr 1 4 r.badgeLimit a.badgeLim
  minBattery := clampOr 0 100 r.minBattery a.minBat
  checksum   := a.chkReq.or r.checksum
  masked     := (a.mask.val?.map maskClasses).getD r.masked

/-- The clamped arguments of SET HALL, in the order its rule lists them (log entry 44). -/
def SetHallArgs.clamps (a : SetHallArgs) : List Clamp :=
  clampMark "EMARGIN" 0 255 a.emargin ++ clampMarkTenths "CHOLD" 0 600 a.chold
    ++ clampMark "BADGELIM" 1 4 a.badgeLim ++ clampMark "MINBAT" 0 100 a.minBat

end Sys2Proof

namespace Sys2Proof.Machine

/-- An accepted SET HALL: a change of the margin is an event of the carrier allocator (R79). -/
def applyHall (a : SetHallArgs) (h : Hall) : Hall :=
  let new := a.apply h.settings.hall
  let h1 := { h with settings := { h.settings with hall := new } }
  if new.margin = h.settings.hall.margin then h1 else allocEvent id h1

/-- SET HALL (R161). -/
def setHall (a : SetHallArgs) (s : State) : Verdict :=
  tested
    [ (a.malformed, .syntaxError), (s.pfw, .powerFail), (!a.badgeLim.isAbsent && s.hall.dayOpen, .frozen) ] s
    (.wait onlySettings (.ok (.hall (a.apply s.hall.settings.hall)) a.clamps) { s with hall := applyHall a s.hall })

/-! ### SET METER (R153) -/

/-- The qualifier a QUAL value names; none where its number is outside the range of its kind (R153, test 1). -/
def qualifierOf : QualWord → Option Qualifier
  | .any => some .any
  | .booth n => (idFrom1 16 n).map .booth
  | .desk n => (idFrom1 4 n).map .desk
  | .channel n => (idFrom0 32 n).map .channel
  | .tariff n => (idFrom1 8 n).map .tariff

end Sys2Proof.Machine

namespace Sys2Proof

open Machine

/-- A value of SET METER is malformed (R153, test 2). -/
def SetMeterArgs.malformed (a : SetMeterArgs) : Bool :=
  a.met.isBad || a.en.isBad || a.src.isBad || a.qual.isBad || a.win.isBad || a.thr.isBad || a.inv.isBad || a.edge.isBad
    || a.preset.isBad || a.day.isBad

/-- The meter's settings with every given argument applied and clamped (R153). -/
def SetMeterArgs.apply (a : SetMeterArgs) (r : MeterSettings) : MeterSettings where
  enabled   := a.en.or r.enabled
  source    := a.src.or r.source
  qualifier := (a.qual.val?.bind qualifierOf).getD r.qualifier
  window    := clampOr 1 60 r.window a.win
  threshold := clampOr 0 255 r.threshold a.thr
  invert    := a.inv.or r.invert
  edge      := a.edge.or r.edge
  preset    := clampOr 0 maxCount r.preset a.preset
  day       := a.day.or r.day

/-- The clamped arguments of SET METER, in the order its rule lists them (log entry 44). -/
def SetMeterArgs.clamps (a : SetMeterArgs) : List Clamp :=
  clampMark "WIN" 1 60 a.win ++ clampMark "THR" 0 255 a.thr ++ clampMark "PRESET" 0 maxCount a.preset

end Sys2Proof

namespace Sys2Proof.Machine

/-- An accepted SET METER: the settings, and the running state cleared (R153). -/
def applyMeter (m : MeterId) (a : SetMeterArgs) (h : Hall) : Hall :=
  clearRunning { h with settings := { h.settings with meters := vmod h.settings.meters m a.apply } } m

/-- SET METER (R153). The answer carries WAS, the count before the order. -/
def setMeter (a : SetMeterArgs) (s : State) : Verdict :=
  let badQual := a.qual.any fun q => (qualifierOf q).isNone
  match needId (idFrom1 8) a.met with
  | .error .range => refuse .range s
  | .error code => if badQual then refuse .range s else refuse code s
  | .ok m =>
    let new := a.apply s.hall.settings.meters[m]
    tested
      [ (badQual, .range), (a.malformed, .syntaxError), (s.pfw, .powerFail),
        (!new.source.carries new.qualifier, .state), (new.source.isLevel && new.threshold == 0, .range) ] s
      (.wait onlySettings (.ok (.was s.hall.meters[m].count) a.clamps) { s with hall := applyMeter m a s.hall })

/-! ### The commands -/

/-- SET_CHANNEL (R2). -/
def execSetChannel (tag : Tag) (a : SetChannelArgs) (s : State) : Host.Outcome State Fault Refusal :=
  .next (hostLine tag (setChannel a) s)

/-- SET_BOOTH (R21). -/
def execSetBooth (tag : Tag) (a : SetBoothArgs) (s : State) : Host.Outcome State Fault Refusal :=
  .next (hostLine tag (setBooth a) s)

/-- SET_CONSOLE (R25). -/
def execSetConsole (tag : Tag) (addr : Arg Nat) (booth : Arg (Option Nat)) (s : State) :
    Host.Outcome State Fault Refusal :=
  .next (hostLine tag (setConsole addr booth) s)

/-- SET_RELAY_LIST (R71). -/
def execSetRelayList (tag : Tag) (booth : Arg Nat) (list : Arg (List Nat)) (s : State) :
    Host.Outcome State Fault Refusal :=
  .next (hostLine tag (setRelayList booth list) s)

/-- SET_TARIFF (R120). -/
def execSetTariff (tag : Tag) (a : SetTariffArgs) (s : State) : Host.Outcome State Fault Refusal :=
  .next (hostLine tag (setTariff a) s)

/-- SET_TARIFF_READING (R121). -/
def execSetTariffReading (tag : Tag) (tar : Arg Nat) (s : State) : Host.Outcome State Fault Refusal :=
  .next (hostLine tag (tariffReading tar) s)

/-- SET_FLEET (R97). -/
def execSetFleet (tag : Tag) (a : SetFleetArgs) (s : State) : Host.Outcome State Fault Refusal :=
  .next (hostLine tag (setFleet a) s)

/-- SET_CENTRE (R140). -/
def execSetCentre (tag : Tag) (centre : Arg Nat) (label : Arg Text) (s : State) : Host.Outcome State Fault Refusal :=
  .next (hostLine tag (setCentre centre label) s)

/-- SET_HALL (R161). -/
def execSetHall (tag : Tag) (a : SetHallArgs) (s : State) : Host.Outcome State Fault Refusal :=
  .next (hostLine tag (setHall a) s)

/-- SET_METER (R153). -/
def execSetMeter (tag : Tag) (a : SetMeterArgs) (s : State) : Host.Outcome State Fault Refusal :=
  .next (hostLine tag (setMeter a) s)

end Sys2Proof.Machine
end

