-- ==== Sys2Proof/Machine/Collection.lean ====
section
/-! DEFINITION. The orders that collect notices, acknowledge conditions, clear the fault log and a meter, and the two
orders on a console (R37, R61, R154, R164, R165, R167). -/

namespace Sys2Proof.Machine

/-- FETCH NOTICES (R164): the oldest unmasked notices, up to 8, leave the queue. -/
def fetchNotices (s : State) : Verdict :=
  let masked := s.hall.settings.hall.masked
  .now (.ok (.notices (fetched masked 8 s.notice.queue)) [])
    { s with notice := { s.notice with queue := unfetched masked 8 s.notice.queue } }

/-- ACK CONDITION's argument form (R165, test 1): NAME given, and ADDR given exactly for QUARANTINE. -/
def ackMalformed (name : Arg ConditionName) (addr : Arg Nat) : Bool :=
  match name with
  | .val .quarantine => addr.isAbsent || addr.isBad
  | .val _ => !addr.isAbsent
  | _ => true

/-- ACK CONDITION of one condition, by its state (R165, tests 3 and 4). -/
def acknowledge (name : ConditionName) (a : ConsoleId) (s : State) : Verdict :=
  match s.notice.conds.get name a with
  | .clear => refuse .notFound s
  | .active => refuse .stillActive s
  | .ended => .now (.ok .plain []) { s with notice := { s.notice with conds := s.notice.conds.remove name a } }

/-- ACK CONDITION (R165). -/
def ackCondition (name : Arg ConditionName) (addr : Arg Nat) (s : State) : Verdict :=
  if ackMalformed name addr then refuse .syntaxError s
  else
    match name, addr with
    | .val n, .val m =>
      match idFrom1 48 m with
      | some a => acknowledge n a s
      | none => refuse .range s
    | .val n, _ => acknowledge n 0 s
    | _, _ => refuse .syntaxError s

/-- CLEAR FAULTS (R167). -/
def clearFaults (s : State) : Verdict :=
  .now (.ok (.was s.notice.log.length) []) { s with notice := { s.notice with log := [] } }

/-- CLEAR METER (R154). -/
def clearMeter (met : Arg Nat) (s : State) : Verdict :=
  match rangeOnly (needId (idFrom1 8) met) with
  | .error c => refuse c s
  | .ok m => .now (.ok (.was s.hall.meters[m].count) []) { s with hall := clearResults s.hall m }

/-- READMIT CONSOLE (R37). -/
def readmitConsole (addr : Arg Nat) (s : State) : Verdict :=
  match rangeOnly (needId (idFrom1 48) addr) with
  | .error c => refuse c s
  | .ok a =>
    if s.hall.consoles[a].state = .quarantined then
      .now (.ok .plain []) { s with hall := readmitQuarantined a s.hall }
    else refuse .state s

/-- FORCE RELEASE (R61). -/
def forceRelease (addr : Arg Nat) (s : State) : Verdict :=
  match rangeOnly (needId (idFrom1 48) addr) with
  | .error c => refuse c s
  | .ok a =>
    let v := s.hall.consoles[a].state
    if v.onChannel ∨ v = .requesting then
      let h := settle (forceOff a s.hall)
      .now (.ok (.released v h.work.granted) []) { s with hall := h }
    else refuse .state s

/-! ### The commands -/

/-- FETCH_NOTICES (R164). -/
def execFetchNotices (tag : Tag) (s : State) : Host.Outcome State Fault Refusal :=
  .next (hostLine tag fetchNotices s)

/-- ACK_CONDITION (R165). -/
def execAckCondition (tag : Tag) (name : Arg ConditionName) (addr : Arg Nat) (s : State) :
    Host.Outcome State Fault Refusal :=
  .next (hostLine tag (ackCondition name addr) s)

/-- CLEAR_FAULTS (R167). -/
def execClearFaults (tag : Tag) (s : State) : Host.Outcome State Fault Refusal :=
  .next (hostLine tag clearFaults s)

/-- CLEAR_METER (R154). -/
def execClearMeter (tag : Tag) (met : Arg Nat) (s : State) : Host.Outcome State Fault Refusal :=
  .next (hostLine tag (clearMeter met) s)

/-- READMIT_CONSOLE (R37). -/
def execReadmitConsole (tag : Tag) (addr : Arg Nat) (s : State) : Host.Outcome State Fault Refusal :=
  .next (hostLine tag (readmitConsole addr) s)

/-- FORCE_RELEASE (R61). -/
def execForceRelease (tag : Tag) (addr : Arg Nat) (s : State) : Host.Outcome State Fault Refusal :=
  .next (hostLine tag (forceRelease addr) s)

end Sys2Proof.Machine
end

