-- ==== Sys2Proof/Machine/Day.lean ====
section
/-! DEFINITION. The accounting day, the sessions and the settlement queue's orders (spec/08_the_accounting_day.md, R134
to R144). -/

namespace Sys2Proof.Machine

/-! ### The day (R135, R136) -/

/-- The ACCOUNT area after an accepted OPEN DAY, steps 1 to 5 of R135. -/
def Account.opened (a : Account) (day hires : Nat) : Account :=
  { a with
    day := ⟨true, day, 0, 0, 0, 0⟩
    session := .none
    lastSession := 0
    log := []
    balances := Vector.replicate 16 0
    channels := Vector.replicate 32 ⟨0, 0, 0⟩
    booths := Vector.replicate 16 ⟨0, 0, 0⟩
    consoleLive := Vector.replicate 48 0
    hireCounter := 0
    peakHires := hires }

/-- A live spell opens on every console LIVE or MUTED (R38). -/
def openLiveSpells (h : Hall) : Hall :=
  (ids 48).foldl (fun h a => if h.consoles[a].state.onChannel then openLiveSpell a h else h) h

/-- A fallback spell opens in every booth in fallback (R74). -/
def openFallbackSpells (h : Hall) : Hall :=
  (ids 16).foldl (fun h b => if (h.booths[b].fallback).isSome then openFallbackSpell b h else h) h

/-- An accepted OPEN DAY (R135, R18, R38, R74, R154). -/
def startDay (day : Nat) (h : Hall) : Hall :=
  let h1 := { h with account := h.account.opened day h.openHires }
  clearDayMeters (openFallbackSpells (openLiveSpells h1.spellsAll))

/-- OPEN DAY (R135). -/
def openDay (day : Arg Nat) (s : State) : Verdict :=
  match needNat 1 9999 day with
  | .error code => refuse code s
  | .ok d =>
    let rec_ := s.hall.account.day
    tested
      [ (s.pfw, .powerFail), (rec_.isOpen, .state), (d ≤ rec_.number && rec_.number != 9999, .backward) ] s
      (.wait onlyAccount (.ok .plain []) { s with hall := startDay d s.hall })

/-- An accepted CLOSE DAY (R136): fill, live and fallback spells end. -/
def endDay (h : Hall) : Hall :=
  let h1 := { h with account := { h.account with day := { h.account.day with isOpen := false } } }
  let h2 := (ids 48).foldl (fun h a => endLiveSpell a h) h1.spellsAll
  (ids 16).foldl (fun h b => endFallbackSpell b h) h2

/-- CLOSE DAY (R136). -/
def closeDay (s : State) : Verdict :=
  tested
    [ (s.pfw, .powerFail), (!s.hall.dayOpen, .state), (s.hall.account.session != .none, .sessionOpen),
      (s.hall.fleet.hires != [], .openHires) ] s
    (.wait onlyAccount (.ok .plain []) { s with hall := endDay s.hall })

/-! ### Sessions (R137, R138) -/

/-- The session state, the log and the last session number set, every channel re-evaluated (R10). -/
def setSession (v : Session) (log : List Interval) (last : Nat) (h : Hall) : Hall :=
  Hall.spellsAll { h with account := { h.account with session := v, log := log, lastSession := last } }

/-- The open interval, which is the last, is given the end `now` (R138). -/
def endInterval (now : Nat) (log : List Interval) : List Interval :=
  log.map fun v => if v.finish.isNone then { v with finish := some now } else v

/-- An accepted OPEN SESSION (R137): the session, and the peaks cleared (R16, R93). -/
def startSession (k : CentreId) (h : Hall) : Hall :=
  let n := h.account.lastSession + 1
  let h1 := setSession (.running n k) (h.account.log ++ [⟨n, k, h.now, none⟩]) n h
  { h1 with
    channels := vtab fun c => { h1.channels[c] with peak := h1.channels[c].demand }
    air := { h1.air with peak := h1.inUse } }

/-- The log holds its 64 intervals (R137). -/
def Hall.logFull (h : Hall) : Bool := 64 ≤ h.account.log.length

/-- OPEN SESSION (R137). -/
def openSession (centre : Arg Nat) (s : State) : Verdict :=
  match needNat 1 15 centre with
  | .error code => refuse code s
  | .ok n =>
    tested
      [ (s.pfw, .powerFail), (!s.hall.dayOpen || s.hall.account.session != .none, .state), (s.hall.logFull, .full) ] s
      (.wait onlyAccount (.ok (.session (s.hall.account.lastSession + 1)) [])
        { s with hall := startSession (Fin.ofNat 16 n) s.hall })

/-- SUSPEND SESSION (R138). -/
def suspendSession (s : State) : Verdict :=
  let h := s.hall
  if s.pfw then refuse .powerFail s
  else
    match h.account.session with
    | .running n k =>
      .wait onlyAccount (.ok .plain [])
        { s with hall := setSession (.suspended n k) (endInterval h.now h.account.log) h.account.lastSession h }
    | _ => refuse .state s

/-- RESUME SESSION (R138). -/
def resumeSession (s : State) : Verdict :=
  let h := s.hall
  if s.pfw then refuse .powerFail s
  else
    match h.account.session with
    | .suspended n k =>
      if h.logFull then refuse .full s
      else
        .wait onlyAccount (.ok .plain [])
          { s with
            hall := setSession (.running n k) (h.account.log ++ [⟨n, k, h.now, none⟩]) h.account.lastSession h }
    | _ => refuse .state s

/-- END SESSION (R138). -/
def endSession (s : State) : Verdict :=
  let h := s.hall
  if s.pfw then refuse .powerFail s
  else
    match h.account.session with
    | .none => refuse .state s
    | _ =>
      .wait onlyAccount (.ok .plain [])
        { s with hall := setSession .none (endInterval h.now h.account.log) h.account.lastSession h }

/-! ### The settlement queue (R143, R144) -/

/-- PEEK SETTLEMENTS (R143). -/
def peekSettlements (n : Arg Nat) (s : State) : Verdict :=
  reading (fun s => (rangeOnly (needNat 1 8 n)).map fun k => .settlements (s.hall.account.queue.take k)) s

/-- RELEASE SETTLEMENTS (R144). DESIGN CHOICE (log entry 61): LEFT counts the records the removal leaves, without any that
a close appends while the answer waits on its write. -/
def releaseSettlements (seq : Arg Nat) (s : State) : Verdict :=
  match seq with
  | .absent | .bad => refuse .syntaxError s
  | .val n =>
    let a := s.hall.account
    let kept := a.queue.filter fun r => n < r.seq
    tested [ (a.seq < n, .range), (s.pfw, .powerFail) ] s
      (if kept.length = a.queue.length then .now (.ok .releasedNone []) s
       else
        .wait onlyAccount (.ok (.releasedRecords (a.queue.length - kept.length) kept.length) [])
          { s with hall := { s.hall with account := { a with queue := kept } } })

/-! ### The commands -/

/-- OPEN_DAY (R135). -/
def execOpenDay (tag : Tag) (day : Arg Nat) (s : State) : Host.Outcome State Fault Refusal :=
  .next (hostLine tag (openDay day) s)

/-- CLOSE_DAY (R136). -/
def execCloseDay (tag : Tag) (s : State) : Host.Outcome State Fault Refusal :=
  .next (hostLine tag closeDay s)

/-- OPEN_SESSION (R137). -/
def execOpenSession (tag : Tag) (centre : Arg Nat) (s : State) : Host.Outcome State Fault Refusal :=
  .next (hostLine tag (openSession centre) s)

/-- SUSPEND_SESSION (R138). -/
def execSuspendSession (tag : Tag) (s : State) : Host.Outcome State Fault Refusal :=
  .next (hostLine tag suspendSession s)

/-- RESUME_SESSION (R138). -/
def execResumeSession (tag : Tag) (s : State) : Host.Outcome State Fault Refusal :=
  .next (hostLine tag resumeSession s)

/-- END_SESSION (R138). -/
def execEndSession (tag : Tag) (s : State) : Host.Outcome State Fault Refusal :=
  .next (hostLine tag endSession s)

/-- PEEK_SETTLEMENTS (R143). -/
def execPeekSettlements (tag : Tag) (n : Arg Nat) (s : State) : Host.Outcome State Fault Refusal :=
  .next (hostLine tag (peekSettlements n) s)

/-- RELEASE_SETTLEMENTS (R144). -/
def execReleaseSettlements (tag : Tag) (seq : Arg Nat) (s : State) : Host.Outcome State Fault Refusal :=
  .next (hostLine tag (releaseSettlements seq) s)

end Sys2Proof.Machine
end

