-- ==== Sys2Proof/Machine/Desk.lean ====
section
/-! DEFINITION. The desk requests and the host's orders on hire (spec/06_receivers_badges_and_hire.md, R106 to R116). -/

namespace Sys2Proof.Machine

/-- The receiver a request presents, its record created in STOCK where it has none (R101, R106 tests 3 and 4, R109
tests 2 and 3), with the state that then stands and whether a record was created. -/
def presented (ser : Serial) (h : Hall) : Except AnswerCode (Receiver × Hall × Bool) :=
  match h.receiver ser with
  | some r => .ok (r, h, false)
  | none =>
    match h.windowOf ser with
    | none => .error .foreign
    | some w => if h.tableFull then .error .tableFull else .ok (⟨ser, w, .stock, 0, none⟩, createReceiver ser w h, true)

/-- A refusal after the receiver was looked up: a record that was created is written through first (R101). -/
def refusePresented (c : AnswerCode) (created : Bool) (before h : Hall) (s : State) : Verdict :=
  if created then .wait onlyFleet (.er c) { s with hall := lowStockTests before h } else refuse c s

/-! ### ISSUE (R106, R107) -/

/-- Tests 7 to 11 of R106. -/
def issueTests (h : Hall) (badge : Serial) (tar : TariffId) (ch : ChannelId) : List (Bool × AnswerCode) :=
  let entry := h.badge badge
  [ (!h.settings.tariffs[tar].defined, .noTariff), (!h.settings.channels[ch].enabled, .noChannel),
    (entry.any fun b => 0 < b.debt, .debt), (entry.any fun b => h.settings.hall.badgeLimit ≤ b.hires.length, .limit),
    (entry.isNone && 4096 ≤ h.fleet.badges.length, .badgeFull) ]

/-- A refusal at the battery test: the level is recorded and LOW_BATTERY handed to the meter unit (R106). -/
def refuseBattery (desk : DeskId) (r : Receiver) (tar : TariffId) (ch : ChannelId) (bat : Nat) (h : Hall) : Hall :=
  meterEvent (hireEvent .lowBattery desk tar ch) (h.putReceiver { r with battery := some bat })

/-- ISSUE (R106, R107). A level above 100 is taken as 100, which an accepted answer says. DUE is the hire's due minute, also
one past the range (log entry 50). -/
def issue (desk : DeskId) (ser badge : Serial) (tar : TariffId) (ch : ChannelId) (bat : Nat) (s : State) : Verdict :=
  let before := s.hall
  let level := min bat 100
  if !before.dayOpen then refuse .dayClosed s
  else if s.pfw then refuse .powerFail s
  else
    match presented ser before with
    | .error c => refuse c s
    | .ok (r, h, created) =>
      if r.state ≠ .stock then refusePresented .notStock created before h s
      else if level < h.settings.hall.minBattery then
        .wait onlyFleet (.er .lowBattery)
          { s with hall := lowStockTests before (refuseBattery desk r tar ch level h) }
      else
        match firstFailing (issueTests h badge tar ch) with
        | some c => refusePresented c created before h s
        | none =>
          let f := h.settings.tariffs[tar]
          let due := if f.limit = 0 then none else some (h.now + f.limit)
          .wait fleetAccount (.ok (.issued h.nextNumber f.deposit due) (clampMark "BAT" 0 100 (.val bat)))
            { s with hall := lowStockTests before (openHire desk r badge tar ch level h) }

/-! ### LANGUAGE (R108) -/

/-- A receiver's open hire, while it is ISSUED or OVERDUE. -/
def Hall.hireOf (h : Hall) (ser : Serial) : Option Hire := (h.receiver ser).bind fun r => r.state.hire?.bind h.hire

/-- An accepted LANGUAGE that changes the preset (R108). -/
def retune (desk : DeskId) (x : Hire) (ch : ChannelId) (h : Hall) : Hall :=
  meterEvent (hireEvent .language desk x.tariff ch) (moveHire ch h x)

/-- LANGUAGE (R108). The OK to a request for the present preset carries CH as the OK to a move does: the rule gives no
fields there (log entry 58). -/
def changeLanguage (desk : DeskId) (ser : Serial) (ch : ChannelId) (s : State) : Verdict :=
  if s.pfw then refuse .powerFail s
  else
    match s.hall.hireOf ser with
    | none => refuse .notIssued s
    | some x =>
      if !s.hall.settings.channels[ch].enabled then refuse .noChannel s
      else if x.preset = ch then .now (.ok (.language ch) []) s
      else .wait onlyFleet (.ok (.language ch) []) { s with hall := retune desk x ch s.hall }

/-! ### RETURN (R109, R110) -/

/-- RETURN (R109, R110). A level above 100 is taken as 100. -/
def returnReceiver (desk : DeskId) (ser : Serial) (cond : ReturnCond) (bat : Nat) (s : State) : Verdict :=
  let before := s.hall
  let level := min bat 100
  if s.pfw then refuse .powerFail s
  else
    match presented ser before with
    | .error c => refuse c s
    | .ok (r, h, created) =>
      match r.state with
      | .stock | .faulty => refusePresented .notIssued created before h s
      | .lost =>
        let p := findReceiver desk cond level r h
        .wait fleetAccount (.ok (.found p.2.1 p.2.2) []) { s with hall := p.1 }
      | .issued n | .overdue n =>
        match h.hire n with
        | none => refuse .notIssued s
        | some x =>
          let p := returnHire desk cond level r x h
          .wait fleetAccount (.ok (.returned p.2) []) { s with hall := p.1 }

/-! ### QUERY (R111) -/

/-- QUERY (R111). -/
def query (ser : Serial) (s : State) : Verdict :=
  reading (fun s =>
    match s.hall.receiver ser with
    | some r => .ok (.receiver (s.hall.receiverReading r))
    | none => .error .notFound) s

/-! ### The host's orders (R113 to R116) -/

/-- A host order on a receiver record: SER in range, no power-fail warning, a record (R113 to R115). -/
def onReceiver (ser : Arg Nat) (s : State) (act : Receiver → Verdict) : Verdict :=
  match rangeOnly (needSerial ser) with
  | .error c => refuse c s
  | .ok k =>
    if s.pfw then refuse .powerFail s
    else
      match s.hall.receiver k with
      | none => refuse .notFound s
      | some r => act r

/-- DECLARE LOST (R113). -/
def declareLost (ser : Arg Nat) (s : State) : Verdict :=
  onReceiver ser s fun r =>
    match r.state.hire?.bind s.hall.hire with
    | none => refuse .state s
    | some x =>
      let p := loseHire r x s.hall
      .wait fleetAccount (.ok (.lost p.2) []) { s with hall := p.1 }

/-- A receiver moved between STOCK and FAULTY, with the low-stock test (R114). -/
def moveReceiver (r : Receiver) (v : ReceiverState) (h : Hall) : Hall :=
  lowStockTests h (h.putReceiver { r with state := v })

/-- MARK FAULTY (R114). -/
def markFaulty (ser : Arg Nat) (s : State) : Verdict :=
  onReceiver ser s fun r =>
    if r.state = .stock then .wait onlyFleet (.ok .plain []) { s with hall := moveReceiver r .faulty s.hall }
    else refuse .state s

/-- MARK REPAIRED (R114). -/
def markRepaired (ser : Arg Nat) (s : State) : Verdict :=
  onReceiver ser s fun r =>
    if r.state = .faulty then .wait onlyFleet (.ok .plain []) { s with hall := moveReceiver r .stock s.hall }
    else refuse .state s

/-- REMOVE RECEIVER (R115). -/
def removeReceiver (ser : Arg Nat) (s : State) : Verdict :=
  onReceiver ser s fun r =>
    if r.state = .stock ∨ r.state = .faulty then
      .wait onlyFleet (.ok .plain []) { s with hall := lowStockTests s.hall (s.hall.dropReceiver r.serial) }
    else refuse .state s

/-- CLEAR DEBT (R116). -/
def clearDebt (badge : Arg Nat) (s : State) : Verdict :=
  match rangeOnly (needSerial badge) with
  | .error c => refuse c s
  | .ok k =>
    if s.pfw then refuse .powerFail s
    else
      match s.hall.badge k with
      | none => refuse .notFound s
      | some b => .wait onlyFleet (.ok (.was b.debt) []) { s with hall := s.hall.putBadge { b with debt := 0 } }

/-! ### The commands -/

/-- ISSUE (R106, R107). -/
def execIssue (desk : DeskId) (tag : Tag) (ser badge : Serial) (tar : TariffId) (ch : ChannelId) (bat : Nat)
    (s : State) : Host.Outcome State Fault Refusal :=
  .next (deskLine desk tag (issue desk ser badge tar ch bat) s)

/-- LANGUAGE (R108). -/
def execLanguage (desk : DeskId) (tag : Tag) (ser : Serial) (ch : ChannelId) (s : State) :
    Host.Outcome State Fault Refusal :=
  .next (deskLine desk tag (changeLanguage desk ser ch) s)

/-- RETURN (R109, R110). -/
def execReturn (desk : DeskId) (tag : Tag) (ser : Serial) (cond : ReturnCond) (bat : Nat) (s : State) :
    Host.Outcome State Fault Refusal :=
  .next (deskLine desk tag (returnReceiver desk ser cond bat) s)

/-- QUERY (R111). -/
def execQuery (desk : DeskId) (tag : Tag) (ser : Serial) (s : State) : Host.Outcome State Fault Refusal :=
  .next (deskLine desk tag (query ser) s)

/-- DECLARE_LOST (R113). -/
def execDeclareLost (tag : Tag) (ser : Arg Nat) (s : State) : Host.Outcome State Fault Refusal :=
  .next (hostLine tag (declareLost ser) s)

/-- MARK_FAULTY (R114). -/
def execMarkFaulty (tag : Tag) (ser : Arg Nat) (s : State) : Host.Outcome State Fault Refusal :=
  .next (hostLine tag (markFaulty ser) s)

/-- MARK_REPAIRED (R114). -/
def execMarkRepaired (tag : Tag) (ser : Arg Nat) (s : State) : Host.Outcome State Fault Refusal :=
  .next (hostLine tag (markRepaired ser) s)

/-- REMOVE_RECEIVER (R115). -/
def execRemoveReceiver (tag : Tag) (ser : Arg Nat) (s : State) : Host.Outcome State Fault Refusal :=
  .next (hostLine tag (removeReceiver ser) s)

/-- CLEAR_DEBT (R116). -/
def execClearDebt (tag : Tag) (badge : Arg Nat) (s : State) : Host.Outcome State Fault Refusal :=
  .next (hostLine tag (clearDebt badge) s)

end Sys2Proof.Machine
end

