-- ==== Sys2Proof/Machine/Readings.lean ====
section
/-! DEFINITION. The READ orders (R19, R42, R43, R64, R77, R95, R96, R118, R145, R146, R156, R167, R168, R177): each is
answered at once and changes nothing. -/

namespace Sys2Proof.Machine

/-- READ CHANNEL (R19, R64). -/
def Hall.readChannel (h : Hall) (c : ChannelId) : ChannelReading where
  settings := h.settings.channels[c]
  service  := h.channels[c].service
  feeder   := h.channels[c].feeder
  carrier  := h.carrierView c
  served   := h.channels[c].servedSince.isSome
  accruing := h.channels[c].outageSince.isSome
  demand   := h.channels[c].demand
  peak     := h.channels[c].peak
  outage   := h.outage c
  onAir    := h.onAirMinutes c
  fill     := h.fillMinutes c
  waitList := h.waitLists[c]

/-- READ BOOTH (R42, R64, R77). -/
def Hall.readBooth (h : Hall) (b : BoothId) : BoothReading where
  settings  := h.settings.booths[b]
  consoles  := h.consolesOf b
  owner     := h.booths[b].owner
  queue     := h.booths[b].queue
  handovers := h.account.booths[b].handovers
  live      := h.boothLiveMinutes b
  wait      := h.waitPlace b
  unowned   := h.booths[b].unowned
  source    := h.incoming b
  input     := h.effective b
  fallback  := h.booths[b].fallback
  fallMins  := h.fallbackMinutes b

/-- READ CONSOLE (R43, R64). -/
def Hall.readConsole (h : Hall) (a : ConsoleId) : ConsoleReading where
  booth     := h.boothOf a
  state     := h.consoles[a].state
  output    := h.consoles[a].output
  relay     := h.consoles[a].relaySel
  keys      := h.consoles[a].accepted
  bad       := h.consoles[a].bad
  isolation := h.consoles[a].isolation
  goodStart := h.consoles[a].goodStart
  live      := h.consoleLiveMinutes a
  cont      := asOf h.consoles[a].contStart 0 h.now
  lamps     := h.lamps a
  timer     := h.consoles[a].handoverExpiry.map fun t => t - h.tenths
  nextShift := h.consoles[a].nextShift

/-- READ CARRIERS without an argument (R95). -/
def Hall.readCarriers (h : Hall) : CarriersReading where
  carriers   := h.air.carriers
  waiting    := h.air.waiting.map fun c => (c, h.demand c)
  generation := h.link.generation
  inUse      := h.inUse
  peak       := h.air.peak
  margin     := h.settings.hall.margin
  hold       := h.settings.hall.hold

/-- READ CARRIERS with CAR (R95). -/
def Hall.readCarrier (h : Hall) (k : CarrierId) : CarrierReading where
  carrier := h.air.carriers[k]
  code    := h.air.carriers[k].channel?.map fun c => h.settings.channels[c].code
  hold    := h.air.carriers[k].expiry?.map fun t => t - h.tenths

/-- READ RECEIVER without an argument (R118). -/
def Hall.readFleet (h : Hall) : FleetReading where
  receivers := h.fleet.receivers.length
  hires     := h.openHires
  badges    := h.fleet.badges.length
  peakHires := h.account.peakHires
  counter   := h.account.hireCounter
  windows   := vtab fun w => (h.settings.windows[w].enabled, h.stockCount w, h.lowFired[w])

/-- READ DAY without an argument (R145). -/
def Hall.readDay (h : Hall) : DayReading where
  day         := h.account.day
  peakHires   := h.account.peakHires
  hires       := h.openHires
  lastSession := h.account.lastSession
  intervals   := h.account.log.length
  queueLen    := h.account.queue.length
  seq         := h.account.seq

/-- READ METER (R156). -/
def Hall.readMeter (h : Hall) (m : MeterId) : MeterReading where
  settings := h.settings.meters[m]
  run      := h.meters[m]
  left     := h.meters[m].next.map fun n => n - h.now
  level    := h.levels.of h.settings.meters[m].source

/-- READ STATUS (R168). -/
def State.readStatus (s : State) : StatusReading where
  dayNumber := s.hall.account.day.number
  dayOpen   := s.hall.dayOpen
  session   := s.hall.account.session
  minute    := s.hall.now
  stale     := s.hall.clock.stale
  powerFail := s.pfw
  dark      := s.hall.dark
  notices   := s.notice.queue.length
  masked    := s.hall.settings.hall.masked
  conds     := s.notice.conds
  faults    := s.notice.log.length
  checksum  := s.hall.settings.hall.checksum

/-- READ RECEIVER in its three forms (R118). More than one argument is malformed (log entry 10). -/
def receiverAnswer (ser win : Arg Nat) (h : Hall) : Except AnswerCode Reply :=
  if ser.isAbsent then
    if win.isAbsent then .ok (.fleet h.readFleet)
    else (rangeOnly (needId (idFrom1 8) win)).map fun w => .window (h.windowReading w)
  else if !win.isAbsent then .error .syntaxError
  else
    match rangeOnly (needSerial ser) with
    | .error c => .error c
    | .ok k =>
      match h.receiver k with
      | some r => .ok (.receiver (h.receiverReading r))
      | none => .error .notFound

/-- READ HIRE (R118). -/
def hireAnswer (n : Arg Nat) (h : Hall) : Except AnswerCode Reply :=
  match rangeOnly (needNat 1 65535 n) with
  | .error c => .error c
  | .ok k =>
    match h.hire k with
    | some x => .ok (.hire ⟨x, h.unservedNow x⟩)
    | none => .error .notFound

/-- READ BADGE (R118). -/
def badgeAnswer (b : Arg Nat) (h : Hall) : Except AnswerCode Reply :=
  match rangeOnly (needSerial b) with
  | .error c => .error c
  | .ok k =>
    match h.badge k with
    | some e => .ok (.badge e.hires e.debt)
    | none => .error .notFound

/-- READ DAY in its four forms (R145). More than one argument is malformed (log entry 10). -/
def dayAnswer (ch booth cons : Arg Nat) (h : Hall) : Except AnswerCode Reply :=
  if ch.isAbsent && booth.isAbsent && cons.isAbsent then .ok (.day h.readDay)
  else if booth.isAbsent && cons.isAbsent then
    (rangeOnly (needId (idFrom0 32) ch)).map fun c =>
      .dayChannel h.settings.channels[c].label h.settings.channels[c].code (h.outage c) (h.onAirMinutes c) (h.fillMinutes c)
  else if ch.isAbsent && cons.isAbsent then
    (rangeOnly (needId (idFrom1 16) booth)).map fun b =>
      .dayBooth (h.boothLiveMinutes b) h.account.booths[b].handovers (h.fallbackMinutes b)
  else if ch.isAbsent && booth.isAbsent then
    (rangeOnly (needId (idFrom1 48) cons)).map fun a => .dayConsole (h.boothOf a) (h.consoleLiveMinutes a)
  else .error .syntaxError

/-- READ SESSIONS in its two forms (R146). -/
def sessionsAnswer (idx : Arg Nat) (h : Hall) : Except AnswerCode Reply :=
  if idx.isAbsent then .ok (.sessions ⟨h.account.session, h.account.lastSession, h.account.log.length⟩)
  else
    match rangeOnly (needNat 1 64 idx) with
    | .error c => .error c
    | .ok k =>
      match h.account.log[k - 1]? with
      | some v => .ok (.interval v)
      | none => .error .notFound

/-- READ CARRIERS in its two forms (R95). -/
def carriersAnswer (car : Arg Nat) (h : Hall) : Except AnswerCode Reply :=
  if car.isAbsent then .ok (.carriers h.readCarriers)
  else (rangeOnly (needId (idFrom0 16) car)).map fun k => .carrier (h.readCarrier k)

/-- A reading of the blocks. -/
def hallReading (r : Hall → Except AnswerCode Reply) (s : State) : Verdict := reading (fun s => r s.hall) s

/-! ### The commands -/

/-- READ_CHANNEL (R19, R64). -/
def execReadChannel (tag : Tag) (ch : Arg Nat) (s : State) : Host.Outcome State Fault Refusal :=
  .next (hostLine tag (hallReading fun h => (rangeOnly (needId (idFrom0 32) ch)).map fun c => .channel (h.readChannel c)) s)

/-- READ_BOOTH (R42, R64, R77). -/
def execReadBooth (tag : Tag) (booth : Arg Nat) (s : State) : Host.Outcome State Fault Refusal :=
  .next (hostLine tag (hallReading fun h => (rangeOnly (needId (idFrom1 16) booth)).map fun b => .booth (h.readBooth b)) s)

/-- READ_CONSOLE (R43, R64). -/
def execReadConsole (tag : Tag) (addr : Arg Nat) (s : State) : Host.Outcome State Fault Refusal :=
  .next (hostLine tag (hallReading fun h => (rangeOnly (needId (idFrom1 48) addr)).map fun a => .console (h.readConsole a)) s)

/-- READ_CARRIERS (R95). -/
def execReadCarriers (tag : Tag) (car : Arg Nat) (s : State) : Host.Outcome State Fault Refusal :=
  .next (hostLine tag (hallReading (carriersAnswer car)) s)

/-- READ_EMITTERS (R96). -/
def execReadEmitters (tag : Tag) (s : State) : Host.Outcome State Fault Refusal :=
  .next (hostLine tag (hallReading fun h => .ok (.emitters ⟨h.link.slots, h.dark, h.link.sentGen⟩)) s)

/-- READ_RECEIVER (R118). -/
def execReadReceiver (tag : Tag) (ser win : Arg Nat) (s : State) : Host.Outcome State Fault Refusal :=
  .next (hostLine tag (hallReading (receiverAnswer ser win)) s)

/-- READ_HIRE (R118). -/
def execReadHire (tag : Tag) (hire : Arg Nat) (s : State) : Host.Outcome State Fault Refusal :=
  .next (hostLine tag (hallReading (hireAnswer hire)) s)

/-- READ_BADGE (R118). -/
def execReadBadge (tag : Tag) (badge : Arg Nat) (s : State) : Host.Outcome State Fault Refusal :=
  .next (hostLine tag (hallReading (badgeAnswer badge)) s)

/-- READ_CENTRES (R146). -/
def execReadCentres (tag : Tag) (s : State) : Host.Outcome State Fault Refusal :=
  .next (hostLine tag
    (hallReading fun h => .ok (.centres h.settings.labels h.account.balances h.account.day.total)) s)

/-- READ_DAY (R145). -/
def execReadDay (tag : Tag) (ch booth cons : Arg Nat) (s : State) : Host.Outcome State Fault Refusal :=
  .next (hostLine tag (hallReading (dayAnswer ch booth cons)) s)

/-- READ_SESSIONS (R146). -/
def execReadSessions (tag : Tag) (idx : Arg Nat) (s : State) : Host.Outcome State Fault Refusal :=
  .next (hostLine tag (hallReading (sessionsAnswer idx)) s)

/-- READ_METER (R156). -/
def execReadMeter (tag : Tag) (met : Arg Nat) (s : State) : Host.Outcome State Fault Refusal :=
  .next (hostLine tag (hallReading fun h => (rangeOnly (needId (idFrom1 8) met)).map fun m => .meter (h.readMeter m)) s)

/-- READ_STATUS (R168). -/
def execReadStatus (tag : Tag) (s : State) : Host.Outcome State Fault Refusal :=
  .next (hostLine tag (reading fun s => .ok (.status s.readStatus)) s)

/-- READ_FAULTS (R167). -/
def execReadFaults (tag : Tag) (s : State) : Host.Outcome State Fault Refusal :=
  .next (hostLine tag (reading fun s => .ok (.faults s.notice.log)) s)

/-- READ_START (R177). -/
def execReadStart (tag : Tag) (s : State) : Host.Outcome State Fault Refusal :=
  .next (hostLine tag
    (reading fun s => .ok (.start ⟨s.start, s.hall.account.day.powerUps, s.hall.clock.stale⟩)) s)

end Sys2Proof.Machine
end

