-- ==== Sys2Proof/Machine/Lines.lean ====
section
/-! DEFINITION. The tests of a completed line (R157, R158), on the control port and on the desk links, and the lines that
are refused or discarded (R105, R159). -/

namespace Sys2Proof.Machine

/-! ### Characters -/

/-- A decimal digit. -/
def isDigit (c : Char) : Bool := '0'.toNat ≤ c.toNat && c.toNat ≤ '9'.toNat

/-- A capital letter. -/
def isCapital (c : Char) : Bool := 'A'.toNat ≤ c.toNat && c.toNat ≤ 'Z'.toNat

/-- The value of a hexadecimal digit, in capitals or small letters (R157). -/
def hexValue (c : Char) : Option Nat :=
  let n := c.toNat
  if 48 ≤ n ∧ n ≤ 57 then some (n - 48)
  else if 65 ≤ n ∧ n ≤ 70 then some (n - 55)
  else if 97 ≤ n ∧ n ≤ 102 then some (n - 87)
  else none

/-- The value of decimal digits; none where one is not a digit or there is none. -/
def natOf (t : Text) : Option Nat :=
  if t.isEmpty || !t.all isDigit then none else some (t.foldl (fun n c => 10 * n + (c.toNat - 48)) 0)

/-- The checksum of R157: the sum of the codes, modulo 256. -/
def checksum (t : Text) : Nat := (t.foldl (fun n c => n + c.toNat) 0) % 256

/-! ### Fields -/

/-- The words of a line, separated by spaces, a space between double quotes kept; with whether a quote is left open. -/
def splitWords : Text → Bool → Text → List Text × Bool
  | [], q, w => (if w.isEmpty then [] else [w.reverse], q)
  | c :: cs, q, w =>
    if c = '"' then splitWords cs (!q) (c :: w)
    else if c = ' ' ∧ q = false then
      let r := splitWords cs false []
      (if w.isEmpty then r.1 else w.reverse :: r.1, r.2)
    else splitWords cs q (c :: w)

/-- The text of a value, which may be empty: what stands between its double quotes, or the characters themselves (R157);
none where quotes stand elsewhere than round the whole value. -/
def valueText (v : Text) : Option Text :=
  match v with
  | '"' :: rest =>
    match rest.reverse with
    | '"' :: inner => if inner.contains '"' then none else some inner.reverse
    | _ => none
  | _ => if v.contains '"' then none else some v

/-- A word of a verb, or an argument taken without a value: capital letters (R157). -/
def isVerbWord (w : Text) : Bool := !w.isEmpty && w.all isCapital

/-- The name of an argument given a value: a capital letter, then capital letters and digits (log entry 9). -/
def isName (w : Text) : Bool :=
  match w with
  | [] => false
  | c :: cs => isCapital c && cs.all fun d => isCapital d || isDigit d

/-- A field after the tag: NAME, or NAME=value (R157). -/
structure Field where
  name  : Text
  value : Option Text
deriving DecidableEq, Repr

/-- A word read as a field; none where it has neither form. Where a name alone may stand is `nameAlone`'s. -/
def fieldOf (w : Text) : Option Field :=
  let name := w.takeWhile fun c => c != '='
  match w.drop name.length with
  | [] => if isVerbWord name then some ⟨name, none⟩ else none
  | _ :: v => if isName name then (valueText v).map fun t => ⟨name, some t⟩ else none

/-! ### The catalogues (R160, R105) -/

/-- A verb, as its words, with the names of the arguments it takes. -/
abbrev Catalogue := List (List String × List String)

/-- The order catalogue (R160), with the arguments each order's rule gives it. -/
def orderCatalogue : Catalogue :=
  [ (["SET", "CHANNEL"], ["CH", "EN", "CODE", "LABEL", "FILL", "PIN", "FORCE"]),
    (["SET", "BOOTH"], ["BOOTH", "EN", "OUTA", "OUTB", "MODE", "HTO", "SHIFT1", "SHIFTR"]),
    (["SET", "CONSOLE"], ["ADDR", "BOOTH"]),
    (["SET", "RELAY", "LIST"], ["BOOTH", "LIST"]),
    (["SET", "TARIFF"], ["TAR", "DEF", "BASE", "LEN", "RATE", "GRACE", "CAP", "LIMIT", "ODFEE", "DEP", "CREDIT"]),
    (["SET", "FLEET"], ["WIN", "EN", "BASE", "MASK", "LABEL", "FEE", "LOWSTK"]),
    (["SET", "CENTRE"], ["CENTRE", "LABEL"]),
    (["SET", "HALL"], ["EMARGIN", "CHOLD", "BADGELIM", "MINBAT", "CHKREQ", "MASK"]),
    (["SET", "METER"], ["MET", "EN", "SRC", "QUAL", "WIN", "THR", "INV", "EDGE", "PRESET", "DAY"]),
    (["SET", "CLOCK"], ["MIN"]),
    (["OPEN", "DAY"], ["DAY"]), (["CLOSE", "DAY"], []),
    (["OPEN", "SESSION"], ["CENTRE"]), (["SUSPEND", "SESSION"], []), (["RESUME", "SESSION"], []),
    (["END", "SESSION"], []),
    (["DECLARE", "LOST"], ["SER"]), (["MARK", "FAULTY"], ["SER"]), (["MARK", "REPAIRED"], ["SER"]),
    (["REMOVE", "RECEIVER"], ["SER"]), (["CLEAR", "DEBT"], ["BADGE"]),
    (["READMIT", "CONSOLE"], ["ADDR"]), (["FORCE", "RELEASE"], ["ADDR"]), (["RESTART"], ["HOLD"]),
    (["READ", "CHANNEL"], ["CH"]), (["READ", "BOOTH"], ["BOOTH"]), (["READ", "CONSOLE"], ["ADDR"]),
    (["READ", "CARRIERS"], ["CAR"]), (["READ", "EMITTERS"], []),
    (["READ", "RECEIVER"], ["SER", "WIN"]), (["READ", "HIRE"], ["HIRE"]), (["READ", "BADGE"], ["BADGE"]),
    (["READ", "CENTRES"], []), (["READ", "DAY"], ["CH", "BOOTH", "CONS"]), (["READ", "SESSIONS"], ["IDX"]),
    (["READ", "METER"], ["MET"]), (["READ", "STATUS"], []), (["READ", "FAULTS"], []), (["READ", "START"], []),
    (["FETCH", "NOTICES"], []), (["ACK", "CONDITION"], ["NAME", "ADDR"]), (["CLEAR", "FAULTS"], []),
    (["PEEK", "SETTLEMENTS"], ["N"]), (["RELEASE", "SETTLEMENTS"], ["SEQ"]), (["CLEAR", "METER"], ["MET"]) ]

/-- The desk verbs (R105). -/
def deskCatalogue : Catalogue :=
  [ (["ISSUE"], ["SER", "BADGE", "TAR", "CH", "BAT"]), (["LANGUAGE"], ["SER", "CH"]),
    (["RETURN"], ["SER", "COND", "BAT"]), (["QUERY"], ["SER"]) ]

/-- The verb whose words the fields begin with, and the fields behind it. -/
def findVerb (cat : Catalogue) (fields : List Field) : Option ((List String × List String) × List Field) :=
  (cat.find? fun v => (fields.take v.1.length) == v.1.map fun w => ⟨w.toList, none⟩).map fun v =>
    (v, fields.drop v.1.length)

/-- The arguments that an order takes without a value (R2, R176). -/
def takenAlone (verb : List String) : List String :=
  if verb = ["SET", "CHANNEL"] then ["FORCE"]
  else if verb = ["RESTART"] then ["HOLD"]
  else []

/-- A name alone where R157 allows none: an argument that its order takes with a value, or, behind words that begin with no
verb of the catalogue, one that is neither among the first three nor ahead of every value (log entry 9). -/
def nameAlone (cat : Catalogue) (fields : List Field) : Bool :=
  match findVerb cat fields with
  | some (v, args) => args.any fun f => f.value.isNone && !((takenAlone v.1).map String.toList).contains f.name
  | none =>
    let verb := fields.takeWhile fun f => f.value.isNone
    (fields.drop (min 3 verb.length)).any fun f => f.value.isNone

/-- A word behind the tag that is not of the form of R157: one that is no field, in the place of the verb a name with a
value, or a name alone where none may stand. -/
def wordsWrong (cat : Catalogue) (words : List Text) : Bool :=
  words.any (fun w => (fieldOf w).isNone) || (words.head?.any fun w => (fieldOf w).any fun f => f.value.isSome)
    || nameAlone cat (words.filterMap fieldOf)

/-! ### The tests of R158 -/

/-- What the tests make of a line: ignored, refused with a tag and a code, or passed. -/
inductive Judgement where
  | ignored
  | refused (tag : Tag) (c : AnswerCode)
  | passed (verb : List String) (args : List Field)
deriving DecidableEq, Repr

/-- The checksum a line carries: `none` where it has no "*", `some none` where a "*" does not stand before exactly two
hexadecimal digits at its end (R158, test 2). -/
def givenSum (line : Text) : Option (Option Nat) :=
  match line.dropWhile fun c => c != '*' with
  | [] => none
  | [_, x, y] =>
    match hexValue x, hexValue y with
    | some a, some b => some (some (16 * a + b))
    | _, _ => some none
  | _ => some none

/-- Tests 5 and 6 of R158. -/
def judgeFields (cat : Catalogue) (tag : Tag) (fields : List Field) : Judgement :=
  match findVerb cat fields with
  | none => .refused tag .unknown
  | some (v, args) =>
    let names := args.map Field.name
    if names.all (fun n => (v.2.map String.toList).contains n) && decide names.Nodup then .passed v.1 args
    else .refused tag .syntaxError

/-- The tests of R158 on a line without its LFs. A line without a tag is answered with the tag 0. -/
def judge (cat : Catalogue) (required : Bool) (line : Text) : Judgement :=
  if line.isEmpty then .ignored
  else
    let body := line.takeWhile fun c => c != '*'
    let sum := givenSum line
    let words := splitWords body false []
    let tag := body.takeWhile fun c => c != ' '
    if tag.isEmpty || 4 < tag.length || !tag.all isDigit then .refused ['0'] .syntaxError
    else
      let behind := words.1.drop 1
      if 120 < line.length || sum == some none || words.2 || wordsWrong cat behind then .refused tag .syntaxError
      else if sum.any fun v => v != some (checksum body) then .refused tag .check
      else if sum.isNone && required then .refused tag .check
      else judgeFields cat tag (behind.filterMap fieldOf)

/-- A line without its LFs, which are discarded wherever they arrive (R157). -/
def withoutLF (line : Text) : Text := line.filter fun c => c != '\n'

/-! ### A desk request's arguments (R105) -/

/-- The forms of a request's arguments: a number up to a bound, a number from 1 up to a bound, a number, a condition. -/
inductive ArgForm where
  | upTo (hi : Nat)
  | oneTo (hi : Nat)
  | number
  | cond
deriving DecidableEq, Repr

/-- The required arguments of a request by its verb (R106, R108, R109, R111). -/
def requestForms (verb : List String) : List (String × ArgForm) :=
  if verb = ["ISSUE"] then
    [("SER", .upTo maxCount), ("BADGE", .upTo maxCount), ("TAR", .oneTo 8), ("CH", .upTo 31), ("BAT", .number)]
  else if verb = ["LANGUAGE"] then [("SER", .upTo maxCount), ("CH", .upTo 31)]
  else if verb = ["RETURN"] then [("SER", .upTo maxCount), ("COND", .cond), ("BAT", .number)]
  else [("SER", .upTo maxCount)]

/-- A value of the form its argument takes, in or out of range. -/
def ArgForm.malformed : ArgForm → Text → Bool
  | .cond, v => v != ['O', 'K'] && v != ['D', 'A', 'M', 'A', 'G', 'E', 'D']
  | _, v => (natOf v).isNone

/-- A number outside the range of its argument (R105). -/
def ArgForm.outside : ArgForm → Text → Bool
  | .upTo hi, v => (natOf v).any fun n => hi < n
  | .oneTo hi, v => (natOf v).any fun n => n = 0 || hi < n
  | _, _ => false

/-- The value given to an argument of a request. -/
def givenValue (args : List Field) (name : String) : Option Text :=
  (args.find? fun f => f.name == name.toList).bind Field.value

/-- A request that passes R158 but not the forms and ranges of its arguments (R105): a missing or malformed value is
SYNTAX, a number out of its range RANGE (log entry 9). -/
def judgeRequest (verb : List String) (args : List Field) : Option AnswerCode :=
  let forms := requestForms verb
  if forms.any fun f => (givenValue args f.1).all f.2.malformed then some .syntaxError
  else if forms.any fun f => (givenValue args f.1).any f.2.outside then some .range
  else none

/-! ### Refused and discarded lines -/

/-- A line of the control port that a test of R158 refuses is answered and has no other effect. A line that passes every
test is no refused line, and nothing is taken (log entry 9). -/
def refuseLine (line : Text) (s : State) : State :=
  match judge orderCatalogue s.hall.settings.hall.checksum (withoutLF line) with
  | .refused tag c => hostLine tag (refuse c) s
  | _ => s.opened

/-- The same on desk link `d`, the forms and ranges of R105 included. -/
def refuseDeskLine (d : DeskId) (line : Text) (s : State) : State :=
  match judge deskCatalogue s.hall.settings.hall.checksum (withoutLF line) with
  | .refused tag c => deskLine d tag (refuse c) s
  | .passed verb args =>
    match judgeRequest verb args with
    | some c => deskLine d ((withoutLF line).takeWhile fun x => x != ' ') (refuse c) s
    | none => s.opened
  | .ignored => s.opened

/-- A line whose CR arrives while an order is in progress is discarded, and the overrun mark set (R159). -/
def discardLine (s : State) : State :=
  let s := s.opened
  if s.resetn || !s.listening || !s.port.busy then s else { s with port := { s.port with overrun := true } }

/-- The same on desk link `d` (R105). -/
def discardDeskLine (d : DeskId) (s : State) : State :=
  let s := s.opened
  if s.resetn || !s.listening || !s.desks[d].busy then s
  else { s with desks := vmod s.desks d fun p => { p with overrun := true } }

/-! ### The commands -/

/-- LINE_REFUSED (R158). -/
def execLineRefused (line : Text) (s : State) : Host.Outcome State Fault Refusal :=
  .next (refuseLine line s)

/-- LINE_DISCARDED (R159). -/
def execLineDiscarded (s : State) : Host.Outcome State Fault Refusal :=
  .next (discardLine s)

/-- DESK_LINE_REFUSED (R105, R158). -/
def execDeskLineRefused (desk : DeskId) (line : Text) (s : State) : Host.Outcome State Fault Refusal :=
  .next (refuseDeskLine desk line s)

/-- DESK_LINE_DISCARDED (R105). -/
def execDeskLineDiscarded (desk : DeskId) (s : State) : Host.Outcome State Fault Refusal :=
  .next (discardDeskLine desk s)

end Sys2Proof.Machine
end

