-- ==== Sys2Proof/Machine/Render.lean ====
section
/-! DEFINITION. The text of an answer line (R160): the tag, OK with its fields or ER with its code, the clamped arguments,
the overrun mark, N and A, and the checksum. Field names are the rules'; the spelling of a value that no rule spells is
log entry 8's. -/

namespace Sys2Proof.Machine

/-! ### Values -/

/-- A word. -/
abbrev word (s : String) : Text := s.toList

/-- A number in decimal. -/
def num (n : Nat) : Text := Nat.toDigits 10 n

/-- 1 or 0. -/
def bit (b : Bool) : Text := num b.toNat

/-- ON or OFF. -/
def onOff (b : Bool) : Text := word (if b then "ON" else "OFF")

/-- A time in seconds with one decimal place. -/
def tenthsText (n : Nat) : Text := num (n / 10) ++ ['.'] ++ num (n % 10)

/-- A value, or a word where there is none. -/
def orWord {α : Type} (w : String) (f : α → Text) : Option α → Text
  | some x => f x
  | none => word w

/-- Values between separators. -/
def sepBy (sep : Char) : List Text → Text
  | [] => []
  | [x] => x
  | x :: xs => x ++ sep :: sepBy sep xs

/-- A list of values, or NONE. -/
def listText {α : Type} (f : α → Text) (l : List α) : Text :=
  if l.isEmpty then word "NONE" else sepBy ',' (l.map f)

/-- A label, between double quotes. -/
def labelText (t : Text) : Text := '"' :: t ++ ['"']

/-- A field NAME=value. -/
def fld (name : String) (v : Text) : Text := word name ++ '=' :: v

/-- A channel's number. -/
def chText (c : ChannelId) : Text := num c.val

/-- A number of a table numbered from 1. -/
def idText {n : Nat} (i : Fin n) : Text := num (numOf i)

/-- Every entry of a table that is numbered from `first`, as a field. -/
def table {α : Type} {n : Nat} (name : String) (first : Nat) (f : α → Text) (v : Vector α n) : List Text :=
  (ids n).map fun i => word name ++ num (i.val + first) ++ '=' :: f v[i]

/-! ### Enumerated values -/

def AnswerCode.text : AnswerCode → String
  | .syntaxError => "SYNTAX"
  | .check => "CHECK"
  | .unknown => "UNKNOWN"
  | .range => "RANGE"
  | .state => "STATE"
  | .duplicate => "DUPLICATE"
  | .inUse => "IN_USE"
  | .full => "FULL"
  | .frozen => "FROZEN"
  | .loop => "LOOP"
  | .depth => "DEPTH"
  | .openHires => "OPEN_HIRES"
  | .sessionOpen => "SESSION_OPEN"
  | .backward => "BACKWARD"
  | .notFound => "NOT_FOUND"
  | .stillActive => "STILL_ACTIVE"
  | .powerFail => "POWER_FAIL"
  | .dayClosed => "DAY_CLOSED"
  | .foreign => "FOREIGN"
  | .tableFull => "TABLE_FULL"
  | .notStock => "NOT_STOCK"
  | .lowBattery => "LOW_BATTERY"
  | .noTariff => "NO_TARIFF"
  | .noChannel => "NO_CHANNEL"
  | .debt => "DEBT"
  | .limit => "LIMIT"
  | .badgeFull => "BADGE_FULL"
  | .notIssued => "NOT_ISSUED"

def Service.text : Service → String
  | .live => "LIVE"
  | .fill => "FILL"
  | .silent => "SILENT"
  | .off => "OFF"

def ConsoleState.text : ConsoleState → String
  | .absent => "ABSENT"
  | .idle => "IDLE"
  | .requesting => "REQUESTING"
  | .live => "LIVE"
  | .muted => "MUTED"
  | .fault => "FAULT"
  | .quarantined => "QUARANTINED"

def ReceiverState.text : ReceiverState → String
  | .stock => "STOCK"
  | .issued _ => "ISSUED"
  | .overdue _ => "OVERDUE"
  | .faulty => "FAULTY"
  | .lost => "LOST"

def SlotState.text : SlotState → String
  | .ok => "OK"
  | .fault => "FAULT"
  | .absent => "ABSENT"

def Lamp.text : Lamp → String
  | .off => "OFF"
  | .on => "ON"
  | .flashing => "FLASHING"

def NoticeKind.text : NoticeKind → String
  | .consoleFault => "CONSOLE_FAULT"
  | .handoverExpired => "HANDOVER_EXPIRED"
  | .shiftDue => "SHIFT_DUE"
  | .relayFallback => "RELAY_FALLBACK"
  | .relayRestored => "RELAY_RESTORED"
  | .carrierEvict => "CARRIER_EVICT"
  | .carrierWait => "CARRIER_WAIT"
  | .emitterChange => "EMITTER_CHANGE"
  | .stockLow => "STOCK_LOW"
  | .overdue => "OVERDUE"
  | .queueHigh => "QUEUE_HIGH"
  | .meterPreset => "METER_PRESET"
  | .meterFull => "METER_FULL"

def FaultCode.text : FaultCode → String
  | .consoleFault => "CONSOLE_FAULT"
  | .emitterFault => "EMITTER_FAULT"
  | .storeWrite => "STORE_WRITE"
  | .storeBad => "STORE_BAD"

def SettlementKind.text : SettlementKind → String
  | .returned => "RETURN"
  | .lost => "LOST"
  | .found => "FOUND"

def ResumeSource.text : ResumeSource → String
  | .clock => "CLOCK"
  | .stamps => "STAMPS"
  | .zero => "ZERO"

end Sys2Proof.Machine

namespace Sys2Proof

def HandoverMode.text : HandoverMode → String
  | .handover => "HANDOVER"
  | .queue => "QUEUE"
  | .override => "OVERRIDE"

def Output.text : Output → String
  | .a => "A"
  | .b => "B"

def NoticeClass.text : NoticeClass → String
  | .hire => "HIRE"
  | .booth => "BOOTH"
  | .carrier => "CARRIER"
  | .account => "ACCOUNT"
  | .meter => "METER"
  | .fault => "FAULT"

def MeterSource.text : MeterSource → String
  | .issue => "ISSUE"
  | .returned => "RETURN"
  | .language => "LANGUAGE"
  | .overdue => "OVERDUE"
  | .lowBattery => "LOW_BATTERY"
  | .live => "LIVE"
  | .handover => "HANDOVER"
  | .handoverExpired => "HANDOVER_EXPIRED"
  | .relayFallback => "RELAY_FALLBACK"
  | .shiftDue => "SHIFT_DUE"
  | .consoleFault => "CONSOLE_FAULT"
  | .carrierEvict => "CARRIER_EVICT"
  | .carrierWait => "CARRIER_WAIT"
  | .liveConsoles => "LIVE_CONSOLES"
  | .openHires => "OPEN_HIRES"
  | .carriersInUse => "CARRIERS_IN_USE"
  | .unservedChannels => "UNSERVED_CHANNELS"

/-- The pressed keys, or NONE (R43), in the order in which section 2.2 names the keys (log entry 59). -/
def Keys.text (k : Keys) : Text :=
  let names := [(k.talk, "TALK"), (k.mute, "MUTE"), (k.outA, "OUTPUT-A"), (k.outB, "OUTPUT-B"),
    (k.relayNext, "RELAY-NEXT"), (k.handover, "HANDOVER")]
  Machine.listText (fun x => x.2.toList) (names.filter fun x => x.1)

end Sys2Proof

namespace Sys2Proof.Machine

/-! ### The fields of each answer -/

/-- A relay source: a channel, or FLOOR. -/
def sourceText : Option ChannelId → Text := orWord "FLOOR" chText

/-- A carrier's state and channel (R95). -/
def Carrier.text : Carrier → Text
  | .free => word "FREE"
  | .onAir c _ => word "ON_AIR/" ++ chText c
  | .holding c _ _ => word "HOLDING/" ++ chText c

/-- A meter's qualifier (R153). -/
def Qualifier.text : Qualifier → Text
  | .any => word "ANY"
  | .booth b => 'B' :: idText b
  | .desk d => 'D' :: idText d
  | .channel c => 'C' :: chText c
  | .tariff t => 'T' :: idText t

/-- The session state (R168). -/
def Session.text : Session → Text
  | .none => word "NONE"
  | .running n k => word "RUNNING/" ++ num n ++ '/' :: num k.val
  | .suspended n k => word "SUSPENDED/" ++ num n ++ '/' :: num k.val

/-- R121. -/
def Tariff.fields (t : Tariff) : List Text :=
  [fld "DEF" (word (if t.defined then "YES" else "NO")), fld "BASE" (num t.base), fld "LEN" (num t.len),
    fld "RATE" (num t.rate), fld "GRACE" (num t.grace), fld "CAP" (num t.cap), fld "LIMIT" (num t.limit),
    fld "ODFEE" (num t.odfee), fld "DEP" (num t.deposit), fld "CREDIT" (onOff t.credit)]

/-- R118, READ RECEIVER with WIN. -/
def WindowReading.fields (w : WindowReading) : List Text :=
  [fld "EN" (onOff w.settings.enabled), fld "BASE" (num w.settings.base.toNat), fld "MASK" (num w.settings.mask.toNat),
    fld "LABEL" (labelText w.settings.label), fld "FEE" (num w.settings.fee), fld "LOWSTK" (num w.settings.lowStock),
    fld "STOCK" (num w.stock), fld "FLAG" (word (if w.fired then "FIRED" else "ARMED"))]

/-- R161. -/
def HallSettings.fields (h : HallSettings) : List Text :=
  [fld "EMARGIN" (num h.margin), fld "CHOLD" (tenthsText h.hold), fld "BADGELIM" (num h.badgeLimit),
    fld "MINBAT" (num h.minBattery), fld "CHKREQ" (onOff h.checksum),
    fld "MASK" (listText (fun c => word c.text) h.masked)]

/-- R109, R113, with UNIT of R142. -/
def CloseFigures.fields (f : CloseFigures) : List Text :=
  [fld "CHG" (num f.charge), fld "REF" (num f.refund), fld "OWE" (num f.outstanding), fld "SEQ" (num f.seq)]
    ++ if f.unitemised then [fld "UNIT" (num 1)] else []

/-- R19, R64. -/
def ChannelReading.fields (r : ChannelReading) : List Text :=
  let car := r.carrier.map fun x => num x.1.val ++ word (if x.2 then "/HOLDING" else "/ON_AIR")
  [fld "EN" (onOff r.settings.enabled), fld "CODE" r.settings.code, fld "LABEL" (labelText r.settings.label),
    fld "FILL" (onOff r.settings.fill), fld "PIN" (onOff r.settings.pinned), fld "SVC" (word r.service.text),
    fld "FEED" (orWord "0" idText r.feeder), fld "CAR" (car.getD (word "NONE")), fld "SRV" (bit r.served),
    fld "ACR" (bit r.accruing), fld "DEM" (num r.demand), fld "PEAK" (num r.peak), fld "OUT" (num r.outage),
    fld "ONAIR" (num r.onAir), fld "FILLM" (num r.fill),
    fld "WAITL" (listText (fun e => idText e.console ++ '/' :: idText e.booth) r.waitList)]

/-- R42, R64, R77. -/
def BoothReading.fields (r : BoothReading) : List Text :=
  [fld "EN" (onOff r.settings.enabled), fld "OUTA" (orWord "NONE" chText r.settings.outA),
    fld "OUTB" (orWord "NONE" chText r.settings.outB), fld "MODE" (word r.settings.mode.text),
    fld "HTO" (tenthsText r.settings.timeout), fld "SHIFT1" (num r.settings.shift1), fld "SHIFTR" (num r.settings.shiftR),
    fld "RLIST" (listText chText r.settings.relayList), fld "CONS" (listText idText r.consoles),
    fld "OWNER" (orWord "0" idText r.owner), fld "QUEUE" (listText idText r.queue), fld "HOV" (num r.handovers),
    fld "LIVEM" (num r.live), fld "WAIT" (orWord "NONE" (fun x => chText x.1 ++ ':' :: num x.2) r.wait),
    fld "USRC" (sourceText r.unowned), fld "SRC" (sourceText r.source), fld "INP" (sourceText r.input),
    fld "FBK" (orWord "0" chText r.fallback), fld "FBM" (num r.fallMins)]

/-- The lamps with their values (R43), in the order of the lamp set (log entry 59). -/
def LampSet.text (l : LampSet) : Text :=
  sepBy ',' ([("MIC", l.mic), ("ENGAGED", l.engaged), ("HANDOVER-ASKED", l.asked), ("SHIFT", l.shift),
    ("RELAY-LOST", l.relayLost), ("A", l.lampA), ("B", l.lampB)].map fun x => word x.1 ++ ':' :: word x.2.text)

/-- R43, R64. -/
def ConsoleReading.fields (r : ConsoleReading) : List Text :=
  [fld "BOOTH" (orWord "NONE" idText r.booth), fld "ST" (word r.state.text), fld "OUT" (word r.output.text),
    fld "RLY" (sourceText r.relay), fld "KEYS" (orWord "ABSENT" Keys.text r.keys), fld "BAD" (num r.bad),
    fld "ISO" (num r.isolation), fld "GOOD" (orWord "NONE" num r.goodStart), fld "LIVEM" (num r.live),
    fld "CONT" (num r.cont), fld "LAMPS" r.lamps.text, fld "HTR" (orWord "NONE" num r.timer),
    fld "NEXTSH" (orWord "NONE" num r.nextShift)]

/-- R95, the summary. -/
def CarriersReading.fields (r : CarriersReading) : List Text :=
  table "C" 0 Carrier.text r.carriers
    ++ [fld "WAITC" (listText (fun x => chText x.1 ++ '/' :: num x.2) r.waiting), fld "GEN" (num r.generation),
      fld "INUSE" (num r.inUse), fld "PEAKC" (num r.peak), fld "EMARGIN" (num r.margin), fld "CHOLD" (tenthsText r.hold)]

/-- R95, the detail. -/
def CarrierReading.fields (r : CarrierReading) : List Text :=
  let st := match r.carrier with
    | .free => "FREE"
    | .onAir _ _ => "ON_AIR"
    | .holding _ _ _ => "HOLDING"
  let since := match r.carrier with
    | .free => none
    | .onAir _ m => some m
    | .holding _ m _ => some m
  [fld "ST" (word st), fld "CH" (orWord "NONE" chText r.carrier.channel?), fld "CODE" (orWord "NONE" id r.code),
    fld "SINCE" (orWord "NONE" num since), fld "HLD" (orWord "NONE" num r.hold)]

/-- R96. -/
def EmittersReading.fields (r : EmittersReading) : List Text :=
  table "E" 1 (fun s : Slot => word s.state.text ++ '/' :: num s.missed) r.slots
    ++ [fld "DARK" (bit r.dark), fld "GEN" (num r.gen)]

/-- R118, the summary. -/
def FleetReading.fields (r : FleetReading) : List Text :=
  [fld "RCV" (num r.receivers), fld "OPEN" (num r.hires), fld "BADGES" (num r.badges), fld "PEAKH" (num r.peakHires),
    fld "HNC" (num r.counter)]
    ++ table "W" 1 (fun x : Bool × Nat × Bool =>
      onOff x.1 ++ '/' :: num x.2.1 ++ '/' :: word (if x.2.2 then "FIRED" else "ARMED")) r.windows

/-- R111. -/
def HireEstimate.fields (x : HireEstimate) : List Text :=
  [fld "HIRE" (num x.number), fld "BADGE" (num x.badge.toNat), fld "CH" (chText x.preset), fld "EL" (num x.elapsed),
    fld "DUE" (orWord "NONE" num x.due), fld "UNS" (num x.unserved), fld "EST" (num x.charge),
    fld "EREF" (num x.refund), fld "EOWE" (num x.owe)]

/-- R111. -/
def ReceiverReading.fields (r : ReceiverReading) : List Text :=
  [fld "ST" (word r.state.text), fld "WIN" (idText r.window), fld "ISS" (num r.issues),
    fld "BAT" (orWord "NONE" num r.battery)] ++ (r.hire.map HireEstimate.fields).getD []

/-- R118, READ HIRE. -/
def HireReading.fields (r : HireReading) : List Text :=
  let x := r.hire
  [fld "SER" (num x.serial.toNat), fld "BADGE" (num x.badge.toNat), fld "DESK" (idText x.desk),
    fld "TAR" (idText x.tariff), fld "ISS" (num x.issued), fld "DUE" (orWord "NONE" num x.due),
    fld "CH" (chText x.preset), fld "SNAP" (num x.snapshot), fld "UNS" (num r.unserved), fld "DEP" (num x.deposit),
    fld "ST" (word (if x.overdue then "OVERDUE" else "OPEN")), fld "STALE" (bit x.stale)]

/-- R145. -/
def DayReading.fields (r : DayReading) : List Text :=
  [fld "DAY" (num r.day.number), fld "DST" (word (if r.day.isOpen then "OPEN" else "CLOSED")),
    fld "TOTAL" (num r.day.total), fld "UNITC" (num r.day.unitCount), fld "UNITT" (num r.day.unitTotal),
    fld "PEAKH" (num r.peakHires), fld "OPEN" (num r.hires), fld "SESS" (num r.lastSession),
    fld "NLOG" (num r.intervals), fld "PUP" (num r.day.powerUps), fld "QLEN" (num r.queueLen), fld "SEQ" (num r.seq)]

/-- R146, READ SESSIONS without an argument. -/
def SessionsReading.fields (r : SessionsReading) : List Text :=
  let v : String × Nat × Nat := match r.session with
    | .none => ("NONE", 0, 0)
    | .running n k => ("RUNNING", n, k.val)
    | .suspended n k => ("SUSPENDED", n, k.val)
  [fld "ST" (word v.1), fld "SN" (num v.2.1), fld "CTR" (num v.2.2), fld "LAST" (num r.last),
    fld "NLOG" (num r.intervals)]

/-- R146, READ SESSIONS with IDX. -/
def Interval.fields (v : Interval) : List Text :=
  [fld "SN" (num v.session), fld "CTR" (num v.centre.val), fld "START" (num v.start),
    fld "END" (orWord "OPEN" num v.finish)]

/-- R156. -/
def MeterReading.fields (r : MeterReading) : List Text :=
  [fld "EN" (onOff r.settings.enabled), fld "SRC" (word r.settings.source.text), fld "QUAL" r.settings.qualifier.text,
    fld "WIN" (num r.settings.window), fld "THR" (num r.settings.threshold), fld "INV" (onOff r.settings.invert),
    fld "EDGE" (onOff r.settings.edge), fld "PRESET" (num r.settings.preset), fld "DAY" (onOff r.settings.day),
    fld "CNT" (num r.run.count), fld "TALLY" (num r.run.tally), fld "PREV" (bit r.run.prev),
    fld "LATCH" (bit r.run.latch), fld "FULL" (bit r.run.full), fld "NEXT" (orWord "NONE" num r.left)]
    ++ (r.level.map fun n => [fld "LVL" (num n)]).getD []

/-- One raised condition with its state (R168). -/
def conditionText (name : Text) : Raised → List Text
  | .clear => []
  | .active => [name ++ word "/ACTIVE"]
  | .ended => [name ++ word "/ENDED"]

/-- The raised conditions, or NONE (R168), in the order of R165's table with QUARANTINE by ascending address, which R168
leaves open (log entry 59). -/
def Conditions.text (c : Conditions) : Text :=
  listText id
    (conditionText (word "HALL_DARK") c.hallDark
      ++ ((ids 48).flatMap fun a => conditionText (word "QUARANTINE:" ++ idText a) c.quarantine[a])
      ++ conditionText (word "SETTLE_OVERFLOW") c.settleOverflow ++ conditionText (word "STORE_FAULT") c.storeFault
      ++ conditionText (word "CLOCK_STALE") c.clockStale)

/-- R168. -/
def StatusReading.fields (r : StatusReading) : List Text :=
  [fld "DAY" (num r.dayNumber), fld "DST" (word (if r.dayOpen then "OPEN" else "CLOSED")), fld "SST" r.session.text,
    fld "MIN" (num r.minute), fld "STALE" (bit r.stale), fld "PFW" (bit r.powerFail), fld "DARK" (bit r.dark),
    fld "NQ" (num r.notices), fld "MASK" (listText (fun c => word c.text) r.masked), fld "COND" r.conds.text,
    fld "FLOG" (num r.faults), fld "CHKREQ" (onOff r.checksum)]

/-- R177. -/
def StartReading.fields (r : StartReading) : List Text :=
  let res (good : Bool) : Text := word (if good then "GOOD" else "DEFAULT")
  let x := r.report
  [fld "AS" (res x.good.settings), fld "AF" (res x.good.fleet), fld "AA" (res x.good.account),
    fld "AC" (res x.good.clock), fld "PUP" (num r.powerUps), fld "RESUME" (num x.resume),
    fld "RSRC" (word x.source.text), fld "DAY0" (bit x.dayZero), fld "MOVED" (num x.moved),
    fld "BLRAISE" (num x.limitRaise), fld "STALE" (bit r.stale)]

/-- One returned notice (R164). -/
def Notice.text (n : Notice) : Text :=
  sepBy '/' ([word n.cls.text, word n.kind.text, num n.subject, num n.minute, num n.value]
    ++ if n.several then [['S']] else [])

/-- One fault log entry (R167). -/
def FaultEntry.text (e : FaultEntry) : Text := sepBy '/' [num e.minute, word e.code.text, num e.subject]

/-- One settlement record, every field of R141 in its order (R143). -/
def Settlement.text (r : Settlement) : Text :=
  sepBy '/' [num r.seq, word r.kind.text, num r.day, num r.serial.toNat, num r.badge.toNat, num r.hire, num r.desk,
    num r.tariff, num r.issued, num r.closed, num r.elapsed, num r.unserved, num r.billable, num r.intervals,
    num r.gross, num r.charge, bit r.overdue, bit r.stale, num r.deposit, num r.refund, num r.outstanding,
    listText (fun x => num x.1.val ++ ':' :: num x.2) r.shares]

/-- The fields of an OK answer. -/
def Reply.fields : Reply → List Text
  | .plain => []
  | .moved n => [fld "MOVED" (num n)]
  | .tariff t => t.fields
  | .window w => w.fields
  | .hall h => h.fields
  | .clock m => [fld "MIN" (num m)]
  | .session n => [fld "SESS" (num n)]
  | .lost f => f.fields
  | .was n => [fld "WAS" (num n)]
  | .released v l => [fld "WAS" (word v.text), fld "GRANT" (listText idText l)]
  | .channel r => r.fields
  | .booth r => r.fields
  | .console r => r.fields
  | .carriers r => r.fields
  | .carrier r => r.fields
  | .emitters r => r.fields
  | .fleet r => r.fields
  | .receiver r => r.fields
  | .hire r => r.fields
  | .badge l d => [fld "LIST" (listText num l), fld "DEBT" (num d)]
  | .centres l b t =>
    ((ids 16).map fun k => word "C" ++ num k.val ++ '=' :: labelText l[k] ++ '/' :: num b[k]) ++ [fld "TOTAL" (num t)]
  | .day r => r.fields
  | .dayChannel l c o a f =>
    [fld "OUT" (num o), fld "ONAIR" (num a), fld "FILLM" (num f), fld "LABEL" (labelText l), fld "CODE" c]
  | .dayBooth l h f => [fld "LIVEM" (num l), fld "HOV" (num h), fld "FBM" (num f)]
  | .dayConsole b l => [fld "BOOTH" (orWord "NONE" idText b), fld "LIVEM" (num l)]
  | .sessions r => r.fields
  | .interval v => v.fields
  | .meter r => r.fields
  | .status r => r.fields
  | .faults l => fld "CNT" (num l.length) :: l.map FaultEntry.text
  | .start r => r.fields
  | .notices l => fld "CNT" (num l.length) :: l.map Notice.text
  | .settlements l => fld "CNT" (num l.length) :: l.map Settlement.text
  | .releasedNone => [fld "COUNT" (num 0)]
  | .releasedRecords n k => [fld "COUNT" (num n), fld "LEFT" (num k)]
  | .issued n p d => [fld "HIRE" (num n), fld "DEP" (num p), fld "DUE" (orWord "NONE" num d)]
  | .language c => [fld "CH" (chText c)]
  | .returned f => fld "KIND" (word "RETURN") :: f.fields
  | .found n u => [fld "KIND" (word "FOUND"), fld "SEQ" (num n)] ++ if u then [fld "UNIT" (num 1)] else []

/-- A clamped argument with the value taken (R160). -/
def Clamp.text : Clamp → Text
  | .units name v => fld name (num v)
  | .tenths name v => fld name (tenthsText v)

/-- Items 2 and 3 of R160. -/
def Result.words : Result → List Text
  | .ok r clamped => word "OK" :: r.fields ++ if clamped.isEmpty then [] else word "CLAMPED" :: clamped.map Clamp.text
  | .er c => [word "ER", word c.text]

/-- Items 5 and 6 of R160, which a desk's answer does not carry. -/
def Addressee.words : Addressee → List Text
  | .host n a => [fld "N" (num n), fld "A" (bit a)]
  | .desk _ => []

/-- A hexadecimal digit in capitals. -/
def hexDigit (n : Nat) : Char := Char.ofNat (if n < 10 then 48 + n else 55 + n)

/-- Items 1 to 6 of R160, separated by single spaces, with one more behind the last, so that a space stands before the "*"
and enters the checksum: R160 states no separator, and log entry 8 marks the choice. -/
def Answer.body (a : Answer) : Text :=
  sepBy ' ' (a.tag :: a.result.words ++ (if a.overrun then [fld "O" (num 1)] else []) ++ a.addressee.words) ++ [' ']

/-- An answer's line without its CR (R160): the body, then "*" and its checksum. -/
def Answer.line (a : Answer) : Text :=
  let sum := checksum a.body
  a.body ++ ['*', hexDigit (sum / 16), hexDigit (sum % 16)]

end Sys2Proof.Machine
end

