-- ==== Sys2Proof/Machine/Clock.lean ====
section
/-! DEFINITION. The hall clock: bringing spells up, SET CLOCK, the minute's rise, and the expiries that stand due (R17,
R39, R75, R171 to R173, R176). -/

namespace Sys2Proof.Machine

/-! ### Bringing open spells up to now -/

/-- The ACCOUNT write is asked for where the area has changed since `before` (R1, R20, R65). -/
def askChanged (before h : Hall) : Hall := if h.account = before.account then h else h.ask onlyAccount

/-- A console's open live spell brought up to now, staying open from now (R39). -/
def bringUpLive (h : Hall) (a : ConsoleId) : Hall :=
  match h.consoles[a].liveSince with
  | none => h
  | some m =>
    let h1 := (h.modConsole a fun r => { r with liveSince := some h.now }).addConsoleLive a (h.now - m)
    let h2 :=
      match h.boothOf a with
      | some b => h1.modBoothDay b fun d => { d with live := satCount (d.live + (h.now - m)) }
      | none => h1
    askChanged h h2

/-- A booth's open fallback spell brought up to now, staying open from now (R75). -/
def bringUpFallback (h : Hall) (b : BoothId) : Hall :=
  match h.booths[b].fallbackSince with
  | none => h
  | some m =>
    askChanged h ((h.modBooth b fun r => { r with fallbackSince := some h.now }).modBoothDay b fun d =>
      { d with fallback := satCount (d.fallback + (h.now - m)) })

/-- Every open spell brought up to now (R17, R39, R75). -/
def bringUpSpells (h : Hall) : Hall :=
  (ids 16).foldl bringUpFallback ((ids 48).foldl bringUpLive h.bringUpChannels)

/-! ### SET CLOCK (R173) -/

/-- A channel's stamps set to the new minute (R17). -/
def ChannelRun.restamp (new : Nat) (r : ChannelRun) : ChannelRun :=
  { r with
    outageSince := r.outageSince.map fun _ => new
    servedSince := r.servedSince.map fun _ => new
    fillSince := r.fillSince.map fun _ => new }

/-- A console's stamps moved with the clock (R36, R39). A minute moved past 4,294,967,295 stands there (log entry 50). -/
def ConsoleRun.restamp (old new : Nat) (r : ConsoleRun) : ConsoleRun :=
  { r with
    liveSince := r.liveSince.map fun _ => new
    contStart := r.contStart.map (moveStamp old new)
    nextShift := r.nextShift.map (moveStamp old new)
    goodStart := r.goodStart.map (moveStamp old new)
    goodExpiry := r.goodExpiry.map (moveStamp old new) }

/-- The minute moves, and every block's stamps with it (R173, steps 2 and 3), a meter's next close also past 4,294,967,295
(log entry 50). -/
def moveMinute (new : Nat) (h : Hall) : Hall :=
  let old := h.now
  { h with
    clock := { h.clock with minute := new }
    channels := vtab fun c => h.channels[c].restamp new
    consoles := vtab fun a => h.consoles[a].restamp old new
    booths := vtab fun b => { h.booths[b] with fallbackSince := h.booths[b].fallbackSince.map fun _ => new }
    meters := vtab fun m => { h.meters[m] with next := h.meters[m].next.map (moveStamp old new) } }

/-- An accepted SET CLOCK (R173): a MIN equal to the present minute moves nothing. -/
def takeSetClock (new : Nat) (h : Hall) : Hall :=
  let h1 := if new = h.now then h else moveMinute new (bringUpSpells h)
  let h2 := { h1 with clock := { h1.clock with stale := false, minuteStart := h1.clock.ticks } }
  if h.now < new then takeAllDue h2 else h2

/-- SET CLOCK (R173). -/
def setClock (min : Arg Nat) (s : State) : Verdict :=
  match min with
  | .absent | .bad => refuse .syntaxError s
  | .val m =>
    let h := s.hall
    tested
      [ (maxCount < m, .syntaxError), (s.pfw, .powerFail),
        (m < h.now && (h.fleet.hires != [] || h.account.log != []), .backward) ] s
      (.wait onlyClock (.ok (.clock m) []) { s with hall := takeSetClock m h })

/-! ### The minute's rise (R172) -/

/-- The timebase completes the 600 tenths of the minute (R172): at 4,294,967,295 the minute stays. -/
def riseMinute (h : Hall) : Hall :=
  let start := h.clock.minuteStart + 1200
  let h1 := { h with clock := { h.clock with ticks := max h.clock.ticks start, minuteStart := start } }
  if h.clock.minute < maxCount then
    Hall.ask onlyClock { h1 with clock := { h1.clock with minute := h1.clock.minute + 1 } }
  else h1

/-! ### Expiries that stand due -/

/-- An expiry that a rule defers to the completion of a RESTART (R176, step 4). -/
inductive Expiry where
  | handover (a : ConsoleId)
  | hold (k : CarrierId)
  | shift (a : ConsoleId)
  | goodRun (a : ConsoleId)
  | probe (a : ConsoleId)
  | flash (a : ConsoleId)
  | due (hire : Nat)
  | window (m : MeterId)
deriving DecidableEq, Repr

/-- The tick at which minute `m`, present or past, began. -/
def Hall.tickOf (h : Hall) (m : Nat) : Nat := h.clock.minuteStart - 1200 * (h.now - m)

/-- A tenth-second timer that stands due, with the tick at which it fell due. -/
def Hall.dueTenth (h : Hall) (e : Expiry) (t : Option Nat) : List (Nat × Expiry) :=
  if h.timerDue t then [(2 * t.getD 0, e)] else []

/-- A minute-boundary expiry that stands due, with the tick at which it fell due. -/
def Hall.dueMinute (h : Hall) (e : Expiry) (m : Option Nat) : List (Nat × Expiry) :=
  match m with
  | some m => if m ≤ h.now then [(h.tickOf m, e)] else []
  | none => []

/-- A console's expiries that stand due, those of equal time in the order given here (log entries 5 and 57). -/
def Hall.consoleExpiries (h : Hall) (a : ConsoleId) : List (Nat × Expiry) :=
  let r := h.consoles[a]
  h.dueTenth (.handover a) r.handoverExpiry ++ h.dueTenth (.probe a) r.probeTimer
    ++ h.dueTenth (.flash a) r.engagedFlash
    ++ (if r.state.onChannel then h.dueMinute (.shift a) r.nextShift else [])
    ++ (if r.state = .fault ∨ r.state = .quarantined then [] else h.dueMinute (.goodRun a) r.goodExpiry)

/-- Every expiry that stands due, in the order of their times (R176, step 4): of equal times the consoles' first, then the
carriers', the hires' and the meters', each in ascending order of number, which the rules leave open (log entries 5 and
57). -/
def Hall.dueExpiries (h : Hall) : List (Nat × Expiry) :=
  sortBy (fun x y => x.1 < y.1)
    ((ids 48).flatMap h.consoleExpiries
      ++ ((ids 16).flatMap fun k => h.dueTenth (.hold k) h.air.carriers[k].expiry?)
      ++ (h.dueHires.flatMap fun x => h.dueMinute (.due x.number) x.due)
      ++ ((ids 8).flatMap fun m => h.dueMinute (.window m) h.meters[m].next))

/-- One expiry taken by its owner. -/
def takeExpiry (h : Hall) (e : Nat × Expiry) : Hall :=
  match e.2 with
  | .handover a => expireHandover a h
  | .hold k => expireHold k h
  | .shift a => takeShiftReminder a h
  | .goodRun a => takeGoodRun a h
  | .probe a => expireProbe a h
  | .flash a => endFlash a h
  | .due n => takeDue n h
  | .window m => takeWindowClose m h

/-- Every expiry that stands due is taken, in the order of their times (R176, step 4). -/
def takeDueExpiries (h : Hall) : Hall := h.dueExpiries.foldl takeExpiry h

/-! ### The commands -/

/-- SET_CLOCK (R173). -/
def execSetClock (tag : Tag) (min : Arg Nat) (s : State) : Host.Outcome State Fault Refusal :=
  .next (hostLine tag (setClock min) s)

/-- HALL_MINUTE_RISE (R172). -/
def execHallMinuteRise (s : State) : Host.Outcome State Fault Refusal :=
  .next (event riseMinute s)

end Sys2Proof.Machine
end

