-- ==== Sys2Proof/Machine/StartUp.lean ====
section
/-! DEFINITION. Start-up: the area check, the day-0 opening, the clock's resume and the rebuild of every block (R174,
R175, with R18, R40, R63, R76, R94, R117, R147, R155, R169). -/

namespace Sys2Proof.Machine

/-! ### What the areas hold (R174 steps 1 to 4, R175) -/

/-- The areas found bad: those without content and those the check finds damaged (R174, step 1). -/
def badAreas (held : Content) (damaged : AreaSet) : AreaSet :=
  AreaSet.union damaged ⟨held.settings.isNone, held.fleet.isNone, held.account.isNone, held.clock.isNone⟩

/-- The day-0 opening applies: ACCOUNT is bad, and a good FLEET area holds an open hire (R175). -/
def dayZero (bad : AreaSet) (fleet : Fleet) : Bool := bad.account && !bad.fleet && fleet.hires != []

/-- The day record after the day-0 decision and the power-up count's rise (R174 steps 2 and 3, R175). -/
def Account.poweredUp (a : Account) (zero : Bool) : Account :=
  { a with day := { a.day with isOpen := a.day.isOpen || zero, powerUps := satCount (a.day.powerUps + 1) } }

/-- The stamps that bound the resume minute: open hires' issue minutes, and the log's starts and ends (R174 step 4). -/
def resumeStamps (fleet : Fleet) (log : List Interval) : List Nat :=
  fleet.hires.map Hire.issued ++ log.map Interval.start ++ log.filterMap Interval.finish

/-- The resume minute (R174, step 4). -/
def resumeMinute (clock : Option Nat) (stamps : List Nat) : Nat := stamps.foldl max (clock.getD 0)

/-- Where the resume minute came from (R177). -/
def resumeSource (clock : Option Nat) (stamps : List Nat) : ResumeSource :=
  match clock, stamps with
  | none, [] => .zero
  | none, _ => .stamps
  | some m, l => if l.foldl max m = m then .clock else .stamps

/-! ### The rebuild (R174, step 5) -/

/-- A channel before anything has been reported on it: no feeder, no spell (R18, R63). -/
def ChannelRun.blank : ChannelRun := ⟨.off, none, 0, 0, none, none, none⟩

/-- A console as start-up sets it up: IDLE where it has a booth, ABSENT where it has none (R40). -/
def ConsoleRun.started (booth : Option BoothId) : ConsoleRun :=
  { ConsoleRun.blank with state := if booth.isSome then .idle else .absent }

/-- The blocks with their retained fields loaded and nothing else, at minute `m`, the clock stale. No address has been
polled, so that the rotation begins at the lowest polled one (log entry 41). -/
def loaded (settings : Settings) (fleet : Fleet) (account : Account) (m free : Nat) : Hall where
  settings  := settings
  fleet     := fleet
  account   := account
  clock     := ⟨m, true, 0, 0⟩
  channels  := Vector.replicate 32 ChannelRun.blank
  waitLists := Vector.replicate 32 []
  booths    := Vector.replicate 16 BoothRun.blank
  consoles  := vtab fun a => ConsoleRun.started settings.consoleBooth[a]
  bus       := ⟨none, none⟩
  air       := ⟨Vector.replicate 16 .free, [], 0⟩
  link      := ⟨Vector.replicate 8 ⟨.absent, 0, false⟩, 0, [], 0, [], 0, 5⟩
  lowFired  := Vector.replicate 8 false
  meters    := Vector.replicate 8 ⟨0, 0, false, false, false, none⟩
  levels    := ⟨0, 0, 0, 0⟩
  free      := free
  work      := EventWork.empty

/-- The open hires preset to a DISABLED channel, moved to channel 0 at a start-up with default settings (R18 step 2). -/
def Hall.strayHires (h : Hall) : List Hire := h.fleet.hires.filter fun x => !h.settings.channels[x.preset].enabled

/-- A stray hire's record moved to channel 0 (R18 step 2, R6); demand is recounted from the records afterwards. Where
ACCOUNT too was loaded with defaults, the outage stands at 0 below the old snapshot, which counts as no minutes (log
entry 45). -/
def moveStray (h : Hall) (x : Hire) : Hall := h.putHire (h.moved x 0)

/-- Every open hire's snapshot set to 0 (R18 step 3). -/
def zeroSnapshots (h : Hall) : Hall :=
  { h with fleet := { h.fleet with hires := h.fleet.hires.map fun x => { x with snapshot := 0 } } }

/-- Demand counted from the open hires, and peak demand with it (R18 steps 1 and 4). -/
def recountDemand (h : Hall) : Hall :=
  { h with
    channels := vtab fun c =>
      let n := (h.fleet.hires.filter fun x => x.preset == c).length
      { h.channels[c] with demand := n, peak := n } }

/-- Every channel's service state derived anew, without a report (R18 step 5). -/
def deriveServices (h : Hall) : Hall :=
  { h with channels := vtab fun c => { h.channels[c] with service := h.serviceOf c } }

/-- The longest hire list of the badge table (R117). -/
def Fleet.longestList (f : Fleet) : Nat := f.badges.foldl (fun n b => max n b.hires.length) 0

/-- The badge limit raised to the longest list (R117, step 3). -/
def raiseLimit (h : Hall) : Hall :=
  let set := h.settings
  { h with settings := { set with hall := { set.hall with badgeLimit := max set.hall.badgeLimit h.fleet.longestList } } }

/-- The low-stock flags set without notices (R99, R117 step 1). -/
def setLowFlags (h : Hall) : Hall := { h with lowFired := vtab fun w => h.lowFlag w }

/-- The peak open hires of an ACCOUNT area loaded with defaults is the number of open hires (R117). -/
def defaultPeak (h : Hall) : Hall := { h with account := { h.account with peakHires := h.openHires } }

/-- The levels as they stand, and every meter cleared (R155). -/
def setLevels (h : Hall) : Hall :=
  clearAllRunning { h with levels := ⟨h.liveCount, h.openHires, h.inUse, h.unservedCount⟩ }

/-- The rebuild of every block (R174, step 5), the areas `bad` having been loaded with defaults. -/
def rebuild (bad : AreaSet) (h : Hall) : Hall :=
  let h1 := if bad.settings then h.strayHires.foldl moveStray h else h
  let h2 := if bad.account then defaultPeak (zeroSnapshots h1) else h1
  let h3 := allocEvent buildCarriers (deriveServices (recountDemand h2))
  let h4 := { h3 with link := { h3.link with sentGen := h3.link.generation, sent := h3.directory } }
  let h5 := setLowFlags (raiseLimit h4)
  takeAllDue (setLevels h5.spellsAll)

/-- The areas the rebuild changed: SETTINGS by a raise of the badge limit, FLEET by a hire moved or a snapshot set to 0,
ACCOUNT by the power-up count (R174, step 6). An OVERDUE made at once asks for its own write (R112). -/
def changedAreas (bad : AreaSet) (before after : Hall) : AreaSet where
  settings := after.settings != before.settings
  fleet    := (bad.settings && before.strayHires != []) || (bad.account && before.fleet.hires.any fun x => x.snapshot != 0)
  account  := true
  clock    := false

/-- The results READ START reports (R177). -/
def startReport (bad : AreaSet) (clock : Option Nat) (stamps : List Nat) (before after : Hall) : StartReport where
  good       := AreaSet.all.diff bad
  resume     := resumeMinute clock stamps
  source     := resumeSource clock stamps
  dayZero    := dayZero bad before.fleet
  moved      := if bad.settings then before.strayHires.length else 0
  limitRaise := if after.settings.hall.badgeLimit = before.settings.hall.badgeLimit then 0
    else after.settings.hall.badgeLimit

/-- Start-up with the areas `bad` found bad (R174). Their STORE_BAD entries carry the resume minute (log entry 53). RESETn
stands released behind it, and PFWn's level stands as it was (log entry 56). -/
def startWith (bad : AreaSet) (s : State) : State :=
  let held := s.store.held.spoil bad
  let fleet := held.fleet.getD Fleet.default
  let account := (held.account.getD Account.default).poweredUp (dayZero bad fleet)
  let stamps := resumeStamps fleet account.log
  let before := loaded (held.settings.getD Settings.default) fleet account (resumeMinute held.clock stamps) s.hall.free
  let checked := allAreas.foldl (fun h a => if bad.has a then h.logFault .storeBad a.number else h) before
  let after := rebuild bad checked
  finish (some (bad.union (changedAreas bad before after), .startUp))
    { s with
      hall := after
      notice := ⟨[], Conditions.none, [], false⟩
      store := ⟨held, none, [], bad, ⟨none, none, none, none⟩⟩
      port := LinePort.idle
      desks := Vector.replicate 4 LinePort.idle
      listening := false
      resetn := false
      start := startReport bad held.clock stamps before after }

/-- The areas whose checksums fail because power was lost while they were being written; a release of RESETn has let the
write complete (R171, R174, log entry 32). -/
def cutShort (cause : StartCause) (st : Store) : AreaSet :=
  match cause, st.current with
  | .powerUp, some w => w.areas
  | _, _ => AreaSet.none

/-- START_UP (R174): at power-up, or at the release of RESETn, which is not one while RESETn is not asserted. -/
def execStartUp (cause : StartCause) (damaged : AreaSet) (s : State) : Host.Outcome State Fault Refusal :=
  if cause = .resetnRelease ∧ s.resetn = false then .next s.opened
  else .next (startWith (badAreas s.store.held (damaged.union (cutShort cause s.store))) s.opened)

end Sys2Proof.Machine
end

