-- ==== Sys2Proof/Machine/Restart.lean ====
section
/-! DEFINITION. RESTART, without and with HOLD (R176, with R18, R41, R63, R76, R94, R155, R169). -/

namespace Sys2Proof.Machine

/-! ### The takedown and rebuild without HOLD -/

/-- A console after the takedown (R41, R76): the values of R40, but QUARANTINED and ABSENT stay. -/
def ConsoleRun.restarted (r : ConsoleRun) : ConsoleRun :=
  match r.state with
  | .absent | .quarantined => r
  | _ => { ConsoleRun.blank with state := .idle }

/-- Every console takes its values after the takedown, and every unowned source FLOOR (R41, R76). -/
def restartConsoles (h : Hall) : Hall :=
  { h with
    consoles := vtab fun a => h.consoles[a].restarted
    booths := vtab fun b => { h.booths[b] with unowned := none } }

/-- The takedown and rebuild of a RESTART without HOLD (R176, step 2): spells are brought up to the restart minute, the
interlock is taken down, the carriers built from empty as one event, the relay and the consoles take their start values,
and the meters are cleared. -/
def takeDown (h : Hall) : Hall :=
  let h1 := takeDownInterlock (bringUpSpells h)
  let h2 := (allocEvent buildCarriers (deriveServices h1)).spellsAll
  let h3 := resolveAll (restartConsoles h2)
  clearAllRunning (meterLevelChange .liveConsoles h3.liveCount h3)

/-! ### The event -/

/-- The overrun mark and the line buffer of a port cleared (R169). -/
def LinePort.cleared (p : LinePort) : LinePort := { p with overrun := false, buffer := [] }

/-- Steps 1 and 3 to 5 of R176 around the blocks as step 2 leaves them: the ports cleared, the notice queue and what
step 2 posted emptied, the expiries that stand due taken, the condition set re-evaluated. -/
def restarted (h : Hall) (s : State) : State :=
  let h1 := takeDueExpiries { h with work := { h.work with posts := [] } }
  { s with
    hall := h1
    port := s.port.cleared
    desks := vtab fun d => s.desks[d].cleared
    notice :=
      { s.notice with
        queue := []
        conds := dropEndedConditions (syncConditions h1 s.store.failed s.notice.conds) } }

/-- RESTART without HOLD (R176): the answer waits on the ACCOUNT write of step 2, where one was asked for. -/
def restart (s : State) : Verdict :=
  if s.pfw then refuse .powerFail s
  else
    let h := takeDown s.hall
    let s1 := restarted h s
    if h.work.asks = [] then .now (.ok .plain []) s1 else .wait onlyAccount (.ok .plain []) s1

/-- RESTART with HOLD (R176); HOLD given a value is malformed. -/
def restartHold (valued : Bool) (s : State) : Verdict :=
  tested [ (valued, .syntaxError), (s.pfw, .powerFail) ] s (.now (.ok .plain []) (restarted s.hall s))

/-! ### The commands -/

/-- RESTART (R176). -/
def execRestart (tag : Tag) (s : State) : Host.Outcome State Fault Refusal :=
  .next (hostLine tag restart s)

/-- RESTART_HOLD (R176). -/
def execRestartHold (tag : Tag) (valued : Bool) (s : State) : Host.Outcome State Fault Refusal :=
  .next (hostLine tag (restartHold valued) s)

end Sys2Proof.Machine
end

