-- ==== Sys2Proof/Machine/StoreEvents.lean ====
section
/-! DEFINITION. The store port's completion and rewrites, and the inputs PFWn and RESETn (R170, R171, R174). -/

namespace Sys2Proof.Machine

/-- The STORE_WRITE entries of the areas not taken (R170), in ascending order of area (log entry 53). -/
def logNotTaken (code : FaultCode) (bad : AreaSet) (h : Hall) : Hall :=
  allAreas.foldl (fun h a => if bad.has a then h.logFault code a.number else h) h

/-- The write in progress completes (R170): what waited on it is served, then its content is taken or has failed, each
area not taken is logged, and the next write begins. -/
def completion (notTaken : AreaSet) (s : State) : State :=
  match s.store.current with
  | none => s
  | some w =>
    let h := logNotTaken .storeWrite (w.areas.inter notTaken) s.hall
    let st := completeWrite w notTaken s.hall.tenths s.store
    finish none { w.waiters.foldl serveWaiter s with hall := h, store := st }

/-- A failed area is written again, at the tail of the list (R170). It is not taken where no rewrite stands due. -/
def rewriteArea (a : Area) (s : State) : State :=
  if s.hall.timerDue (s.store.rewrite.get a) then
    let st := s.store
    finish none
      { s with store := { st with rewrite := st.rewrite.set a none, writes := st.writes ++ [⟨AreaSet.single a, []⟩] } }
  else s

/-- PFWn asserted (R171): open spells are brought up to now and one ACCOUNT write asked for. While RESETn is asserted
only the level is followed. -/
def assertPfw (s : State) : State :=
  if s.pfw then s
  else if s.resetn then { s with pfw := true }
  else finish none { s with pfw := true, hall := (bringUpSpells s.hall).ask onlyAccount }

/-- RESETn asserted (R174): the write in progress completes, the writes behind it are dropped with what waits on them. -/
def assertReset (s : State) : State :=
  if s.resetn then s
  else
    let s1 := { s with resetn := true, store := { s.store with writes := [] } }
    match s1.store.current with
    | none => s1
    | some w =>
      let st := completeWrite w AreaSet.none s.hall.tenths s1.store
      { w.waiters.foldl serveWaiter s1 with store := st, notice := noticeEnd s.hall st.failed s.notice }

/-! ### The commands -/

/-- WRITE_COMPLETION (R170). -/
def execWriteCompletion (notTaken : AreaSet) (s : State) : Host.Outcome State Fault Refusal :=
  .next (if s.resetn then s.opened else completion notTaken s.opened)

/-- AREA_REWRITE (R170). -/
def execAreaRewrite (area : Area) (s : State) : Host.Outcome State Fault Refusal :=
  .next (if s.resetn then s.opened else rewriteArea area s.opened)

/-- PFWN_ASSERTION (R171). -/
def execPfwnAssertion (s : State) : Host.Outcome State Fault Refusal :=
  .next (assertPfw s.opened)

/-- PFWN_RELEASE (R171). -/
def execPfwnRelease (s : State) : Host.Outcome State Fault Refusal :=
  .next { s.opened with pfw := false }

/-- RESETN_ASSERTION (R174). -/
def execResetnAssertion (s : State) : Host.Outcome State Fault Refusal :=
  .next (assertReset s.opened)

end Sys2Proof.Machine
end

