-- ==== Sys2Proof/Machine/Timers.lean ====
section
/-! DEFINITION. The commands of the console bus, the emitter link and the expiries: one event each of the block that
owns it. -/

namespace Sys2Proof.Machine

/-- POLL_ANSWER (R28 to R32). -/
def execPollAnswer (addr : Nat) (check : Bool) (keys : Keys) (s : State) : Host.Outcome State Fault Refusal :=
  .next (event (takePollAnswer addr check keys) s)

/-- ANSWER_WINDOW_CLOSE (R28, R32, R34). -/
def execAnswerWindowClose (s : State) : Host.Outcome State Fault Refusal :=
  .next (event takeWindowEnd s)

/-- PROBE_ANSWER (R28, R34, R35). -/
def execProbeAnswer (addr : Nat) (check : Bool) (keys : Keys) (s : State) : Host.Outcome State Fault Refusal :=
  .next (event (takeProbeAnswer addr check keys) s)

/-- PROBE_TIMER_EXPIRY (R34). -/
def execProbeTimerExpiry (con : ConsoleId) (s : State) : Host.Outcome State Fault Refusal :=
  .next (event (expireProbe con) s)

/-- GOOD_RUN_EXPIRY (R36). -/
def execGoodRunExpiry (con : ConsoleId) (s : State) : Host.Outcome State Fault Refusal :=
  .next (event (takeGoodRun con) s)

/-- ENGAGED_FLASH_EXPIRY (R29). -/
def execEngagedFlashExpiry (con : ConsoleId) (s : State) : Host.Outcome State Fault Refusal :=
  .next (event (endFlash con) s)

/-- HANDOVER_TIMER_EXPIRY (R56). -/
def execHandoverTimerExpiry (con : ConsoleId) (s : State) : Host.Outcome State Fault Refusal :=
  .next (event (expireHandover con) s)

/-- SHIFT_REMINDER (R60). -/
def execShiftReminder (con : ConsoleId) (s : State) : Host.Outcome State Fault Refusal :=
  .next (event (takeShiftReminder con) s)

/-- HOLD_EXPIRY (R87). -/
def execHoldExpiry (car : CarrierId) (s : State) : Host.Outcome State Fault Refusal :=
  .next (event (expireHold car) s)

/-- DIRECTORY_SEND (R90, R91). -/
def execDirectorySend (s : State) : Host.Outcome State Fault Refusal :=
  .next (event takeDirectorySend s)

/-- EMITTER_ANSWER (R91, R92). -/
def execEmitterAnswer (slot : Nat) (report : EmitterReport) (s : State) : Host.Outcome State Fault Refusal :=
  .next (event (takeEmitterAnswer slot report) s)

/-- DUE_MINUTE_EXPIRY (R112). -/
def execDueMinuteExpiry (hire : Nat) (s : State) : Host.Outcome State Fault Refusal :=
  .next (event (takeDue hire) s)

/-- WINDOW_CLOSE (R151). -/
def execWindowClose (met : MeterId) (s : State) : Host.Outcome State Fault Refusal :=
  .next (event (takeWindowClose met) s)

end Sys2Proof.Machine
end

