-- ==== Sys2Proof/Machine/Dispatch.lean ====
section
/-! DEFINITION. One arm for each command of spec/opcode_table.json, each a direct call of its meaning. -/

namespace Sys2Proof.Machine

/-- The effect of a command on everything but the queue. -/
def exec (i : Instr) (s : State) : Host.Outcome State Fault Refusal :=
  match i with
  | .setChannel tag a => Sys2Proof.Machine.execSetChannel tag a s
  | .setBooth tag a => Sys2Proof.Machine.execSetBooth tag a s
  | .setConsole tag addr booth => Sys2Proof.Machine.execSetConsole tag addr booth s
  | .setRelayList tag booth list => Sys2Proof.Machine.execSetRelayList tag booth list s
  | .setTariff tag a => Sys2Proof.Machine.execSetTariff tag a s
  | .setTariffReading tag tar => Sys2Proof.Machine.execSetTariffReading tag tar s
  | .setFleet tag a => Sys2Proof.Machine.execSetFleet tag a s
  | .setCentre tag centre label => Sys2Proof.Machine.execSetCentre tag centre label s
  | .setHall tag a => Sys2Proof.Machine.execSetHall tag a s
  | .setMeter tag a => Sys2Proof.Machine.execSetMeter tag a s
  | .setClock tag min => Sys2Proof.Machine.execSetClock tag min s
  | .openDay tag day => Sys2Proof.Machine.execOpenDay tag day s
  | .closeDay tag => Sys2Proof.Machine.execCloseDay tag s
  | .openSession tag centre => Sys2Proof.Machine.execOpenSession tag centre s
  | .suspendSession tag => Sys2Proof.Machine.execSuspendSession tag s
  | .resumeSession tag => Sys2Proof.Machine.execResumeSession tag s
  | .endSession tag => Sys2Proof.Machine.execEndSession tag s
  | .declareLost tag ser => Sys2Proof.Machine.execDeclareLost tag ser s
  | .markFaulty tag ser => Sys2Proof.Machine.execMarkFaulty tag ser s
  | .markRepaired tag ser => Sys2Proof.Machine.execMarkRepaired tag ser s
  | .removeReceiver tag ser => Sys2Proof.Machine.execRemoveReceiver tag ser s
  | .clearDebt tag badge => Sys2Proof.Machine.execClearDebt tag badge s
  | .readmitConsole tag addr => Sys2Proof.Machine.execReadmitConsole tag addr s
  | .forceRelease tag addr => Sys2Proof.Machine.execForceRelease tag addr s
  | .restart tag => Sys2Proof.Machine.execRestart tag s
  | .restartHold tag valued => Sys2Proof.Machine.execRestartHold tag valued s
  | .readChannel tag ch => Sys2Proof.Machine.execReadChannel tag ch s
  | .readBooth tag booth => Sys2Proof.Machine.execReadBooth tag booth s
  | .readConsole tag addr => Sys2Proof.Machine.execReadConsole tag addr s
  | .readCarriers tag car => Sys2Proof.Machine.execReadCarriers tag car s
  | .readEmitters tag => Sys2Proof.Machine.execReadEmitters tag s
  | .readReceiver tag ser win => Sys2Proof.Machine.execReadReceiver tag ser win s
  | .readHire tag hire => Sys2Proof.Machine.execReadHire tag hire s
  | .readBadge tag badge => Sys2Proof.Machine.execReadBadge tag badge s
  | .readCentres tag => Sys2Proof.Machine.execReadCentres tag s
  | .readDay tag ch booth cons => Sys2Proof.Machine.execReadDay tag ch booth cons s
  | .readSessions tag idx => Sys2Proof.Machine.execReadSessions tag idx s
  | .readMeter tag met => Sys2Proof.Machine.execReadMeter tag met s
  | .readStatus tag => Sys2Proof.Machine.execReadStatus tag s
  | .readFaults tag => Sys2Proof.Machine.execReadFaults tag s
  | .readStart tag => Sys2Proof.Machine.execReadStart tag s
  | .fetchNotices tag => Sys2Proof.Machine.execFetchNotices tag s
  | .ackCondition tag name addr => Sys2Proof.Machine.execAckCondition tag name addr s
  | .clearFaults tag => Sys2Proof.Machine.execClearFaults tag s
  | .peekSettlements tag n => Sys2Proof.Machine.execPeekSettlements tag n s
  | .releaseSettlements tag seq => Sys2Proof.Machine.execReleaseSettlements tag seq s
  | .clearMeter tag met => Sys2Proof.Machine.execClearMeter tag met s
  | .lineRefused line => Sys2Proof.Machine.execLineRefused line s
  | .lineDiscarded => Sys2Proof.Machine.execLineDiscarded s
  | .issue desk tag ser badge tar ch bat => Sys2Proof.Machine.execIssue desk tag ser badge tar ch bat s
  | .language desk tag ser ch => Sys2Proof.Machine.execLanguage desk tag ser ch s
  | .returnRcv desk tag ser cond bat => Sys2Proof.Machine.execReturn desk tag ser cond bat s
  | .query desk tag ser => Sys2Proof.Machine.execQuery desk tag ser s
  | .deskLineRefused desk line => Sys2Proof.Machine.execDeskLineRefused desk line s
  | .deskLineDiscarded desk => Sys2Proof.Machine.execDeskLineDiscarded desk s
  | .pollAnswer addr check keys => Sys2Proof.Machine.execPollAnswer addr check keys s
  | .answerWindowClose => Sys2Proof.Machine.execAnswerWindowClose s
  | .probeAnswer addr check keys => Sys2Proof.Machine.execProbeAnswer addr check keys s
  | .probeTimerExpiry con => Sys2Proof.Machine.execProbeTimerExpiry con s
  | .goodRunExpiry con => Sys2Proof.Machine.execGoodRunExpiry con s
  | .engagedFlashExpiry con => Sys2Proof.Machine.execEngagedFlashExpiry con s
  | .handoverTimerExpiry con => Sys2Proof.Machine.execHandoverTimerExpiry con s
  | .shiftReminder con => Sys2Proof.Machine.execShiftReminder con s
  | .holdExpiry car => Sys2Proof.Machine.execHoldExpiry car s
  | .directorySend => Sys2Proof.Machine.execDirectorySend s
  | .emitterAnswer slot report => Sys2Proof.Machine.execEmitterAnswer slot report s
  | .dueMinuteExpiry hire => Sys2Proof.Machine.execDueMinuteExpiry hire s
  | .windowClose met => Sys2Proof.Machine.execWindowClose met s
  | .hallMinuteRise => Sys2Proof.Machine.execHallMinuteRise s
  | .writeCompletion notTaken => Sys2Proof.Machine.execWriteCompletion notTaken s
  | .areaRewrite area => Sys2Proof.Machine.execAreaRewrite area s
  | .pfwnAssertion => Sys2Proof.Machine.execPfwnAssertion s
  | .pfwnRelease => Sys2Proof.Machine.execPfwnRelease s
  | .resetnAssertion => Sys2Proof.Machine.execResetnAssertion s
  | .startUp cause damaged => Sys2Proof.Machine.execStartUp cause damaged s

end Sys2Proof.Machine
end

