-- ==== Sys2Proof/Machine/Tick.lean ====
section
/-! DEFINITION. The passing of time on an empty queue (log entry 5): one twentieth of a second of the timebase, after
which the commands that time itself gives stand in the queue. -/

namespace Sys2Proof.Machine

/-- The command that takes an expiry. -/
def Expiry.command : Expiry → Instr
  | .handover a => .handoverTimerExpiry a
  | .hold k => .holdExpiry k
  | .shift a => .shiftReminder a
  | .goodRun a => .goodRunExpiry a
  | .probe a => .probeTimerExpiry a
  | .flash a => .engagedFlashExpiry a
  | .due n => .dueMinuteExpiry n
  | .window m => .windowClose m

/-- The minute's rise, where its 600 tenths are complete (R172). -/
def Hall.dueRise (h : Hall) : List (Nat × Instr) :=
  if h.clock.minuteStart + 1200 ≤ h.clock.ticks then [(h.clock.minuteStart + 1200, .hallMinuteRise)] else []

/-- The directory send, every 0.25 s (R90). -/
def Hall.dueSend (h : Hall) : List (Nat × Instr) :=
  if h.link.nextSend ≤ h.clock.ticks then [(h.link.nextSend, .directorySend)] else []

/-- The rewrites of failed areas, 1.0 s after the failure (R170). -/
def State.dueRewrites (s : State) : List (Nat × Instr) :=
  allAreas.flatMap fun a =>
    if s.hall.timerDue (s.store.rewrite.get a) then [(2 * (s.store.rewrite.get a).getD 0, .areaRewrite a)] else []

/-- The commands that stand due, in the order of their times, those of equal time in the order of log entry 5. -/
def State.dueCommands (s : State) : List Instr :=
  let h := s.hall
  (sortBy (fun x y => x.1 < y.1)
    (h.dueRise ++ h.dueSend ++ s.dueRewrites ++ h.dueExpiries.map fun e => (e.1, e.2.command))).map fun x => x.2

/-- A twentieth of a second passes; time stands while RESETn is asserted (R174). -/
def State.tick (s : State) : State :=
  let s0 := s.opened
  if s0.resetn then s0
  else
    let clock := { s0.hall.clock with ticks := s0.hall.clock.ticks + 1 }
    let s1 := { s0 with hall := { s0.hall with clock := clock } }
    { s1 with pending := s1.dueCommands }

end Sys2Proof.Machine
end

