-- ==== Sys2Proof/WellFormed.lean ====
section
/-! DEFINITION. The commands a partner of the part can send: what the line form of R157 and the fields of a message leave
possible. A command's meaning does not rest on it. -/

namespace Sys2Proof

/-- A tag: 1 to 4 decimal digits (R157). -/
def tagForm (t : Tag) : Bool := 1 ≤ t.length && t.length ≤ 4 && t.all fun c => '0'.toNat ≤ c.toNat && c.toNat ≤ '9'.toNat

/-- A text value: it cannot hold a double quote, a CR or an LF (R157). -/
def textForm : Arg Text → Bool
  | .val t => t.all fun c => c != '"' && c != '\r' && c != '\n'
  | _ => true

/-- A number with decimal places: each place is one digit. -/
def decimalForm : Arg Decimal → Bool
  | .val d => d.places.all fun p => p ≤ 9
  | _ => true

/-- A completed line without its CR holds no CR (R157). -/
def lineForm (t : Text) : Bool := t.all fun c => c != '\r'

/-- The tag a command's line carries. -/
def Instr.tag? : Instr → Option Tag
  | .setChannel tag _ | .setBooth tag _ | .setConsole tag _ _ | .setRelayList tag _ _ | .setTariff tag _ => some tag
  | .setTariffReading tag _ | .setFleet tag _ | .setCentre tag _ _ | .setHall tag _ | .setMeter tag _ => some tag
  | .setClock tag _ | .openDay tag _ | .closeDay tag | .openSession tag _ | .suspendSession tag => some tag
  | .resumeSession tag | .endSession tag | .declareLost tag _ | .markFaulty tag _ | .markRepaired tag _ => some tag
  | .removeReceiver tag _ | .clearDebt tag _ | .readmitConsole tag _ | .forceRelease tag _ | .restart tag => some tag
  | .restartHold tag _ | .readChannel tag _ | .readBooth tag _ | .readConsole tag _ | .readCarriers tag _ => some tag
  | .readEmitters tag | .readReceiver tag _ _ | .readHire tag _ | .readBadge tag _ | .readCentres tag => some tag
  | .readDay tag _ _ _ | .readSessions tag _ | .readMeter tag _ | .readStatus tag | .readFaults tag => some tag
  | .readStart tag | .fetchNotices tag | .ackCondition tag _ _ | .clearFaults tag | .peekSettlements tag _ => some tag
  | .releaseSettlements tag _ | .clearMeter tag _ => some tag
  | .issue _ tag _ _ _ _ _ | .language _ tag _ _ | .returnRcv _ tag _ _ _ | .query _ tag _ => some tag
  | .lineRefused _ | .lineDiscarded | .deskLineRefused _ _ | .deskLineDiscarded _ | .pollAnswer _ _ _ => none
  | .answerWindowClose | .probeAnswer _ _ _ | .probeTimerExpiry _ | .goodRunExpiry _ | .engagedFlashExpiry _ => none
  | .handoverTimerExpiry _ | .shiftReminder _ | .holdExpiry _ | .directorySend | .emitterAnswer _ _ => none
  | .dueMinuteExpiry _ | .windowClose _ | .hallMinuteRise | .writeCompletion _ | .areaRewrite _ => none
  | .pfwnAssertion | .pfwnRelease | .resetnAssertion | .startUp _ _ => none

/-- The texts, decimals and lines of a command are of their forms. -/
def Instr.valuesForm : Instr → Bool
  | .setChannel _ a => textForm a.code && textForm a.label
  | .setBooth _ a => decimalForm a.hto
  | .setFleet _ a => textForm a.label
  | .setCentre _ _ label => textForm label
  | .setHall _ a => decimalForm a.chold
  | .lineRefused line => lineForm line
  | .deskLineRefused _ line => lineForm line
  | .setConsole _ _ _ | .setRelayList _ _ _ | .setTariff _ _ | .setTariffReading _ _ | .setMeter _ _ => true
  | .setClock _ _ | .openDay _ _ | .closeDay _ | .openSession _ _ | .suspendSession _ | .resumeSession _ => true
  | .endSession _ | .declareLost _ _ | .markFaulty _ _ | .markRepaired _ _ | .removeReceiver _ _ => true
  | .clearDebt _ _ | .readmitConsole _ _ | .forceRelease _ _ | .restart _ | .restartHold _ _ => true
  | .readChannel _ _ | .readBooth _ _ | .readConsole _ _ | .readCarriers _ _ | .readEmitters _ => true
  | .readReceiver _ _ _ | .readHire _ _ | .readBadge _ _ | .readCentres _ | .readDay _ _ _ _ => true
  | .readSessions _ _ | .readMeter _ _ | .readStatus _ | .readFaults _ | .readStart _ | .fetchNotices _ => true
  | .ackCondition _ _ _ | .clearFaults _ | .peekSettlements _ _ | .releaseSettlements _ _ | .clearMeter _ _ => true
  | .issue _ _ _ _ _ _ _ | .language _ _ _ _ | .returnRcv _ _ _ _ _ | .query _ _ _ => true
  | .lineDiscarded | .deskLineDiscarded _ | .pollAnswer _ _ _ | .answerWindowClose | .probeAnswer _ _ _ => true
  | .probeTimerExpiry _ | .goodRunExpiry _ | .engagedFlashExpiry _ | .handoverTimerExpiry _ => true
  | .shiftReminder _ | .holdExpiry _ | .directorySend | .emitterAnswer _ _ | .dueMinuteExpiry _ => true
  | .windowClose _ | .hallMinuteRise | .writeCompletion _ | .areaRewrite _ | .pfwnAssertion => true
  | .pfwnRelease | .resetnAssertion | .startUp _ _ => true

/-- A command some partner of the part can send. -/
def Instr.wellFormed (i : Instr) : Bool := i.tag?.all tagForm && i.valuesForm

end Sys2Proof
end

