-- ==== Sys2Proof/Safety.lean ====
section
/-! DEFINITION. The terms the statements use: sound states, what it is for a command to be taken, answered at once or
made to wait on a store write, and the words of the longer rules. -/

namespace Sys2Proof

/-- `a` where `p` holds, `b` where it does not: a test and what comes behind it. -/
def ifElse (p a b : Prop) : Prop := (p → a) ∧ (¬ p → b)

/-- The desk whose request a command is. -/
def Instr.desk? : Instr → Option DeskId
  | .issue d _ _ _ _ _ _ => some d
  | .language d _ _ _ => some d
  | .returnRcv d _ _ _ _ => some d
  | .query d _ _ => some d
  | _ => none

/-- The command is a host order: its line carries a tag, and it came on no desk link. -/
def Instr.isOrder (i : Instr) : Bool := i.tag?.isSome && i.desk?.isNone

/-- The command is one of the two inputs' events or a start-up, the only ones that RESETn does not hold off. -/
def Instr.isInput : Instr → Bool
  | .pfwnAssertion | .pfwnRelease | .resetnAssertion | .startUp _ _ => true
  | _ => false

/-- The orders and requests that R171 refuses while the power-fail warning is asserted. -/
def Instr.refusedByPfw : Instr → Bool
  | .setChannel _ _ | .setBooth _ _ | .setConsole _ _ _ | .setRelayList _ _ _ | .setFleet _ _ | .setCentre _ _ _ => true
  | .setHall _ _ | .setMeter _ _ | .setClock _ _ | .openDay _ _ | .closeDay _ | .openSession _ _ => true
  | .suspendSession _ | .resumeSession _ | .endSession _ | .declareLost _ _ | .markFaulty _ _ => true
  | .markRepaired _ _ | .removeReceiver _ _ | .clearDebt _ _ | .releaseSettlements _ _ => true
  | .restart _ | .restartHold _ _ | .issue _ _ _ _ _ _ _ | .language _ _ _ _ | .returnRcv _ _ _ _ _ => true
  | .setTariff _ a => !a.isReading
  | _ => false

/-- A required number is missing, or lies outside its range. -/
def Arg.outOf (x : Arg Nat) (lo hi : Nat) : Prop := x = .absent ∨ ∃ n, x = .val n ∧ (n < lo ∨ hi < n)

end Sys2Proof

namespace Sys2Proof.Machine

/-- What CLAMPED says of a number: its name and the bound taken, where it was given beyond one (R160). -/
def clamped (name : String) (lo hi : Nat) (x : Arg Nat) : List Clamp :=
  match x with
  | .val n => if n < lo then [.units name lo] else if hi < n then [.units name hi] else []
  | _ => []

/-- The same of a time in seconds with at most one decimal place, its bounds in tenths. -/
def clampedTenths (name : String) (lo hi : Nat) (x : Arg Decimal) : List Clamp :=
  match x.val?.bind Decimal.tenths? with
  | some n => if n < lo then [.tenths name lo] else if hi < n then [.tenths name hi] else []
  | none => []

/-! ### Sound states -/

/-- The notice unit keeps its bounds: at most 32 notices, at most 16 fault log entries (R162, R167). -/
def NoticeUnit.bounded (u : NoticeUnit) : Prop := u.queue.length ≤ 32 ∧ u.log.length ≤ 16

/-- The ATTN output agrees with the queue, the condition set and the masks (R166). -/
def State.attnAgrees (s : State) : Prop := s.notice.attn = attnLevel s.hall.settings.hall.masked s.notice

/-- Between two events nothing is left to hand over. -/
def State.atRest (s : State) : Prop := s.hall.work = EventWork.empty

/-- A sound state: the bounds, ATTN, and nothing left over. -/
def State.sound (s : State) : Prop := s.notice.bounded ∧ s.attnAgrees ∧ s.atRest

/-- The three tables stand in strictly rising order of their keys (R100, R102, R103). -/
def Fleet.ordered (f : Fleet) : Prop :=
  (f.receivers.Pairwise fun x y => x.serial < y.serial) ∧ (f.hires.Pairwise fun x y => x.number < y.number) ∧
    f.badges.Pairwise fun x y => x.number < y.number

/-- The tables are in order in the part, in the store, and in the write in progress. -/
def State.tablesOrdered (s : State) : Prop :=
  s.hall.fleet.ordered ∧ (∀ f, s.store.held.fleet = some f → f.ordered) ∧
    ∀ c f, s.store.current = some c → c.content.fleet = some f → f.ordered

/-- The log is ordered by start, its intervals do not overlap and none ends before it starts; only the last is open. -/
def logOrdered (log : List Interval) : Prop :=
  (∀ v ∈ log, ∀ e, v.finish = some e → v.start ≤ e) ∧
    log.Pairwise fun v w => ∃ e, v.finish = some e ∧ e ≤ w.start

/-- The laws of the account: the settlement queue holds at most 256 records in sequence order (R141, R142); the session
log holds at most 64 intervals, ordered and not overlapping, each of a session of the day and of a centre of 1 to 15,
one of them open exactly while the session is RUNNING (R137 to R139). -/
structure Account.Lawful (a : Account) : Prop where
  queueRoom : a.queue.length ≤ 256
  inOrder   : a.queue.Pairwise fun x y => x.seq < y.seq
  numbered  : ∀ r ∈ a.queue, r.seq ≤ a.seq
  logRoom   : a.log.length ≤ 64
  ordered   : logOrdered a.log
  sessions  : ∀ v ∈ a.log, 1 ≤ v.session ∧ v.session ≤ a.lastSession ∧ v.centre ≠ 0
  last      : a.lastSession ≤ a.log.length
  openOne   : (∃ v ∈ a.log, v.finish = none) ↔ ∃ n k, a.session = .running n k
  present   : ∀ n k, a.session = .running n k ∨ a.session = .suspended n k → 1 ≤ n ∧ n ≤ a.lastSession ∧ k ≠ 0

/-- The account's laws hold in the part, in the store, and in the write in progress, and no interval of the part's log
lies in the future (R139). -/
def State.accountsLawful (s : State) : Prop :=
  s.hall.account.Lawful ∧ (∀ v ∈ s.hall.account.log, v.start ≤ s.hall.now ∧ ∀ e, v.finish = some e → e ≤ s.hall.now) ∧
    (∀ a, s.store.held.account = some a → a.Lawful) ∧
    ∀ c a, s.store.current = some c → c.content.account = some a → a.Lawful

/-- The carrier law and the order of the wait list (R78, R84): carrier 0 is ON_AIR for channel 0, no channel holds two
carriers, and the channels that wait hold none and stand in the list's order, none of them twice. -/
structure Hall.AirLawful (h : Hall) : Prop where
  floor   : ∃ since, h.air.carriers[(0 : CarrierId)] = .onAir 0 since
  single  : ∀ j k : CarrierId, j ≠ k → ∀ c, h.air.carriers[j].channel? = some c → h.air.carriers[k].channel? ≠ some c
  waiters : ∀ c ∈ h.air.waiting, c ≠ 0 ∧ ∀ k : CarrierId, h.air.carriers[k].channel? ≠ some c
  ranked  : h.air.waiting.Pairwise fun c d => h.outranks c d = true

/-- The laws of the fleet: at most 4,096 receivers (R100); each open hire's receiver is ISSUED or, while the hire is
OVERDUE, OVERDUE on it, and no other receiver is out (R100, R102); a badge's entry lists its open hires, each once, and
stands while it lists one or owes (R103). -/
structure Fleet.Lawful (f : Fleet) : Prop where
  ordered : f.ordered
  room    : f.receivers.length ≤ 4096
  hires   : ∀ x ∈ f.hires, 1 ≤ x.number ∧ x.number ≤ 65535 ∧
    ∃ r ∈ f.receivers, r.serial = x.serial ∧ r.state = if x.overdue then .overdue x.number else .issued x.number
  out     : ∀ r ∈ f.receivers, ∀ n, r.state.hire? = some n → ∃ x ∈ f.hires, x.number = n ∧ x.serial = r.serial
  badges  : ∀ b ∈ f.badges, b.hires.Nodup ∧ (b.hires ≠ [] ∨ 0 < b.debt) ∧
    ∀ n, n ∈ b.hires ↔ ∃ x ∈ f.hires, x.number = n ∧ x.badge = b.number
  listed  : ∀ x ∈ f.hires, ∃ b ∈ f.badges, b.number = x.badge

/-- The fleet's laws hold in the part, in the store, and in the write in progress, and a channel's demand is the number
of open hires preset to it (R15). -/
def State.fleetLawful (s : State) : Prop :=
  s.hall.fleet.Lawful ∧
    (∀ c : ChannelId, s.hall.channels[c].demand = (s.hall.fleet.hires.filter fun x => x.preset == c).length) ∧
    (∀ f, s.store.held.fleet = some f → f.Lawful) ∧ ∀ c f, s.store.current = some c → c.content.fleet = some f → f.Lawful

/-- The cause of a condition stands (R37, R92, R142, R165, R170, R172). -/
def State.cause (s : State) : ConditionName → ConsoleId → Prop
  | .hallDark, _ => (∀ e : EmitterId, s.hall.link.slots[e].state ≠ .ok) ∧ s.hall.link.windows = 3
  | .quarantine, a => s.hall.consoles[a].state = .quarantined
  | .settleOverflow, _ => 256 ≤ s.hall.account.queue.length
  | .storeFault, _ => s.store.failed ≠ AreaSet.none
  | .clockStale, _ => s.hall.clock.stale = true

/-- A condition is ACTIVE exactly while its cause stands (R165). -/
def State.conditionsMet (s : State) : Prop :=
  ∀ (name : ConditionName) (a : ConsoleId), s.notice.conds.get name a = .active ↔ s.cause name a

/-! ### Taking a command -/

/-- The control port takes an order: no RESETn, lines assembled, no order in progress (R159, R174). -/
def State.takesOrders (s : State) : Prop := s.resetn = false ∧ s.listening = true ∧ s.port.busy = false

/-- The control port takes an order, no power-fail warning stands, and nothing is left of an earlier event. -/
def State.ready (s : State) : Prop := s.takesOrders ∧ s.pfw = false ∧ s.atRest

/-- Desk link `d` takes a request (R105, R174). -/
def State.takesRequests (s : State) (d : DeskId) : Prop :=
  s.resetn = false ∧ s.listening = true ∧ s.desks[d].busy = false

/-- Desk link `d` takes a request, no power-fail warning stands, and nothing is left of an earlier event. -/
def State.readyAt (s : State) (d : DeskId) : Prop := s.takesRequests d ∧ s.pfw = false ∧ s.atRest

/-- What an event leaves of the state around the blocks: the inputs, the start report, the queue of commands, the
store's content and its failures. -/
def State.keepsAround (s t : State) : Prop :=
  t.pfw = s.pfw ∧ t.resetn = s.resetn ∧ t.listening = s.listening ∧ t.start = s.start ∧ t.pending = s.pending ∧
    t.store.held = s.store.held ∧ t.store.failed = s.store.failed ∧ t.store.rewrite = s.store.rewrite

/-- The event's end after it left the blocks as `h`: what was handed over is delivered, and the rest of the state stands
(R162, R165, R166). -/
def State.endsWith (s : State) (h : Hall) (t : State) : Prop :=
  t.hall = h.rested ∧ t.notice = noticeEnd h s.store.failed s.notice ∧ s.keepsAround t

/-- A write that takes these areas, with `w` waiting on it, is in progress or on the list (R170). -/
def Store.awaits (st : Store) (areas : AreaSet) (w : Waiter) : Prop :=
  (∃ c, st.current = some c ∧ areas.subset c.areas = true ∧ w ∈ c.waiters) ∨
    ∃ x ∈ st.writes, areas.subset x.areas = true ∧ w ∈ x.waiters

/-- An event that left the blocks as `h` has asked the store for the writes that the blocks ask for, `h.work.asks`, in
their order, then for the one `own` that its answer waits on, and for no other; the port takes up the first write of the
list while it makes none (R170). An `h` that asks for nothing, as every state at rest, with no `own`, leaves the list. -/
def State.asks (s : State) (own : Option (AreaSet × Waiter)) (h : Hall) (t : State) : Prop :=
  t.store = beginWrite h (placeWrites own h.work.asks s.store)

/-- A content agrees with the blocks in an area. -/
def Content.holds (c : Content) (h : Hall) : Area → Prop
  | .settings => c.settings = some h.settings
  | .fleet => c.fleet = some h.fleet
  | .account => c.account = some h.account
  | .clock => c.clock = some h.clock.minute

/-- The area as it stands is being written through: a write that takes it is on the list, which will take it as it then
stands, or is in progress with this content (R170). -/
def State.written (s : State) (a : Area) : Prop :=
  (∃ x ∈ s.store.writes, x.areas.has a = true) ∨
    ∃ c, s.store.current = some c ∧ c.areas.has a = true ∧ c.content.holds s.hall a

/-- The area stands in no write in progress, and the store holds it as it stands, or it has failed and waits for its
rewrite (R170). -/
def State.stored (s : State) (a : Area) : Prop :=
  (∀ c, s.store.current = some c → c.areas.has a = false) ∧
    (s.store.held.holds s.hall a ∨ s.store.failed.has a = true ∧ s.store.rewrite.get a ≠ none)

/-- Retained state is written through (R1, R170): each area is being written or stored, but for the CLOCK area while the
clock is stale, which a start-up does not write (R174), and while RESETn is asserted, which drops the list. -/
def State.writtenThrough (s : State) : Prop :=
  s.resetn = false → ∀ a : Area, s.written a ∨ s.stored a ∨ a = .clock ∧ s.hall.clock.stale = true

/-- Host order `i` is taken, leaves the blocks as `h`, and is answered `r` in the same event, without a write of its own
(R159, R160, R170). -/
def State.answersNow (s : State) (i : Instr) (tag : Tag) (r : Result) (h : Hall) : Prop :=
  ∃ t, exec i s = .next t ∧ s.endsWith h t ∧ s.asks none h t ∧ t.desks = s.desks ∧ t.port = s.port.answered ∧
    t.out = [⟨.host t.noticesWaiting t.conditionRaised, tag, r, s.port.overrun⟩]

/-- Host order `i` is taken, leaves the blocks as `h`, and its answer `r` waits on a write of these areas, the only one the
order itself asks for (R159, R170). -/
def State.answerWaits (s : State) (i : Instr) (tag : Tag) (areas : AreaSet) (r : Result) (h : Hall) : Prop :=
  ∃ t, exec i s = .next t ∧ s.endsWith h t ∧ s.asks (some (areas, .host tag r)) h t ∧ t.desks = s.desks ∧
    t.port = { s.port with busy := true } ∧ t.out = [] ∧ t.store.awaits areas (.host tag r)

/-- Desk `d`'s request `i` is taken, leaves the blocks as `h`, and is answered `r` in the same event, without a write of
its own (R105, R170). -/
def State.deskAnswersNow (s : State) (d : DeskId) (i : Instr) (tag : Tag) (r : Result) (h : Hall) : Prop :=
  ∃ t, exec i s = .next t ∧ s.endsWith h t ∧ s.asks none h t ∧ t.port = s.port ∧
    t.desks = vmod s.desks d LinePort.answered ∧
    t.out = [⟨.desk d, tag, r, s.desks[d].overrun⟩]

/-- Desk `d`'s request `i` is taken, leaves the blocks as `h`, and its answer `r` waits on a write of these areas, the only
one the request itself asks for (R105, R170). -/
def State.deskAnswerWaits (s : State) (d : DeskId) (i : Instr) (tag : Tag) (areas : AreaSet) (r : Result) (h : Hall) :
    Prop :=
  ∃ t, exec i s = .next t ∧ s.endsWith h t ∧ s.asks (some (areas, .desk d tag r)) h t ∧ t.port = s.port ∧
    t.desks = (vmod s.desks d fun p => { p with busy := true }) ∧ t.out = [] ∧ t.store.awaits areas (.desk d tag r)

/-- Event `i` is taken and leaves the blocks as `h`, answering nobody, with no write but those the blocks ask for. -/
def State.takesEvent (s : State) (i : Instr) (h : Hall) : Prop :=
  ∃ t, exec i s = .next t ∧ s.endsWith h t ∧ s.asks none h t ∧ t.port = s.port ∧ t.desks = s.desks ∧ t.out = []

/-- Command `i` is not taken: nothing changes but that no answer is sent. -/
def State.ignores (s : State) (i : Instr) : Prop := exec i s = .next s.opened

/-! ### Words of the longer rules -/

/-- Settlement record `r` is numbered and placed, from `h` to `k`: queued with its number while the queue has room, and
otherwise, or at the counter's end, counted as unitemised; QUEUE_HIGH is the last notice of its event (R141, R142, log
entry 51). -/
def Hall.records (h k : Hall) (r : Settlement) (seq : Nat) (unit : Bool) : Prop :=
  let a := h.account
  let b := k.account
  seq = (if a.seq = maxCount then 0 else a.seq + 1) ∧ b.seq = (if a.seq = maxCount then a.seq else a.seq + 1) ∧
  ifElse (a.seq = maxCount ∨ 256 ≤ a.queue.length)
    (unit = true ∧ b.queue = a.queue ∧ b.day.unitCount = satCount (a.day.unitCount + 1) ∧
      b.day.unitTotal = satMoney (a.day.unitTotal + r.charge))
    (unit = false ∧ b.queue = a.queue ++ [{ r with seq := seq }] ∧ b.day.unitCount = a.day.unitCount ∧
      b.day.unitTotal = a.day.unitTotal ∧
      (a.queue.length = 223 → k.work.posts.getLast? = some ⟨.account, .queueHigh, seq, h.now, 224, false⟩))

/-- An exchange of this kind with console `a` is in progress on the bus, at an event's beginning (R27). -/
def State.exchanges (s : State) (kind : ExchangeKind) (a : ConsoleId) : Prop :=
  s.resetn = false ∧ s.atRest ∧ ∃ lamps, s.hall.bus.current = some ⟨kind, a, lamps, false⟩

/-- The exchange with console `a` has ended and left it this record; nothing else has changed. -/
def Hall.afterExchange (h : Hall) (a : ConsoleId) (r : ConsoleRun) : Hall :=
  { h with consoles := vset h.consoles a r, bus := { h.bus with current := none } }

/-- Console `y` of booth `b` has been taken as a fresh request on channel `t` (R46), from `h` to `k`, the feeders, the
wait lists and the consoles granted in the event being `f`, `l` and `g` before it: granted a channel without a feeder,
and otherwise at the tail of the channel's list, with a new timer in a booth of HANDOVER mode and with `old` in one of
another. -/
def Hall.requested (h k : Hall) (y : ConsoleId) (b : BoothId) (t : ChannelId) (f : ChannelId → Option ConsoleId)
    (l : ChannelId → List WaitEntry) (g : List ConsoleId) (old : Option Nat) : Prop :=
  let set := h.settings.booths[b]
  let r := k.consoles[y]
  k.booths[b].owner = some y ∧ r.engagedFlash = none ∧
  ifElse (f t = none)
    (r.state = .live ∧ r.handoverExpiry = none ∧ r.contStart = some h.now ∧ r.nextShift = some (h.now + set.shift1) ∧
      (h.dayOpen = true → r.liveSince = some h.now) ∧ k.work.granted = g ++ [y] ∧
      ∀ x : ChannelId, k.channels[x].feeder = (if x = t then some y else f x) ∧ k.waitLists[x] = l x)
    (r.state = .requesting ∧
      r.handoverExpiry = (if set.mode = .handover then some (h.tenths + set.timeout) else old) ∧ k.work.granted = g ∧
      ∀ x : ChannelId, k.channels[x].feeder = f x ∧ k.waitLists[x] = if x = t then l x ++ [⟨y, b⟩] else l x)

/-- Booth `b`, left by its owner, has been passed on (R52), from `h` to `k`, with `f`, `l` and `g` as above before it. -/
def Hall.passedOn (h k : Hall) (b : BoothId) (f : ChannelId → Option ConsoleId) (l : ChannelId → List WaitEntry)
    (g : List ConsoleId) : Prop :=
  let unowned : Prop := k.booths[b].owner = none ∧ k.work.granted = g ∧
    ∀ x : ChannelId, k.channels[x].feeder = f x ∧ k.waitLists[x] = l x
  match h.booths[b].queue with
  | [] => k.booths[b].queue = [] ∧ unowned
  | y :: rest =>
    k.booths[b].queue = rest ∧
    match h.target y with
    | some t => h.requested k y b t f l g none
    | none => unowned ∧ k.consoles[y].state = .idle ∧ k.consoles[y].handoverExpiry = none

/-- The feeders after the channel pass-on of `c` (R51): the head of its wait list, or none. -/
def Hall.feedersPassed (h : Hall) (c x : ChannelId) : Option ConsoleId :=
  if x = c then h.waitLists[c].head?.map WaitEntry.console else h.channels[x].feeder

/-- The wait lists after the channel pass-on of `c` (R51). -/
def Hall.listsPassed (h : Hall) (c x : ChannelId) : List WaitEntry :=
  if x = c then h.waitLists[c].tail else h.waitLists[x]

/-- The consoles granted in the event after the channel pass-on of `c` (R51). -/
def Hall.grantsPassed (h : Hall) (c : ChannelId) : List ConsoleId :=
  h.work.granted ++ (h.waitLists[c].head?.map WaitEntry.console).toList

/-- The head of `c`'s wait list has been granted the channel (R49, R51). -/
def Hall.headGranted (h k : Hall) (c : ChannelId) : Prop :=
  ∀ e, h.waitLists[c].head? = some e → k.booths[e.booth].owner = some e.console ∧
    k.consoles[e.console].state = .live ∧ k.consoles[e.console].handoverExpiry = none ∧
    k.consoles[e.console].contStart = some h.now ∧
    k.consoles[e.console].nextShift = some (h.now + h.settings.booths[e.booth].shift1)

/-- Console `a` of booth `b` has left LIVE or MUTED for `v` (R38, R50): its live spell has ended with its minutes
counted, and its reminder and lamp are gone. -/
def Hall.steppedDown (h k : Hall) (a : ConsoleId) (b : BoothId) (v : ConsoleState) : Prop :=
  let r := k.consoles[a]
  r.state = v ∧ r.liveSince = none ∧ r.contStart = none ∧ r.nextShift = none ∧ r.shiftLamp = false ∧
    k.account.consoleLive[a] = h.consoleLiveMinutes a ∧
    k.account.booths[b].live = asOf h.consoles[a].liveSince h.account.booths[b].live h.now

/-- Console `a` of booth `b` speaks on channel `c`, and nobody stands in two places: what R44 to R46 say of every waiting
console. -/
structure Hall.floorOf (h : Hall) (a : ConsoleId) (b : BoothId) (c : ChannelId) : Prop where
  booth    : h.boothOf a = some b
  speaks   : h.consoles[a].state.onChannel = true
  feeds    : h.feeds a = some c
  queue    : h.booths[b].queue.Nodup
  absent   : a ∉ h.booths[b].queue
  lists    : ∀ x : ChannelId, (h.waitLists[x].map WaitEntry.console).Nodup
  entries  : ∀ x : ChannelId, ∀ e ∈ h.waitLists[x], e.console ≠ a ∧ e.booth ≠ b ∧ e.console ∉ h.booths[b].queue

/-- Console `a` of booth `b` waits on channel `c`'s list as the booth's owner, and nobody stands in two places. -/
structure Hall.waitOf (h : Hall) (a : ConsoleId) (b : BoothId) (c : ChannelId) : Prop where
  booth    : h.boothOf a = some b
  waits    : h.consoles[a].state = .requesting
  waitsOn  : h.waitsOn a = some c
  queue    : h.booths[b].queue.Nodup
  absent   : a ∉ h.booths[b].queue
  entries  : ∀ x : ChannelId, ∀ e ∈ h.waitLists[x], e.console ∉ h.booths[b].queue

/-! ### Frames -/

/-- `k` is `h` but for what the reporting operations move: service states, spells and the minutes they count, fallback,
carriers and the directory, emitter slots, meters, levels, and what is handed to the event's end. -/
structure Hall.Kept (h k : Hall) : Prop where
  settings  : k.settings = h.settings
  fleet     : k.fleet = h.fleet
  clock     : k.clock = h.clock
  waitLists : k.waitLists = h.waitLists
  consoles  : k.consoles = h.consoles
  bus       : k.bus = h.bus
  lowFired  : k.lowFired = h.lowFired
  owner     : ∀ b : BoothId, k.booths[b].owner = h.booths[b].owner
  queue     : ∀ b : BoothId, k.booths[b].queue = h.booths[b].queue
  unowned   : ∀ b : BoothId, k.booths[b].unowned = h.booths[b].unowned
  feeder    : ∀ c : ChannelId, k.channels[c].feeder = h.channels[c].feeder
  demand    : ∀ c : ChannelId, k.channels[c].demand = h.channels[c].demand
  peak      : ∀ c : ChannelId, k.channels[c].peak = h.channels[c].peak
  day       : k.account.day = h.account.day
  session   : k.account.session = h.account.session
  last      : k.account.lastSession = h.account.lastSession
  log       : k.account.log = h.account.log
  balances  : k.account.balances = h.account.balances
  live      : k.account.consoleLive = h.account.consoleLive
  boothLive : ∀ b : BoothId, k.account.booths[b].live = h.account.booths[b].live
  handovers : ∀ b : BoothId, k.account.booths[b].handovers = h.account.booths[b].handovers
  records   : k.account.queue = h.account.queue
  seq       : k.account.seq = h.account.seq
  counter   : k.account.hireCounter = h.account.hireCounter
  peakHires : k.account.peakHires = h.account.peakHires
  granted   : k.work.granted = h.work.granted

/-! ### Keys (R30, R31) -/

/-- A poll of console `a` is in progress, and key state `k` stands as its candidate against the accepted `old`. -/
def State.accepts (s : State) (a : ConsoleId) (old k : Keys) : Prop :=
  s.exchanges .poll a ∧ s.hall.consoles[a].accepted = some old ∧ s.hall.consoles[a].candidate = some k ∧
    k.decodes = true ∧ s.hall.consoles[a].state.polled = true

/-- The blocks as that poll's good answer leaves them for the key events: the state accepted, the exchange ended (R30). -/
def Hall.keysAccepted (h : Hall) (a : ConsoleId) (k : Keys) : Hall :=
  h.afterExchange a { h.consoles[a] with bad := 0, accepted := some k, candidate := none }

/-- The poll's answer is taken and leaves what `press` leaves, and what the event's end reports. -/
def State.pressTakes (s : State) (a : ConsoleId) (k : Keys) (press : Hall) : Prop :=
  ∃ j, s.takesEvent (.pollAnswer (numOf a) true k) j ∧ press.Kept j

/-! ### The relay graph (R69) -/

/-- A path of `k` edges from booth `x` to booth `y`. -/
def relayPath (bs : Vector BoothSettings 16) : Nat → BoothId → BoothId → Prop
  | 0, x, y => x = y
  | k + 1, x, y => ∃ z, relayEdge bs x z = true ∧ relayPath bs k z y

end Sys2Proof.Machine
end

