-- ==== Sys2Proof/Certificates/Slice0/Obligations.lean ====
section
/-! DEFINITION. The statements for the provers, block by block. Each docstring names the rules a statement rests on. In
all of them an order's answer and the state it leaves stand under hypotheses on the state and the operands alone. -/

open Sys2Proof Sys2Proof.Machine

/-! ### The machine -/

/-- A step with a command waiting is that command's effect on the state with the queue's rest. -/
def Obligations.StepRunsFront : Prop :=
  ∀ (c : Instr) (rest : List Instr) (s : State), s.pending = c :: rest → step s = exec c { s with pending := rest }

/-- The model's choice (log entry 5): on an empty queue one twentieth of a second of the timebase passes (log entry 18),
and the commands that time gives then stand in the queue. Under RESETn nothing passes. The minute rises by 1 when the
timebase completes its 600 tenths, stays at 4,294,967,295, and asks for a CLOCK write; nothing else moves (R172). That
the rise takes the timebase up to its end, 1,200 ticks from the minute's start, is the choice of log entries 6 and 18;
what happens at the end value is inferred (log entry 31). -/
def Obligations.TimePasses : Prop :=
  (∀ s : State, s.pending = [] →
    ∃ t, step s = .next t ∧ t.out = [] ∧ t.notice = s.notice ∧ t.store = s.store ∧ t.port = s.port ∧ t.desks = s.desks ∧
      t.listening = s.listening ∧ t.pfw = s.pfw ∧ t.resetn = s.resetn ∧ t.start = s.start ∧
      (if s.resetn then t.hall = s.hall ∧ t.pending = []
       else t.hall = { s.hall with clock := { s.hall.clock with ticks := s.hall.clock.ticks + 1 } } ∧
         t.pending = t.dueCommands)) ∧
  ∀ s : State, s.resetn = false →
    let old := s.hall.clock
    let start := old.minuteStart + 1200
    let new := if old.minute < 4294967295 then old.minute + 1 else old.minute
    ∃ k t, exec .hallMinuteRise s = .next t ∧ s.endsWith k t ∧ s.asks none k t ∧ t.port = s.port ∧ t.desks = s.desks ∧ t.out = [] ∧
      k = { s.hall with
        clock := ⟨new, old.stale, max old.ticks start, start⟩
        work := { s.hall.work with
          asks := s.hall.work.asks ++ if old.minute < 4294967295 then [onlyClock] else [] } } ∧
      (old.minute < 4294967295 → t.written .clock)

/-- The state after reset meets every invariant that is stated below, and holds the values the spec gives after a
start-up with every area loaded with defaults (R18, R40, R63, R76, R94, R97, R117, R121, R147, R148, R155, R161, R172).
State.reset is the choice of log entry 4: the inputs, the store and the timebase of it are not stated here. -/
def Obligations.ResetState : Prop :=
  let h := State.reset.hall
  (State.reset.sound ∧ State.reset.tablesOrdered ∧ State.reset.accountsLawful ∧ h.AirLawful ∧ State.reset.fleetLawful ∧
    State.reset.conditionsMet ∧ State.reset.writtenThrough) ∧
  h.settings.channels[0] = ⟨true, ['F', 'L', 'R'], ['F', 'l', 'o', 'o', 'r'], false, true⟩ ∧
  (∀ c : ChannelId, c ≠ 0 → h.settings.channels[c] = ⟨false, [], [], false, false⟩ ∧ h.channels[c].service = .off) ∧
  h.channels[(0 : ChannelId)].service = .live ∧
  (∀ c : ChannelId, h.channels[c].feeder = none ∧ h.channels[c].demand = 0 ∧ h.waitLists[c] = []) ∧
  (∀ b : BoothId, h.settings.booths[b] = ⟨false, none, none, .handover, 100, 30, 5, []⟩ ∧ h.booths[b].owner = none ∧
    h.booths[b].queue = [] ∧ h.booths[b].unowned = none ∧ h.booths[b].fallback = none) ∧
  (∀ a : ConsoleId, h.settings.consoleBooth[a] = none ∧ h.consoles[a].state = .absent) ∧
  (∀ t : TariffId, h.settings.tariffs[t] = ⟨false, 0, 60, 0, 0, 0, 0, 0, 0, false⟩) ∧
  (∀ w : WindowId, h.settings.windows[w] = ⟨false, 0, 0, [], 0, 0⟩) ∧
  h.settings.hall = ⟨5, 80, 1, 60, false, []⟩ ∧
  (∀ m : MeterId, h.settings.meters[m] = ⟨false, .issue, .any, 15, 0, false, false, 0, false⟩ ∧
    h.meters[m].count = 0 ∧ h.meters[m].next = none) ∧
  h.fleet = ⟨[], [], []⟩ ∧ h.account.session = .none ∧ h.account.log = [] ∧ h.account.queue = [] ∧ h.account.seq = 0 ∧
  h.account.day.isOpen = false ∧ h.account.day.number = 0 ∧ h.clock.minute = 0 ∧ h.clock.stale = true ∧
  h.air.carriers[(0 : CarrierId)] = .onAir 0 0 ∧ (∀ k : CarrierId, k ≠ 0 → h.air.carriers[k] = .free)

/-- Every step keeps the notice queue within 32 notices and the fault log within 16 entries, leaves ATTN exactly as
R166 gives it, and hands over everything it was to hand over (R162, R166, R167). -/
def Obligations.StepKeepsSound : Prop := ∀ s t : State, s.sound → step s = .next t → t.sound

/-- Every step keeps the receiver, hire and badge tables, in the part and in the store, in strictly rising order of
serial, hire number and badge number, so that each key has at most one record (R100, R102, R103). -/
def Obligations.StepKeepsTablesOrdered : Prop :=
  ∀ s t : State, s.tablesOrdered → step s = .next t → t.tablesOrdered

/-- Every step keeps the laws of the account, in the part and in the store: the settlement queue within 256 records in
sequence order, the session log within 64 intervals, ordered, not overlapping, none in the future, and open at its end
exactly while the session is RUNNING (R137 to R139, R141, R142, R173, R174). -/
def Obligations.StepKeepsAccountsLawful : Prop :=
  ∀ s t : State, s.accountsLawful → step s = .next t → t.accountsLawful

/-- Every step keeps the carrier law and the wait list's order: carrier 0 is ON_AIR for channel 0, no channel holds two
carriers, no channel that holds one waits, and those that wait stand by demand, highest first, and of equal demand by
number, none of them twice (R78, R84, R85). -/
def Obligations.StepKeepsCarriersLawful : Prop :=
  ∀ s t : State, s.hall.AirLawful → step s = .next t → t.hall.AirLawful

/-- Every step keeps the laws of the fleet, in the part and in the store: each open hire has its receiver ISSUED or
OVERDUE on it and its number in its badge's list, no receiver is out without a hire, a badge's entry stands exactly
while it lists a hire or owes, and each channel's demand is the number of open hires preset to it (R15, R100, R102,
R103). -/
def Obligations.StepKeepsFleetLawful : Prop := ∀ s t : State, s.fleetLawful → step s = .next t → t.fleetLawful

/-- A condition is ACTIVE exactly while its cause stands: no emitter slot OK once the third answer window has closed,
the console QUARANTINED, 256 settlement records queued, an area of the store failed, the clock stale; every step keeps
that. A condition that is raised stays so, and one that is ENDED was raised before, but at the order that acknowledges
it, a restart, or a start-up (R37, R92, R142, R165, R169, R170, R172). That a hall lit and dark again before the third
window closes counts as dark is the choice of log entry 42. -/
def Obligations.ConditionsFollowCauses : Prop :=
  (∀ s t : State, s.conditionsMet → step s = .next t → t.conditionsMet) ∧
  ∀ (i : Instr) (s t : State), exec i s = .next t → (∀ c d, i ≠ .startUp c d) →
    ∀ (name : ConditionName) (a : ConsoleId),
      (s.notice.conds.get name a ≠ .clear → (∀ tag n x, i ≠ .ackCondition tag n x) → (∀ tag, i ≠ .restart tag) →
        (∀ tag v, i ≠ .restartHold tag v) → t.notice.conds.get name a ≠ .clear) ∧
      (t.notice.conds.get name a = .ended → s.notice.conds.get name a ≠ .clear)

/-- ATTN is asserted exactly while the queue holds a notice of an unmasked class or a condition of an unmasked class is
raised, ACTIVE or ENDED, and it agrees with the N and A of every answer sent at the same moment (R166). The answers that
wait on a write are sent at its completion before what the completion itself does (R170), and at the assertion of RESETn
so too (inferred, log entry 23), so that they agree with ATTN as it stood before it. -/
def Obligations.AttnOutput : Prop :=
  ∀ s t : State, s.sound → step s = .next t →
    let masked := t.hall.settings.hall.masked
    let cls : ConditionName → NoticeClass
      | .hallDark => .carrier
      | .settleOverflow => .account
      | .quarantine | .storeFault | .clockStale => .fault
    let completes : Prop := ∃ rest, (∃ bad, s.pending = .writeCompletion bad :: rest) ∨ s.pending = .resetnAssertion :: rest
    (t.notice.attn = true ↔ (∃ n ∈ t.notice.queue, n.cls ∉ masked) ∨
      ∃ (name : ConditionName) (a : ConsoleId), t.notice.conds.get name a ≠ .clear ∧ cls name ∉ masked) ∧
    ∀ x ∈ t.out, ∀ n a, x.addressee = .host n a →
      (completes → (s.notice.attn = true ↔ 0 < n ∨ a = true)) ∧
      (¬ completes → (t.notice.attn = true ↔ 0 < n ∨ a = true))

/-- Retained state is written through: where a command other than a start-up changes the settings, the fleet, the
account or the hall minute, a write of that area as it now stands is on the list or in progress. And every step keeps
it that each area either agrees with the store's content, is being written, or has failed and waits for its rewrite,
but for the CLOCK area of a clock that is stale since a start-up, which R174 does not write, and under RESETn, which
drops the list (R1, R170, R174). That SET CLOCK writes ACCOUNT where spells are open, and a start-up FLEET where only
snapshots were set to 0, is inferred (log entries 24 and 28); what becomes of a failed area, and of a write taken in
part, is the choice of log entries 54 and 55. -/
def Obligations.ChangesWrittenThrough : Prop :=
  (∀ (i : Instr) (s t : State), (∀ c d, i ≠ .startUp c d) → exec i s = .next t →
    (t.hall.settings ≠ s.hall.settings → t.written .settings) ∧ (t.hall.fleet ≠ s.hall.fleet → t.written .fleet) ∧
    (t.hall.account ≠ s.hall.account → t.written .account) ∧
    (t.hall.clock.minute ≠ s.hall.clock.minute → t.written .clock)) ∧
  ∀ s t : State, s.writtenThrough → step s = .next t → t.writtenThrough

/-! ### Taking lines -/

/-- While RESETn is asserted no command but the inputs' own changes anything. R174 says so of orders, requests, keys and
expiries; that emitter and probe answers, write completions and directory sends are held off too is log entry 23's
reading, with log entry 5's that time stands. A line completed while an order, or on a desk link a request, is in
progress is discarded whole: it sets the overrun mark of its port and changes nothing else, and no answer is sent for it
(R105, R159). Until start-up's write has completed no line is assembled, and every order and request is lost (R174). The
loss without a mark is inferred (log entry 22). -/
def Obligations.CommandsNotTaken : Prop :=
  (∀ (i : Instr) (s : State), s.resetn = true → i.isInput = false → s.ignores i) ∧
  (∀ (i : Instr) (s : State), i.isOrder = true ∨ i = .lineDiscarded → s.resetn = false → s.listening = true →
    s.port.busy = true → exec i s = .next { s.opened with port := { s.port with overrun := true } }) ∧
  (∀ (i : Instr) (d : DeskId) (s : State), i.desk? = some d ∨ i = .deskLineDiscarded d → s.resetn = false →
    s.listening = true → s.desks[d].busy = true →
    exec i s = .next { s.opened with desks := vmod s.desks d fun p => { p with overrun := true } }) ∧
  (∀ (i : Instr) (s : State), i.tag?.isSome = true → s.listening = false → s.ignores i)

/-- A line is answered with the code of the first test of R158 that fails, under its tag, and changes nothing else: no
tag of 1 to 4 digits (SYNTAX, with the tag 0); more than 120 characters, a star that does not stand before two
hexadecimal digits at the end, an open quote, a word that is neither capital letters nor NAME=value, or a name alone
of an argument that its order does not take so, as FORCE and HOLD alone are taken (SYNTAX); a checksum that differs,
or none where one is required (CHECK); no verb of the catalogue (UNKNOWN); an argument that the order does not take,
or one given twice (SYNTAX). A desk line meets the same tests with the desk verbs, and then those of R105: a value
missing or malformed (SYNTAX), a number out of its range (RANGE). A line that passes is the command of its own row and
takes nothing here; nor does an empty one. The forms of a word and the order of the desk's value tests are inferred
(log entry 9), a line's LFs are no part of it (R157). -/
def Obligations.RefusedLines : Prop :=
  ∀ (s : State) (line : Text),
    let text := line.filter fun c => c != '\n'
    let body := text.takeWhile fun c => c != '*'
    let sum := text.dropWhile fun c => c != '*'
    let tag := body.takeWhile fun c => c != ' '
    let words := (splitWords body false []).1.drop 1
    let name (w : Text) : Text := w.takeWhile fun c => c != '='
    let plain (w : Text) : Prop := w ≠ [] ∧ ∀ c ∈ w, isCapital c = true
    let valued (w : Text) : Prop :=
      ∃ n v, w = n ++ '=' :: v ∧ isName n = true ∧ ('"' ∉ v ∨ ∃ t, v = '"' :: t ++ ['"'] ∧ '"' ∉ t)
    let given (n : Nat) : Prop :=
      ∃ x y a b, sum = ['*', x, y] ∧ hexValue x = some a ∧ hexValue y = some b ∧ n = 16 * a + b
    let takes (v : List String × List String) (args : List Text) : Prop := words = v.1.map String.toList ++ args
    let alone (verb : List String) (w : Text) : Prop :=
      (verb = ["SET", "CHANNEL"] ∧ w = "FORCE".toList) ∨ (verb = ["RESTART"] ∧ w = "HOLD".toList)
    let nameAlone (cat : Catalogue) : Prop :=
      (∃ v ∈ cat, ∃ args, takes v args ∧ ∃ w ∈ args, plain w ∧ ¬ alone v.1 w) ∨
      ((∀ v ∈ cat, ∀ args, ¬ takes v args) ∧
        ∃ front w back, words = front ++ w :: back ∧ plain w ∧ (3 ≤ front.length ∨ ∃ x ∈ front, ¬ plain x))
    let tests (cat : Catalogue) (refused : Tag → AnswerCode → Prop) (passed : List String → List Text → Prop) : Prop :=
      ifElse (¬(1 ≤ tag.length ∧ tag.length ≤ 4 ∧ ∀ c ∈ tag, isDigit c = true)) (refused ['0'] .syntaxError) <|
      ifElse (120 < text.length ∨ (sum ≠ [] ∧ ∀ n, ¬ given n) ∨ body.count '"' % 2 = 1 ∨
          (∃ w ∈ words, ¬ plain w ∧ ¬ valued w) ∨ (∃ w, words.head? = some w ∧ ¬ plain w) ∨ nameAlone cat)
        (refused tag .syntaxError) <|
      ifElse (∃ n, given n ∧ n ≠ (body.map Char.toNat).sum % 256) (refused tag .check) <|
      ifElse (sum = [] ∧ s.hall.settings.hall.checksum = true) (refused tag .check) <|
      ifElse (∀ v ∈ cat, ∀ args, ¬ takes v args) (refused tag .unknown) <|
      ∀ v ∈ cat, ∀ args, takes v args →
        (ifElse ((∃ w ∈ args, ∀ n ∈ v.2, name w ≠ n.toList) ∨ ¬ (args.map name).Nodup) (refused tag .syntaxError)
          (passed v.1 args))
    (s.takesOrders →
      (ifElse (text = []) (s.ignores (.lineRefused line))
        (tests orderCatalogue (fun tag c => s.answersNow (.lineRefused line) tag (.er c) s.hall)
          fun _ _ => s.ignores (.lineRefused line)))) ∧
    ∀ d : DeskId, s.takesRequests d →
      let i : Instr := .deskLineRefused d line
      (ifElse (text = []) (s.ignores i)
        (tests deskCatalogue (fun tag c => s.deskAnswersNow d i tag (.er c) s.hall) fun verb args =>
          let value (n : String) (v : Text) : Prop := ∃ w ∈ args, fieldOf w = some ⟨n.toList, some v⟩
          let number (n : String) (k : Nat) : Prop := ∃ v, value n v ∧ natOf v = some k
          let lacks (n : String) : Prop := ∀ k, ¬ number n k
          let above (n : String) (hi : Nat) : Prop := ∃ k, number n k ∧ hi < k
          let condition : Prop := value "COND" "OK".toList ∨ value "COND" "DAMAGED".toList
          ifElse (lacks "SER" ∨
              (verb = ["ISSUE"] ∧ (lacks "BADGE" ∨ lacks "TAR" ∨ lacks "CH" ∨ lacks "BAT")) ∨
              (verb = ["LANGUAGE"] ∧ lacks "CH") ∨ (verb = ["RETURN"] ∧ (¬ condition ∨ lacks "BAT")))
            (s.deskAnswersNow d i tag (.er .syntaxError) s.hall) <|
          ifElse (above "SER" 4294967295 ∨ above "BADGE" 4294967295 ∨ above "TAR" 8 ∨ number "TAR" 0 ∨ above "CH" 31)
            (s.deskAnswersNow d i tag (.er .range) s.hall) <|
          s.ignores i))

/-- An order or request that is answered with an error in its own event has changed no block and asked for no write:
what is left is the answer, and the event's end. So says every order's table, "nothing changes" (R2, R21, R25, R71,
R97, R120, R153). -/
def Obligations.RefusedChangesNothing : Prop :=
  ∀ (i : Instr) (s t : State) (a : Answer) (c : AnswerCode), i.tag?.isSome = true → exec i s = .next t → a ∈ t.out →
    a.result = .er c → s.endsWith s.hall t ∧ s.asks none s.hall t

/-- A power-fail warning refuses every order and request that R171 names, whatever its operands: it is answered with an
error at once and changes nothing. The code is POWER_FAIL where no earlier test of its order fails, shown for every one
of them. -/
def Obligations.PowerFailRefuses : Prop :=
  (∀ (s : State) (i : Instr) (tag : Tag), s.pfw = true → i.tag? = some tag → i.refusedByPfw = true →
    (i.desk? = none → s.takesOrders → ∃ c, s.answersNow i tag (.er c) s.hall) ∧
    (∀ d, i.desk? = some d → s.takesRequests d → ∃ c, s.deskAnswersNow d i tag (.er c) s.hall)) ∧
  (∀ (s : State) (tag : Tag), s.pfw = true → s.takesOrders →
    let refused (i : Instr) : Prop := s.answersNow i tag (.er .powerFail) s.hall
    let range (o : Arg (Option Nat)) : Prop := ∀ v, o = .val v → (outputChannel v).isSome = true
    (∀ (c : ChannelId) (a : SetChannelArgs), a.ch = .val c.val → a.malformed = false → refused (.setChannel tag a)) ∧
    (∀ (b : BoothId) (a : SetBoothArgs), a.booth = .val (numOf b) → a.malformed = false → range a.outA → range a.outB →
      refused (.setBooth tag a)) ∧
    (∀ (a : ConsoleId) (b : Option BoothId), refused (.setConsole tag (.val (numOf a)) (.val (b.map numOf)))) ∧
    (∀ (b : BoothId) (l : List ChannelId), (∀ c ∈ l, c ≠ 0) →
      refused (.setRelayList tag (.val (numOf b)) (.val (l.map Fin.val)))) ∧
    (∀ (t : TariffId) (a : SetTariffArgs), a.tar = .val (numOf t) → a.malformed = false → a.isReading = false →
      (a.defined = .val false → a.givesOther = false) → refused (.setTariff tag a)) ∧
    (∀ (w : WindowId) (a : SetFleetArgs), a.win = .val (numOf w) → a.malformed = false → refused (.setFleet tag a)) ∧
    (∀ a : SetHallArgs, a.malformed = false → refused (.setHall tag a)) ∧
    (∀ (m : MeterId) (a : SetMeterArgs), a.met = .val (numOf m) → a.malformed = false →
      (∀ q, a.qual = .val q → (qualifierOf q).isSome = true) → refused (.setMeter tag a)) ∧
    (∀ (k : CentreId) (label : Arg Text), label = .absent ∨ (∃ t, label = .val t ∧ labelForm t = true) →
      refused (.setCentre tag (.val k.val) label)) ∧
    (∀ m ≤ maxCount, refused (.setClock tag (.val m))) ∧
    (∀ d, 1 ≤ d → d ≤ 9999 → refused (.openDay tag (.val d))) ∧
    (∀ k, 1 ≤ k → k ≤ 15 → refused (.openSession tag (.val k))) ∧ refused (.closeDay tag) ∧
    refused (.suspendSession tag) ∧ refused (.resumeSession tag) ∧ refused (.endSession tag) ∧
    (∀ n ≤ maxCount, refused (.declareLost tag (.val n)) ∧ refused (.markFaulty tag (.val n)) ∧
      refused (.markRepaired tag (.val n)) ∧ refused (.removeReceiver tag (.val n)) ∧ refused (.clearDebt tag (.val n))) ∧
    (∀ n ≤ s.hall.account.seq, refused (.releaseSettlements tag (.val n))) ∧
    refused (.restart tag) ∧ refused (.restartHold tag false)) ∧
  (∀ (s : State) (tag : Tag) (d : DeskId), s.pfw = true → s.takesRequests d →
    let refused (i : Instr) : Prop := s.deskAnswersNow d i tag (.er .powerFail) s.hall
    ∀ (ser badge : Serial) (tar : TariffId) (ch : ChannelId) (bat : Nat) (cond : ReturnCond),
      (s.hall.dayOpen = true → refused (.issue d tag ser badge tar ch bat)) ∧ refused (.language d tag ser ch) ∧
      refused (.returnRcv d tag ser cond bat))

/-! ### Readings -/

/-- The readings without an argument, and those of one numbered record, are answered OK at once with what stands, and
change nothing; figures as of now hold the open spell of their kind (R19, R42, R43, R64, R77, R95, R96, R118, R121,
R145, R146, R156, R167, R168, R177). -/
def Obligations.ReadingsAnswered : Prop :=
  (∀ (s : State) (tag : Tag), s.takesOrders →
    let h := s.hall
    let reads (i : Instr) (r : Reply) : Prop := s.answersNow i tag (.ok r []) h
    reads (.readEmitters tag) (.emitters ⟨h.link.slots, h.dark, h.link.sentGen⟩) ∧
    reads (.readCentres tag) (.centres h.settings.labels h.account.balances h.account.day.total) ∧
    reads (.readStatus tag) (.status ⟨h.account.day.number, h.account.day.isOpen, h.account.session, h.clock.minute,
      h.clock.stale, s.pfw, h.dark, s.notice.queue.length, h.settings.hall.masked, s.notice.conds, s.notice.log.length,
      h.settings.hall.checksum⟩) ∧
    reads (.readFaults tag) (.faults s.notice.log) ∧
    reads (.readStart tag) (.start ⟨s.start, h.account.day.powerUps, h.clock.stale⟩) ∧
    reads (.readCarriers tag .absent) (.carriers ⟨h.air.carriers, h.air.waiting.map fun c => (c, h.channels[c].demand),
      h.link.generation, h.inUse, h.air.peak, h.settings.hall.margin, h.settings.hall.hold⟩) ∧
    reads (.readReceiver tag .absent .absent) (.fleet ⟨h.fleet.receivers.length, h.fleet.hires.length,
      h.fleet.badges.length, h.account.peakHires, h.account.hireCounter,
      vtab fun w => (h.settings.windows[w].enabled, h.stockCount w, h.lowFired[w])⟩) ∧
    reads (.readDay tag .absent .absent .absent) (.day ⟨h.account.day, h.account.peakHires, h.fleet.hires.length,
      h.account.lastSession, h.account.log.length, h.account.queue.length, h.account.seq⟩) ∧
    reads (.readSessions tag .absent) (.sessions ⟨h.account.session, h.account.lastSession, h.account.log.length⟩)) ∧
  (∀ (s : State) (tag : Tag), s.takesOrders →
    let h := s.hall
    let reads (i : Instr) (r : Reply) : Prop := s.answersNow i tag (.ok r []) h
    (∀ c : ChannelId,
      let outage := asOf h.channels[c].outageSince h.account.channels[c].outage h.now
      let onAir := asOf h.channels[c].servedSince h.account.channels[c].onAir h.now
      let fill := asOf h.channels[c].fillSince h.account.channels[c].fill h.now
      reads (.readChannel tag (.val c.val)) (.channel ⟨h.settings.channels[c], h.channels[c].service,
        h.channels[c].feeder, h.carrierView c, h.channels[c].servedSince.isSome, h.channels[c].outageSince.isSome,
        h.channels[c].demand, h.channels[c].peak, outage, onAir, fill, h.waitLists[c]⟩) ∧
      reads (.readDay tag (.val c.val) .absent .absent)
        (.dayChannel h.settings.channels[c].label h.settings.channels[c].code outage onAir fill)) ∧
    (∀ b : BoothId,
      reads (.readBooth tag (.val (numOf b))) (.booth ⟨h.settings.booths[b], h.consolesOf b, h.booths[b].owner,
        h.booths[b].queue, h.account.booths[b].handovers, h.boothLiveMinutes b, h.waitPlace b, h.booths[b].unowned,
        h.incoming b, h.effective b, h.booths[b].fallback,
        asOf h.booths[b].fallbackSince h.account.booths[b].fallback h.now⟩) ∧
      reads (.readDay tag .absent (.val (numOf b)) .absent) (.dayBooth (h.boothLiveMinutes b)
        h.account.booths[b].handovers (asOf h.booths[b].fallbackSince h.account.booths[b].fallback h.now))) ∧
    (∀ a : ConsoleId,
      let live := asOf h.consoles[a].liveSince h.account.consoleLive[a] h.now
      let r := h.consoles[a]
      reads (.readConsole tag (.val (numOf a))) (.console ⟨h.settings.consoleBooth[a], r.state, r.output, r.relaySel,
        r.accepted, r.bad, r.isolation, r.goodStart, live, asOf r.contStart 0 h.now, h.lamps a,
        r.handoverExpiry.map fun t => t - h.tenths, r.nextShift⟩) ∧
      reads (.readDay tag .absent .absent (.val (numOf a))) (.dayConsole h.settings.consoleBooth[a] live)) ∧
    (∀ k : CarrierId, reads (.readCarriers tag (.val k.val)) (.carrier ⟨h.air.carriers[k],
      h.air.carriers[k].channel?.map fun c => h.settings.channels[c].code,
      h.air.carriers[k].expiry?.map fun t => t - h.tenths⟩)) ∧
    (∀ m : MeterId, reads (.readMeter tag (.val (numOf m))) (.meter ⟨h.settings.meters[m], h.meters[m],
      h.meters[m].next.map fun n => n - h.now, h.levels.of h.settings.meters[m].source⟩)) ∧
    (∀ w : WindowId, reads (.readReceiver tag .absent (.val (numOf w)))
      (.window ⟨h.settings.windows[w], h.stockCount w, h.lowFired[w]⟩)) ∧
    (∀ t : TariffId, reads (.setTariffReading tag (.val (numOf t))) (.tariff h.settings.tariffs[t])))

/-- The readings of a record by its key, and QUERY, are answered OK at once with it, or NOT_FOUND, and change nothing
(R111, R118, R143, R146). A reading whose number is out of its range is refused with RANGE and changes nothing (R19,
R42, R43, R95, R118, R121, R143, R145, R146, R156); so is one whose value is malformed or missing where it is
required, as these orders name no SYNTAX (R160, inferred, log entry 13). READ DAY and READ RECEIVER with more than one
of their arguments, malformed or not, are refused with SYNTAX (inferred, log entry 10). Unserved minutes as of now,
and the estimate with them, are none where the outage lies below the snapshot (log entry 45). -/
def Obligations.ReadingsByKeyAndRange : Prop :=
  (∀ (s : State) (tag : Tag), s.takesOrders →
    let h := s.hall
    let gives (i : Instr) (r : Option Reply) : Prop :=
      s.answersNow i tag (match r with | some a => .ok a [] | none => .er .notFound) h
    (∀ n : Serial, gives (.readReceiver tag (.val n.toNat) .absent)
      ((h.receiver n).map fun r => .receiver ⟨r.state, r.window, r.issues, r.battery,
        (r.state.hire?.bind h.hire).map h.estimate⟩)) ∧
    (∀ n, 1 ≤ n → n ≤ 65535 → gives (.readHire tag (.val n)) ((h.hire n).map fun x => .hire ⟨x, h.unservedNow x⟩)) ∧
    (∀ n : Serial, gives (.readBadge tag (.val n.toNat)) ((h.badge n).map fun b => .badge b.hires b.debt)) ∧
    (∀ n, 1 ≤ n → n ≤ 64 → gives (.readSessions tag (.val n)) ((h.account.log[n - 1]?).map .interval)) ∧
    (∀ n, 1 ≤ n → n ≤ 8 → gives (.peekSettlements tag (.val n)) (some (.settlements (h.account.queue.take n))))) ∧
  (∀ (s : State) (d : DeskId) (tag : Tag) (n : Serial), s.takesRequests d →
    let h := s.hall
    s.deskAnswersNow d (.query d tag n) tag
      (match h.receiver n with
        | some r => .ok (.receiver ⟨r.state, r.window, r.issues, r.battery, (r.state.hire?.bind h.hire).map h.estimate⟩) []
        | none => .er .notFound) h) ∧
  (∀ (s : State) (tag : Tag) (n : Nat), s.takesOrders →
    let refused (i : Instr) : Prop := s.answersNow i tag (.er .range) s.hall
    (31 < n → refused (.readChannel tag (.val n)) ∧ refused (.readDay tag (.val n) .absent .absent)) ∧
    (n = 0 ∨ 16 < n → refused (.readBooth tag (.val n)) ∧ refused (.readDay tag .absent (.val n) .absent)) ∧
    (n = 0 ∨ 48 < n → refused (.readConsole tag (.val n)) ∧ refused (.readDay tag .absent .absent (.val n))) ∧
    (15 < n → refused (.readCarriers tag (.val n))) ∧
    (n = 0 ∨ 8 < n → refused (.readMeter tag (.val n)) ∧ refused (.readReceiver tag .absent (.val n)) ∧
      refused (.setTariffReading tag (.val n)) ∧ refused (.peekSettlements tag (.val n))) ∧
    (maxCount < n → refused (.readReceiver tag (.val n) .absent) ∧ refused (.readBadge tag (.val n))) ∧
    (n = 0 ∨ 65535 < n → refused (.readHire tag (.val n))) ∧ (n = 0 ∨ 64 < n → refused (.readSessions tag (.val n)))) ∧
  (∀ (s : State) (tag : Tag), s.takesOrders →
    let refused (i : Instr) : Prop := s.answersNow i tag (.er .range) s.hall
    refused (.readChannel tag .absent) ∧ refused (.readBooth tag .absent) ∧ refused (.readConsole tag .absent) ∧
    refused (.readMeter tag .absent) ∧ refused (.setTariffReading tag .absent) ∧ refused (.peekSettlements tag .absent) ∧
    refused (.readHire tag .absent) ∧ refused (.readBadge tag .absent) ∧
    refused (.readChannel tag .bad) ∧ refused (.readBooth tag .bad) ∧ refused (.readConsole tag .bad) ∧
    refused (.readCarriers tag .bad) ∧ refused (.readMeter tag .bad) ∧ refused (.setTariffReading tag .bad) ∧
    refused (.peekSettlements tag .bad) ∧ refused (.readHire tag .bad) ∧ refused (.readBadge tag .bad) ∧
    refused (.readSessions tag .bad) ∧ refused (.readReceiver tag .bad .absent) ∧
    refused (.readReceiver tag .absent .bad) ∧ refused (.readDay tag .bad .absent .absent) ∧
    refused (.readDay tag .absent .bad .absent) ∧ refused (.readDay tag .absent .absent .bad)) ∧
  ∀ (s : State) (tag : Tag) (x y z : Arg Nat), s.takesOrders → x ≠ .absent → y ≠ .absent →
    let refused (i : Instr) : Prop := s.answersNow i tag (.er .syntaxError) s.hall
    refused (.readReceiver tag x y) ∧ refused (.readDay tag x y z) ∧ refused (.readDay tag x z y) ∧
      refused (.readDay tag z x y)

/-! ### Settings -/

/-- SET CENTRE gives a centre its label, moves nothing else, and is answered OK when SETTINGS has been written; a
label that is too long or not printable is refused with SYNTAX, a centre missing or above 15 with RANGE (R140). SET
FLEET gives a window its settings and sets its low-stock flag without a notice, its answer marking FEE and LOWSTK
where they were clamped; a window missing or not 1 to 8 is refused with RANGE, a malformed value with SYNTAX, a new
base or mask with IN_USE while a receiver record names the window (R97, R99). Which characters are printable is
presumed (log entry 7); that a malformed CENTRE is SYNTAX and a missing one RANGE is inferred (log entry 13); that a
SET CENTRE without LABEL keeps the label and writes SETTINGS, and the order of the marks, are the choices of log
entries 46 and 44. That the SET FLEET answer carries the stock count and the low-stock flag with the settings, all as
they stand when the order is taken, is the choice of log entry 60. -/
def Obligations.SetCentreAndFleet : Prop :=
  (∀ (s : State) (tag : Tag) (centre : Arg Nat) (label : Arg Text), s.takesOrders →
    let refused (c : AnswerCode) : Prop := s.answersNow (.setCentre tag centre label) tag (.er c) s.hall
    (centre.outOf 0 15 → refused .range) ∧ (centre = .bad → refused .syntaxError) ∧
    ∀ k : CentreId, centre = .val k.val →
      (ifElse (label = .bad ∨ ∃ t, label = .val t ∧ labelForm t = false) (refused .syntaxError)
        (s.ready → s.answerWaits (.setCentre tag centre label) tag onlySettings (.ok .plain [])
          { s.hall with settings := { s.hall.settings with labels := vmod s.hall.settings.labels k label.or } }))) ∧
  (∀ (s : State) (tag : Tag) (a : SetFleetArgs), s.takesOrders →
    let refused (c : AnswerCode) : Prop := s.answersNow (.setFleet tag a) tag (.er c) s.hall
    let malformed : Prop := a.en = .bad ∨ a.base = .bad ∨ a.mask = .bad ∨ a.label = .bad ∨ a.fee = .bad ∨ a.lowStk = .bad ∨
      (∃ n, (a.base = .val n ∨ a.mask = .val n) ∧ 4294967295 < n) ∨ ∃ t, a.label = .val t ∧ labelForm t = false
    (a.win.outOf 1 8 → refused .range) ∧ (a.win = .bad → refused .syntaxError) ∧
    ∀ w : WindowId, a.win = .val (numOf w) → malformed → refused .syntaxError) ∧
  (∀ (s : State) (tag : Tag) (w : WindowId) (a : SetFleetArgs), s.ready → a.win = .val (numOf w) → a.malformed = false →
    let old := s.hall.settings.windows[w]
    let new : WindowSettings := ⟨a.en.or old.enabled, serialOr a.base old.base, serialOr a.mask old.mask,
      a.label.or old.label, clampOr 0 99999999 old.fee a.fee, clampOr 0 4096 old.lowStock a.lowStk⟩
    let fired := decide (s.hall.stockCount w < new.lowStock)
    ifElse ((new.base ≠ old.base ∨ new.mask ≠ old.mask) ∧ ∃ r ∈ s.hall.fleet.receivers, r.window = w)
      (s.answersNow (.setFleet tag a) tag (.er .inUse) s.hall) <|
    s.answerWaits (.setFleet tag a) tag onlySettings (.ok (.window ⟨new, s.hall.stockCount w, fired⟩)
        (clamped "FEE" 0 99999999 a.fee ++ clamped "LOWSTK" 0 4096 a.lowStk))
      { s.hall with
        settings := { s.hall.settings with windows := vset s.hall.settings.windows w new }
        lowFired := vset s.hall.lowFired w fired })

/-- SET TARIFF of a CLOSED day (R119, R120): an undefined class takes the defaults of R119 for what is not given,
DEF=NO keeps every other field, numbers are clamped and marked so in the answer, and values the class already holds
are answered without a write. A class missing or not 1 to 8 is refused with RANGE; a malformed value, or DEF=NO with
another setting, with SYNTAX; an OPEN day with FROZEN. That values already held are answered at once is inferred (log
entry 20); the order of the marks is the choice of log entry 44. -/
def Obligations.SetTariff : Prop :=
  (∀ (s : State) (tag : Tag) (a : SetTariffArgs), s.takesOrders → a.isReading = false →
    let refused (c : AnswerCode) : Prop := s.answersNow (.setTariff tag a) tag (.er c) s.hall
    let malformed : Prop := a.defined = .bad ∨ a.base = .bad ∨ a.len = .bad ∨ a.rate = .bad ∨ a.grace = .bad ∨ a.cap = .bad ∨
      a.limit = .bad ∨ a.odfee = .bad ∨ a.dep = .bad ∨ a.credit = .bad
    (a.tar.outOf 1 8 → refused .range) ∧ (a.tar = .bad → refused .syntaxError) ∧
    ∀ t : TariffId, a.tar = .val (numOf t) →
      malformed ∨ (a.defined = .val false ∧ a.givesOther = true) → refused .syntaxError) ∧
  ∀ (s : State) (tag : Tag) (t : TariffId) (a : SetTariffArgs), s.ready → a.tar = .val (numOf t) → a.malformed = false →
    a.isReading = false → (a.defined = .val false → a.givesOther = false) →
    let old := s.hall.settings.tariffs[t]
    let r := if old.defined then old else ⟨false, 0, 60, 0, 0, 0, 0, 0, 0, false⟩
    let money := clampOr 0 99999999
    let new : Tariff :=
      if a.defined = .val false then { old with defined := false }
      else ⟨true, money r.base a.base, clampOr 1 1440 r.len a.len, money r.rate a.rate, clampOr 0 240 r.grace a.grace,
        money r.cap a.cap, clampOr 0 10080 r.limit a.limit, money r.odfee a.odfee, money r.deposit a.dep,
        a.credit.or r.credit⟩
    let cents (name : String) := clamped name 0 99999999
    let marks := cents "BASE" a.base ++ clamped "LEN" 1 1440 a.len ++ cents "RATE" a.rate ++ clamped "GRACE" 0 240 a.grace ++
      cents "CAP" a.cap ++ clamped "LIMIT" 0 10080 a.limit ++ cents "ODFEE" a.odfee ++ cents "DEP" a.dep
    ifElse (s.hall.dayOpen = true) (s.answersNow (.setTariff tag a) tag (.er .frozen) s.hall) <|
    ifElse (new = old) (s.answersNow (.setTariff tag a) tag (.ok (.tariff old) marks) s.hall) <|
    s.answerWaits (.setTariff tag a) tag onlySettings (.ok (.tariff new) marks)
      { s.hall with settings := { s.hall.settings with tariffs := vset s.hall.settings.tariffs t new } }

/-- SET HALL gives the hall settings clamped, the clamped ones marked in the answer, MASK replacing the whole set of
masked classes; a change of the eviction margin lets the carrier allocator report, and nothing else moves. A malformed
value is refused with SYNTAX, BADGELIM with FROZEN while the day is OPEN (R79, R161). The order of the marks is the
choice of log entry 44. The order of the masked classes is that of log entry 59. -/
def Obligations.SetHall : Prop :=
  (∀ (s : State) (tag : Tag) (a : SetHallArgs), s.takesOrders →
    let badMask (l : List MaskWord) : Prop :=
      l = [] ∨ .other ∈ l ∨ ¬ l.Nodup ∨ (.noneWord ∈ l ∧ ∃ c, MaskWord.cls c ∈ l)
    a.emargin = .bad ∨ a.chold = .bad ∨ a.badgeLim = .bad ∨ a.minBat = .bad ∨ a.chkReq = .bad ∨ a.mask = .bad ∨
      (∃ d, a.chold = .val d ∧ 1 < d.places.length) ∨ (∃ l, a.mask = .val l ∧ badMask l) →
    s.answersNow (.setHall tag a) tag (.er .syntaxError) s.hall) ∧
  ∀ (s : State) (tag : Tag) (a : SetHallArgs), s.ready → a.malformed = false →
    let old := s.hall.settings.hall
    let new := a.apply old
    let plain := { s.hall with settings := { s.hall.settings with hall := new } }
    let marks := clamped "EMARGIN" 0 255 a.emargin ++ clampedTenths "CHOLD" 0 600 a.chold ++
      clamped "BADGELIM" 1 4 a.badgeLim ++ clamped "MINBAT" 0 100 a.minBat
    ifElse (a.badgeLim ≠ .absent ∧ s.hall.dayOpen = true)
      (s.answersNow (.setHall tag a) tag (.er .frozen) s.hall) <|
      new.margin = clampOr 0 255 old.margin a.emargin ∧ new.hold = tenthsOr 0 600 old.hold a.chold ∧
      new.badgeLimit = clampOr 1 4 old.badgeLimit a.badgeLim ∧ new.minBattery = clampOr 0 100 old.minBattery a.minBat ∧
      new.checksum = a.chkReq.or old.checksum ∧ (a.mask = .absent → new.masked = old.masked) ∧
      (∀ l, a.mask = .val l → ∀ c, c ∈ new.masked ↔ MaskWord.cls c ∈ l) ∧
      ∃ h, s.answerWaits (.setHall tag a) tag onlySettings (.ok (.hall new) marks) h ∧ plain.Kept h ∧
        (new.margin = old.margin → h = plain)

/-- SET METER clears the meter's running state, its window beginning now, and its answer carries the count before it
and the marks of WIN, THR and PRESET where they were clamped. A meter missing or not 1 to 8, or a qualifier's number
out of its range, is refused with RANGE, a malformed value with SYNTAX, a qualifier the source does not carry with
STATE, a level source with threshold 0 with RANGE (R149, R153). The order of the marks is the choice of log entry 44.
A minute set past 4,294,967,295 stands as its sum (log entry 50). -/
def Obligations.SetMeter : Prop :=
  (∀ (s : State) (tag : Tag) (a : SetMeterArgs), s.takesOrders →
    let refused (c : AnswerCode) : Prop := s.answersNow (.setMeter tag a) tag (.er c) s.hall
    let qualOut : Prop := ∃ n, (a.qual = .val (.booth n) ∧ (n = 0 ∨ 16 < n)) ∨ (a.qual = .val (.desk n) ∧ (n = 0 ∨ 4 < n)) ∨
      (a.qual = .val (.channel n) ∧ 31 < n) ∨ (a.qual = .val (.tariff n) ∧ (n = 0 ∨ 8 < n))
    ifElse (a.met.outOf 1 8 ∨ qualOut) (refused .range) <|
      (a.met = .bad ∨ a.en = .bad ∨ a.src = .bad ∨ a.qual = .bad ∨ a.win = .bad ∨ a.thr = .bad ∨ a.inv = .bad ∨
        a.edge = .bad ∨ a.preset = .bad ∨ a.day = .bad → refused .syntaxError)) ∧
  ∀ (s : State) (tag : Tag) (m : MeterId) (a : SetMeterArgs), s.ready → a.met = .val (numOf m) → a.malformed = false →
    (∀ q, a.qual = .val q → (qualifierOf q).isSome = true) →
    let old := s.hall.settings.meters[m]
    let new : MeterSettings := ⟨a.en.or old.enabled, a.src.or old.source,
      (a.qual.val?.bind qualifierOf).getD old.qualifier, clampOr 1 60 old.window a.win, clampOr 0 255 old.threshold a.thr,
      a.inv.or old.invert, a.edge.or old.edge, clampOr 0 4294967295 old.preset a.preset, a.day.or old.day⟩
    ifElse (new.source.carries new.qualifier = false) (s.answersNow (.setMeter tag a) tag (.er .state) s.hall) <|
    ifElse (new.source.isLevel = true ∧ new.threshold = 0) (s.answersNow (.setMeter tag a) tag (.er .range) s.hall) <|
      s.answerWaits (.setMeter tag a) tag onlySettings (.ok (.was s.hall.meters[m].count)
          (clamped "WIN" 1 60 a.win ++ clamped "THR" 0 255 a.thr ++ clamped "PRESET" 0 4294967295 a.preset))
        { s.hall with
          settings := { s.hall.settings with meters := vset s.hall.settings.meters m new }
          meters := vset s.hall.meters m ⟨0, (s.hall.levels.of new.source).getD 0, false, false, false,
            if new.enabled = true ∧ 0 < new.threshold then some (s.hall.now + new.window) else none⟩ }

/-- SET CONSOLE moves a console between booths as R25 and R26 give: an address missing or not 1 to 48, or a booth
missing or not 1 to 16, is refused with RANGE, a malformed value with SYNTAX; refused with STATE while it speaks,
waits or is QUARANTINED and with FULL at a booth of three others; its present booth is answered at once; an IDLE
console stays IDLE with its counts, one ABSENT or in FAULT is admitted by probes, one taken off its booth loses all
but its live minutes. That the present booth is answered at once is inferred (log entry 20). -/
def Obligations.SetConsole : Prop :=
  (∀ (s : State) (tag : Tag) (addr : Arg Nat) (booth : Arg (Option Nat)), s.takesOrders →
    let refused (c : AnswerCode) : Prop := s.answersNow (.setConsole tag addr booth) tag (.er c) s.hall
    ifElse (addr.outOf 1 48 ∨ booth = .absent ∨ ∃ n, booth = .val (some n) ∧ (n = 0 ∨ 16 < n)) (refused .range) <|
      (addr = .bad ∨ booth = .bad → refused .syntaxError)) ∧
  ∀ (s : State) (tag : Tag) (a : ConsoleId) (b : Option BoothId), s.ready →
    let h := s.hall
    let i : Instr := .setConsole tag (.val (numOf a)) (.val (b.map numOf))
    let r := h.consoles[a]
    let run : ConsoleRun :=
      match b, r.state with
      | none, _ => ConsoleRun.blank
      | some _, .idle => { r with output := .a, relaySel := none }
      | some _, _ =>
        { r with state := .fault, output := .a, relaySel := none, good := 0, probeTimer := none, probeDue := true }
    let current := h.bus.current.map fun x => if x.console = a ∧ x.kind = .probe then { x with void := true } else x
    ifElse (r.state = .live ∨ r.state = .muted ∨ r.state = .requesting ∨ r.state = .quarantined)
      (s.answersNow i tag (.er .state) h) <|
    ifElse (∃ x, b = some x ∧ 3 ≤ ((h.consolesOf x).filter fun y => y != a).length) (s.answersNow i tag (.er .full) h) <|
    ifElse (h.settings.consoleBooth[a] = b) (s.answersNow i tag (.ok .plain []) h) <|
    s.answerWaits i tag onlySettings (.ok .plain [])
      { h with
        settings := { h.settings with consoleBooth := vset h.settings.consoleBooth a b }
        consoles := vset h.consoles a run
        bus := { h.bus with current := current } }

/-- SET RELAY LIST replaces a booth's list; selections and an unowned source that name a channel no longer listed
become FLOOR, and nothing else of the interlock moves. The tests stand in the order of R71: a booth missing or not 1
to 16, or a listed channel not 1 to 31 (RANGE), a list missing or a value malformed (SYNTAX), and so on, the relay
graph last. That the list already held is answered at once is inferred (log entry 20). The relay graph check gives
LOOP exactly where some path leads from a booth back to itself, DEPTH exactly where none does and some path has 4
edges, and passes otherwise (R69). -/
def Obligations.RelayListAndGraph : Prop :=
  (∀ (s : State) (tag : Tag) (booth : Arg Nat) (list : Arg (List Nat)), s.takesOrders →
    let refused (c : AnswerCode) : Prop := s.answersNow (.setRelayList tag booth list) tag (.er c) s.hall
    ifElse (booth.outOf 1 16 ∨ ∃ l, list = .val l ∧ ∃ n ∈ l, n = 0 ∨ 31 < n) (refused .range) <|
      (booth = .bad ∨ list = .absent ∨ list = .bad → refused .syntaxError)) ∧
  (∀ (s : State) (tag : Tag) (b : BoothId) (l : List ChannelId), s.ready → (∀ c ∈ l, c ≠ 0) →
    let h := s.hall
    let i : Instr := .setRelayList tag (.val (numOf b)) (.val (l.map Fin.val))
    let booths := vmod h.settings.booths b fun r => { r with relayList := l }
    let keep (c : Option ChannelId) : Option ChannelId := c.filter fun c => l.contains c
    ifElse (4 < l.length) (s.answersNow i tag (.er .full) h) <|
    ifElse (¬ l.Nodup) (s.answersNow i tag (.er .duplicate) h) <|
    ifElse (∃ c ∈ l, h.settings.channels[c].enabled = false) (s.answersNow i tag (.er .state) h) <|
      match relayCheck booths with
      | some c => s.answersNow i tag (.er c) h
      | none =>
        ifElse (h.settings.booths[b].relayList = l) (s.answersNow i tag (.ok .plain []) h) <|
        ∃ k, s.answerWaits i tag onlySettings (.ok .plain []) k ∧
          Hall.Kept
            { h with
              settings := { h.settings with booths := booths }
              consoles := vtab fun a =>
                if h.settings.consoleBooth[a] = some b then
                  { h.consoles[a] with relaySel := keep h.consoles[a].relaySel }
                else h.consoles[a]
              booths := vmod h.booths b fun r => { r with unowned := keep r.unowned } } k) ∧
  (∀ bs : Vector BoothSettings 16,
    let loop := ∃ (k : Nat) (b : BoothId), 0 < k ∧ relayPath bs k b b
    let deep := ∃ (k : Nat) (x y : BoothId), 4 ≤ k ∧ relayPath bs k x y
    (relayCheck bs = some .loop ↔ loop) ∧ (relayCheck bs = some .depth ↔ ¬ loop ∧ deep) ∧
      (relayCheck bs = none ↔ ¬ loop ∧ ¬ deep))

/-- SET BOOTH: its tests in the order of R21, each with its answer, a booth missing or not 1 to 16 or an output out of
range (RANGE) and a malformed value (SYNTAX) first; where none fails, the settings given, numbers clamped and marked
so in the answer, and where the booth is not made DISABLED nothing of the interlock moves; a booth made DISABLED keeps
neither owner nor queue (R21, R22, R62). The order of the marks is the choice of log entry 44. -/
def Obligations.SetBooth : Prop :=
  (∀ (s : State) (tag : Tag) (a : SetBoothArgs), s.takesOrders →
    let refused (c : AnswerCode) : Prop := s.answersNow (.setBooth tag a) tag (.er c) s.hall
    ifElse (a.booth.outOf 1 16 ∨ ∃ n, (a.outA = .val (some n) ∨ a.outB = .val (some n)) ∧ (n = 0 ∨ 31 < n))
      (refused .range) <|
      (a.booth = .bad ∨ a.en = .bad ∨ a.outA = .bad ∨ a.outB = .bad ∨ a.mode = .bad ∨ a.hto = .bad ∨ a.shift1 = .bad ∨
        a.shiftR = .bad ∨ (∃ d, a.hto = .val d ∧ 1 < d.places.length) → refused .syntaxError)) ∧
  ∀ (s : State) (tag : Tag) (b : BoothId) (a : SetBoothArgs), s.ready → a.booth = .val (numOf b) → a.malformed = false →
    (∀ o, a.outA = .val o ∨ a.outB = .val o → (outputChannel o).isSome = true) →
    let h := s.hall
    let old := h.settings.booths[b]
    let output (x : Arg (Option Nat)) (o : Option ChannelId) : Option ChannelId :=
      (x.val?.bind outputChannel).getD o
    let new : BoothSettings := ⟨a.en.or old.enabled, output a.outA old.outA, output a.outB old.outB, a.mode.or old.mode,
      tenthsOr 20 600 old.timeout a.hto, clampOr 1 90 old.shift1 a.shift1, clampOr 0 30 old.shiftR a.shiftR,
      old.relayList⟩
    let refused (c : AnswerCode) : Prop := s.answersNow (.setBooth tag a) tag (.er c) h
    let disabled (o : Option ChannelId) : Prop := ∃ c, o = some c ∧ h.settings.channels[c].enabled = false
    let crowded (o : Option ChannelId) : Prop :=
      ∃ c, o = some c ∧ 4 ≤ ((ids 16).filter fun x => x != b && h.settings.booths[x].names c).length
    let changed := new.outA ≠ old.outA ∨ new.outB ≠ old.outB
    let plain := { h with settings := { h.settings with booths := vset h.settings.booths b new } }
    ifElse (changed ∧ h.booths[b].owner ≠ none) (refused .state) <|
    ifElse (disabled new.outA ∨ disabled new.outB) (refused .state) <|
    ifElse (new.outA = new.outB ∧ new.outA ≠ none) (refused .duplicate) <|
    ifElse (crowded new.outA ∨ crowded new.outB) (refused .full) <|
    ifElse (changed ∧ relayCheck plain.settings.booths ≠ none)
      (∀ c, relayCheck plain.settings.booths = some c → refused c) <|
    ∃ k, s.answerWaits (.setBooth tag a) tag onlySettings (.ok .plain (clampedTenths "HTO" 20 600 a.hto ++
        clamped "SHIFT1" 1 90 a.shift1 ++ clamped "SHIFTR" 0 30 a.shiftR)) k ∧
      ifElse (old.enabled = true ∧ new.enabled = false)
        (k.settings = plain.settings ∧ k.booths[b].owner = none ∧ k.booths[b].queue = [] ∧ k.fleet = h.fleet ∧
          k.clock = h.clock ∧ k.account.log = h.account.log ∧ k.account.queue = h.account.queue)
        (plain.Kept k)

/-- SET CHANNEL's tests in the order of R2, each with its answer: a channel missing or above 31, a malformed value, the
power-fail warning, and then the tests of the record as it would stand. Which characters of a label are printable is
presumed (log entry 7). -/
def Obligations.SetChannelTests : Prop :=
  ∀ (s : State) (tag : Tag) (a : SetChannelArgs), s.takesOrders →
    let h := s.hall
    let refused (x : AnswerCode) : Prop := s.answersNow (.setChannel tag a) tag (.er x) h
    (a.ch = .absent ∨ (∃ n, a.ch = .val n ∧ 31 < n) → refused .range) ∧ (a.ch = .bad → refused .syntaxError) ∧
    ∀ c : ChannelId, a.ch = .val c.val →
      let old := h.settings.channels[c]
      let enabled := if c = 0 then old.enabled else a.en.or old.enabled
      let code := a.code.or old.code
      (ifElse (a.malformed = true) (refused .syntaxError) <|
      ifElse (s.pfw = true) (refused .powerFail) <|
      ifElse (c = 0 ∧ (a.en = .val false ∨ a.pin = .val false ∨ a.fill = .val true)) (refused .state) <|
      ifElse (enabled = true ∧ code = []) (refused .state) <|
      ifElse (enabled = true ∧ ∃ d : ChannelId, d ≠ c ∧ h.settings.channels[d].enabled = true ∧
          h.settings.channels[d].code = code) (refused .duplicate) <|
      ifElse (c ≠ 0 ∧ a.pin = .val true ∧
          3 ≤ ((ids 32).filter fun d => d != 0 && d != c && h.settings.channels[d].pinned).length) (refused .full) <|
      ifElse (a.en = .val false ∧
          ∃ b : BoothId, h.settings.booths[b].names c = true ∨ c ∈ h.settings.booths[b].relayList) (refused .inUse) <|
        (a.en = .val false → 0 < h.channels[c].demand → a.force ≠ .val () → refused .inUse))

/-- An accepted SET CHANNEL that does not disable an ENABLED channel: the settings given, and the service state the
first test of R10 that holds gives; the hires, the interlock and the demand stand (R2 to R4, R7 to R10). Which areas the
write names is inferred (log entry 25). -/
def Obligations.SetChannel : Prop :=
  ∀ (s : State) (tag : Tag) (c : ChannelId) (a : SetChannelArgs), s.ready → a.ch = .val c.val → a.malformed = false →
    firstFailing (channelTests false s.hall c a) = none →
    let h := s.hall
    let old := h.settings.channels[c]
    let new : ChannelSettings := ⟨if c = 0 then old.enabled else a.en.or old.enabled, a.code.or old.code,
      a.label.or old.label, if c = 0 then old.fill else a.fill.or old.fill, if c = 0 then old.pinned else a.pin.or old.pinned⟩
    (old.enabled = true → new.enabled = true) →
    let plain := { h with settings := { h.settings with channels := vset h.settings.channels c new } }
    ∃ areas k, s.answerWaits (.setChannel tag a) tag areas
        (.ok (if a.en = .val false then .moved 0 else .plain) []) k ∧
      onlySettings.subset areas = true ∧ plain.Kept k ∧
      k.channels[c].service =
        if c = 0 then .live
        else if new.enabled = false then .off
        else if h.channels[c].feeder ≠ none then .live
        else if new.fill then .fill
        else .silent

/-- An accepted disable of an ENABLED channel first moves every hire preset to it onto channel 0, which the answer
counts: its unserved minutes grow by the channel's outage since its snapshot, its snapshot becomes channel 0's outage,
its stale flag is set while the clock is stale, and its demand is carried over; the other hires stand. The channel is
left OFF, its spells ended with their minutes counted, without a carrier and off the wait list (R6, R7, R13). That one
write names all areas is inferred (log entry 25). That an outage below the snapshot counts as no minutes is the choice
of log entry 45. -/
def Obligations.DisableChannel : Prop :=
  ∀ (s : State) (tag : Tag) (c : ChannelId) (a : SetChannelArgs), s.ready → a.ch = .val c.val → a.malformed = false →
    firstFailing (channelTests false s.hall c a) = none → s.hall.settings.channels[c].enabled = true →
    a.en = .val false →
    let h := s.hall
    let moved := (h.fleet.hires.filter fun x => x.preset == c).length
    let bounded (d : ChannelId) : Prop := h.account.channels[d].outage ≤ 4294967295
    ∃ areas k, s.answerWaits (.setChannel tag a) tag areas (.ok (.moved moved) []) k ∧
      onlySettings.subset areas = true ∧ (0 < moved → fleetAccount.subset areas = true) ∧
      k.settings.channels[c].enabled = false ∧ k.channels[c].service = .off ∧
      (∀ x ∈ k.fleet.hires, x.preset ≠ c) ∧ k.channels[c].demand = h.channels[c].demand - moved ∧
      k.channels[(0 : ChannelId)].demand = h.channels[(0 : ChannelId)].demand + moved ∧
      k.fleet.receivers = h.fleet.receivers ∧ k.fleet.badges = h.fleet.badges ∧
      (∀ b : BoothId, k.booths[b].owner = h.booths[b].owner ∧ k.booths[b].queue = h.booths[b].queue) ∧
      (h.fleet.ordered → bounded c → bounded 0 → ∀ n, k.hire n = (h.hire n).map fun x =>
        if x.preset = c then
          { x with
            unserved := min (x.unserved + (h.outage c - x.snapshot)) 4294967295
            snapshot := h.outage 0
            preset := 0
            stale := x.stale || h.clock.stale }
        else x) ∧
      (bounded c → h.account.channels[c].onAir ≤ 4294967295 → h.account.channels[c].fill ≤ 4294967295 →
        k.channels[c].outageSince = none ∧ k.channels[c].servedSince = none ∧ k.channels[c].fillSince = none ∧
        k.account.channels[c] = ⟨h.outage c, h.onAirMinutes c, h.fillMinutes c⟩) ∧
      (h.AirLawful → h.channels[c].service = h.serviceOf c →
        c ∉ k.air.waiting ∧ ∀ j : CarrierId, k.air.carriers[j].channel? ≠ some c)

/-! ### The clock -/

/-- SET CLOCK sets the minute, ends the stale state and starts the minute afresh; no figure as of now of a channel, a
console or a booth changes by it: the starts of the open spells stand at the new minute, a console's continuous-live
and good-run stamps, its reminder and good-run expiry, and the meters' next closes move with the clock. A MIN equal to
the present one moves nothing, and a forward move makes every hire whose due minute it reaches OVERDUE. A minute
missing, malformed or above 4,294,967,295 is refused with SYNTAX, one behind the present one with BACKWARD while a
hire is open or the log holds an interval (R17, R36, R39, R75, R112, R155, R173). That a MIN equal to the present one
starts the minute afresh is inferred (log entry 30). A minute set past 4,294,967,295 stands as its sum (log entry 50).
-/
def Obligations.SetClock : Prop :=
  (∀ (s : State) (tag : Tag) (min : Arg Nat), s.takesOrders → min = .bad ∨ min.outOf 0 4294967295 →
    s.answersNow (.setClock tag min) tag (.er .syntaxError) s.hall) ∧
  ∀ (s : State) (tag : Tag) (m : Nat), s.ready → m ≤ maxCount →
    let h := s.hall
    let i : Instr := .setClock tag (.val m)
    ifElse (m < h.clock.minute ∧ (h.fleet.hires ≠ [] ∨ h.account.log ≠ [])) (s.answersNow i tag (.er .backward) h) <|
    ∃ k, s.answerWaits i tag onlyClock (.ok (.clock m) []) k ∧ k.clock = ⟨m, false, h.clock.ticks, h.clock.ticks⟩ ∧
      k.settings = h.settings ∧ k.account.log = h.account.log ∧ k.account.queue = h.account.queue ∧
      (m = h.clock.minute → k = { h with clock := k.clock }) ∧
      (∀ c : ChannelId, k.outage c = h.outage c ∧ k.onAirMinutes c = h.onAirMinutes c ∧
        k.fillMinutes c = h.fillMinutes c ∧ k.channels[c].feeder = h.channels[c].feeder) ∧
      (∀ a : ConsoleId, k.consoles[a].state = h.consoles[a].state ∧ k.consoleLiveMinutes a = h.consoleLiveMinutes a) ∧
      (∀ b : BoothId, k.boothLiveMinutes b = h.boothLiveMinutes b ∧ k.fallbackMinutes b = h.fallbackMinutes b) ∧
      (m ≠ h.clock.minute →
        let present (x : Option Nat) : Option Nat := x.map fun _ => m
        let moved (x : Option Nat) : Option Nat := x.map (moveStamp h.clock.minute m)
        (∀ c : ChannelId, k.channels[c] = { h.channels[c] with
          outageSince := present h.channels[c].outageSince
          servedSince := present h.channels[c].servedSince
          fillSince := present h.channels[c].fillSince }) ∧
        (∀ a : ConsoleId, k.consoles[a] = { h.consoles[a] with
          liveSince := present h.consoles[a].liveSince
          contStart := moved h.consoles[a].contStart
          nextShift := moved h.consoles[a].nextShift
          goodStart := moved h.consoles[a].goodStart
          goodExpiry := moved h.consoles[a].goodExpiry }) ∧
        (∀ b : BoothId, k.booths[b] = { h.booths[b] with fallbackSince := present h.booths[b].fallbackSince }) ∧
        ∀ i : MeterId, k.meters[i].next = moved h.meters[i].next) ∧
      (h.fleet.ordered → h.clock.minute < m → ∀ x ∈ k.fleet.hires, ∀ d, x.due = some d → d ≤ m → x.overdue = true)

/-! ### The day and its sessions -/

/-- OPEN DAY opens a day of a later number, clears the account's day figures, and begins the spells of the new day:
fill of the channels in FILL, live of the consoles on a channel, fallback of the booths in fallback; the settlement
queue and its counter stand. It is refused with RANGE for a number missing or not 1 to 9,999, with SYNTAX for a
malformed one, with STATE while a day is OPEN and with BACKWARD for a number not above the last, unless that was 9999
(R18, R38, R74, R135, R154). A channel's spell that stood while the day was CLOSED, which no rule lets begin, ends or
goes on as R12 and R14 give. -/
def Obligations.OpenDay : Prop :=
  (∀ (s : State) (tag : Tag) (day : Arg Nat), s.takesOrders →
    (day.outOf 1 9999 → s.answersNow (.openDay tag day) tag (.er .range) s.hall) ∧
    (day = .bad → s.answersNow (.openDay tag day) tag (.er .syntaxError) s.hall)) ∧
  ∀ (s : State) (tag : Tag) (d : Nat), s.ready → 1 ≤ d → d ≤ 9999 →
    let h := s.hall
    let i : Instr := .openDay tag (.val d)
    let a := h.account
    let fills (c : ChannelId) : Bool := c != 0 && h.settings.channels[c].enabled && h.channels[c].service == .fill
    ifElse (a.day.isOpen = true) (s.answersNow i tag (.er .state) h) <|
    ifElse (d ≤ a.day.number ∧ a.day.number ≠ 9999) (s.answersNow i tag (.er .backward) h) <|
    ∃ k, s.answerWaits i tag onlyAccount (.ok .plain []) k ∧
      k.account = ⟨⟨true, d, 0, 0, 0, 0⟩, .none, 0, [], Vector.replicate 16 0,
        vtab fun c => ⟨asOf h.channels[c].outageSince 0 h.now, asOf h.channels[c].servedSince 0 h.now,
          if fills c then 0 else asOf h.channels[c].fillSince 0 h.now⟩,
        Vector.replicate 16 ⟨0, 0, 0⟩, Vector.replicate 48 0, a.queue, a.seq, 0, h.fleet.hires.length⟩ ∧
      k.settings = h.settings ∧ k.fleet = h.fleet ∧ k.clock = h.clock ∧ k.air = h.air ∧
      (∀ c : ChannelId, k.channels[c] = { h.channels[c] with
        outageSince := none
        servedSince := none
        fillSince := if fills c then some (h.channels[c].fillSince.getD h.now) else none }) ∧
      (∀ x : ConsoleId, k.consoles[x] = if h.consoles[x].state.onChannel = true then
        { h.consoles[x] with liveSince := some h.now } else h.consoles[x]) ∧
      (∀ b : BoothId, k.booths[b] = if h.booths[b].fallback ≠ none then
        { h.booths[b] with fallbackSince := some h.now } else h.booths[b]) ∧
      (∀ m : MeterId, k.meters[m].count = if h.settings.meters[m].day then 0 else h.meters[m].count)

/-- CLOSE DAY ends every fill, live and fallback spell, adding its minutes to the channel, to the console and its
booth, or to the booth, and leaves the balances, the settlement queue and the log; it is refused with STATE while the
day is CLOSED, with SESSION_OPEN while a session is on and with OPEN_HIRES while a hire is open (R38, R74, R136). -/
def Obligations.CloseDay : Prop :=
  ∀ (s : State) (tag : Tag), s.ready →
    let h := s.hall
    let a := h.account
    ifElse (a.day.isOpen = false) (s.answersNow (.closeDay tag) tag (.er .state) h) <|
    ifElse (a.session ≠ .none) (s.answersNow (.closeDay tag) tag (.er .sessionOpen) h) <|
    ifElse (h.fleet.hires ≠ []) (s.answersNow (.closeDay tag) tag (.er .openHires) h) <|
    ∃ k, s.answerWaits (.closeDay tag) tag onlyAccount (.ok .plain []) k ∧
      k.account.day = { a.day with isOpen := false } ∧ k.account.session = .none ∧ k.account.log = a.log ∧
      k.account.balances = a.balances ∧ k.account.queue = a.queue ∧ k.account.seq = a.seq ∧
      k.settings = h.settings ∧ k.fleet = h.fleet ∧ k.clock = h.clock ∧ k.air = h.air ∧
      (∀ c : ChannelId, k.channels[c].fillSince = none ∧ k.account.channels[c].fill = h.fillMinutes c) ∧
      (∀ x : ConsoleId, k.consoles[x] = { h.consoles[x] with liveSince := none } ∧
        k.account.consoleLive[x] = h.consoleLiveMinutes x) ∧
      (∀ b : BoothId, k.booths[b].fallbackSince = none ∧ k.account.booths[b] =
          { a.booths[b] with live := h.boothLiveMinutes b, fallback := h.fallbackMinutes b } ∧
        k.booths[b].owner = h.booths[b].owner)

/-- The four session orders: OPEN SESSION starts an interval of the next session number, clears the peaks and bills the
centre it names; SUSPEND ends the open interval, RESUME begins another of the same session, END ends the session. Each
re-evaluates every channel, whose ended spells add their minutes, and each is refused in a state that does not take it
(R10 to R12, R16, R93, R137, R138). -/
def Obligations.SessionOrders : Prop :=
  ∀ (s : State) (tag : Tag), s.ready →
    let h := s.hall
    let a := h.account
    let now := h.clock.minute
    let ended := a.log.map fun v => if v.finish = none then { v with finish := some now } else v
    let refused (i : Instr) (c : AnswerCode) : Prop := s.answersNow i tag (.er c) h
    let moves (i : Instr) (r : Reply) (v : Session) (log : List Interval) (last : Nat) (peaks : Bool) : Prop :=
      ∃ k, s.answerWaits i tag onlyAccount (.ok r []) k ∧ k.account.session = v ∧ k.account.log = log ∧
        k.account.lastSession = last ∧ k.account.day = a.day ∧ k.account.balances = a.balances ∧
        k.account.queue = a.queue ∧ k.settings = h.settings ∧ k.fleet = h.fleet ∧ k.clock = h.clock ∧
        k.consoles = h.consoles ∧ k.booths = h.booths ∧ k.air.carriers = h.air.carriers ∧
        k.air.waiting = h.air.waiting ∧ k.air.peak = (if peaks then h.inUse else h.air.peak) ∧
        ∀ c : ChannelId,
          let x := h.channels[c]
          let y := a.channels[c]
          k.channels[c].servedSince = (if k.serves c then some (x.servedSince.getD now) else none) ∧
          k.channels[c].outageSince = (if k.lacks c then some (x.outageSince.getD now) else none) ∧
          k.account.channels[c].onAir = (if k.serves c then y.onAir else h.onAirMinutes c) ∧
          k.account.channels[c].outage = (if k.lacks c then y.outage else h.outage c) ∧
          k.channels[c].demand = h.channels[c].demand ∧ k.channels[c].service = h.channels[c].service ∧
          k.channels[c].peak = if peaks then h.channels[c].demand else h.channels[c].peak
    (∀ c : CentreId, c ≠ 0 →
      let i : Instr := .openSession tag (.val c.val)
      ifElse (a.day.isOpen = false ∨ a.session ≠ Session.none) (refused i .state) <|
      ifElse (64 ≤ a.log.length) (refused i .full) <|
      moves i (.session (a.lastSession + 1)) (.running (a.lastSession + 1) c)
        (a.log ++ [⟨a.lastSession + 1, c, now, none⟩]) (a.lastSession + 1) true) ∧
    (∀ x : Arg Nat, (x.outOf 1 15 → refused (.openSession tag x) .range) ∧
      (x = .bad → refused (.openSession tag x) .syntaxError)) ∧
    match a.session with
    | .none =>
      refused (.suspendSession tag) .state ∧ refused (.resumeSession tag) .state ∧ refused (.endSession tag) .state
    | .running n c =>
      moves (.suspendSession tag) .plain (.suspended n c) ended a.lastSession false ∧
      refused (.resumeSession tag) .state ∧ moves (.endSession tag) .plain .none ended a.lastSession false
    | .suspended n c =>
      refused (.suspendSession tag) .state ∧
      ifElse (64 ≤ a.log.length) (refused (.resumeSession tag) .full)
        (moves (.resumeSession tag) .plain (.running n c) (a.log ++ [⟨n, c, now, none⟩]) a.lastSession false) ∧
      moves (.endSession tag) .plain .none ended a.lastSession false

/-- RELEASE SETTLEMENTS, its tests in order: a SEQ missing or malformed (SYNTAX), one above the counter (RANGE), the
power-fail warning (POWER_FAIL). An accepted order removes every queued record numbered at most SEQ, which are those
at the head of a queue in sequence order, the others keeping their order; where it removes none it is answered COUNT=0
at once without a write, and otherwise COUNT and LEFT when ACCOUNT has been written. A queue below 256 records is no
cause of SETTLE_OVERFLOW (R144). That LEFT counts the records the removal leaves, and none appended while the answer
waits, is the choice of log entry 61. -/
def Obligations.ReleaseSettlements : Prop :=
  ∀ (s : State) (tag : Tag) (seq : Arg Nat), s.takesOrders → s.atRest →
    let h := s.hall
    let i : Instr := .releaseSettlements tag seq
    let refused (c : AnswerCode) : Prop := s.answersNow i tag (.er c) h
    (seq = .absent ∨ seq = .bad → refused .syntaxError) ∧
    ∀ n, seq = .val n →
      let kept := h.account.queue.filter fun r => n < r.seq
      let removed := h.account.queue.filter fun r => r.seq ≤ n
      (ifElse (h.account.seq < n) (refused .range) <|
      ifElse (s.pfw = true) (refused .powerFail) <|
        ((h.account.queue.Pairwise fun x y => x.seq < y.seq) → h.account.queue = removed ++ kept) ∧
        (kept.length < 256 → ∀ t, exec i s = .next t → t.notice.conds.settleOverflow ≠ .active) ∧
        (ifElse (removed = []) (s.answersNow i tag (.ok .releasedNone []) h) <|
          s.answerWaits i tag onlyAccount (.ok (.releasedRecords removed.length kept.length) [])
            { h with account := { h.account with queue := kept } }))

/-! ### The charge -/

/-- Stages 1 to 7 for a tariff of interval length above 0: the elapsed minutes, those billable beyond the credit and the
grace, the least number of whole intervals that covers them, the gross, the cap for each started 1,440 minutes, and the
overdue fee, each amount saturating at 99,999,999 (R124, R125). -/
def Obligations.ChargeStages : Prop :=
  ∀ (f : Tariff) (i t u deposit : Nat) (overdue : Bool), 0 < f.len →
    let g := figures f i t u deposit overdue
    let under :=
      if f.cap = 0 then g.gross
      else min g.gross (min (f.cap * (if g.elapsed = 0 then 1 else (g.elapsed + 1439) / 1440)) 99999999)
    g.elapsed = t - i ∧ g.unserved = (if f.credit then u else 0) ∧
    g.billable = g.elapsed - (g.unserved + f.grace) ∧
    (g.billable ≤ g.intervals * f.len ∧ ∀ n, g.billable ≤ n * f.len → g.intervals ≤ n) ∧
    g.gross = min (f.base + g.intervals * f.rate) 99999999 ∧
    g.charge = if overdue then min (under + f.odfee) 99999999 else under

/-- Stage 8: where the charge is at most the deposit the refund is the difference and nothing is outstanding,
otherwise the outstanding amount is the difference and nothing is refunded; both stay within 99,999,999 (R126). Stage
9 over a lawful log: m_k counts the minutes of the hire that lie in an interval of centre k, and with centre 0 those
that lie in none (R127); the share of centre k is H times m_k, divided by D, rounded down, and the remainder goes to
the centre of the largest m_k, the lowest-numbered of equals; a hire of 0 minutes is wholly the centre's whose
interval contains minute I, or centre 0's. The shares sum to the charge, stand in ascending centre order, and none of
them is 0 unless the charge is 0, when the one share is (R128). -/
def Obligations.ChargeSettledAndShared : Prop :=
  (∀ (f : Tariff) (i t u deposit : Nat) (overdue : Bool), deposit ≤ 99999999 →
    let g := figures f i t u deposit overdue
    (g.charge ≤ deposit → g.refund = deposit - g.charge ∧ g.outstanding = 0) ∧
    (deposit < g.charge → g.refund = 0 ∧ g.outstanding = g.charge - deposit) ∧
    g.refund ≤ 99999999 ∧ g.outstanding ≤ 99999999 ∧ (g.refund = 0 ∨ g.outstanding = 0) ∧
    (g.refund : Int) - g.outstanding = deposit - g.charge) ∧
  (∀ (log : List Interval) (i t charge : Nat), logOrdered log → i ≤ t →
    let shares := apportion log i t charge
    let holds (m : Nat) (v : Interval) : Bool := v.start ≤ m && v.finish.all fun e => m < e
    let counts (k : CentreId) (m : Nat) : Bool :=
      (log.any fun v => v.centre == k && holds m v) || (k == 0 && !log.any (holds m))
    let minutes (k : CentreId) : Nat := ((List.range t).filter fun m => i ≤ m && counts k m).length
    let part (k : CentreId) : Nat := charge * minutes k / (t - i)
    let remainder := charge - ((ids 16).map part).sum
    (∀ k, centreMinutes log i t k = minutes k) ∧ ((ids 16).map minutes).sum = t - i ∧
    (i < t → remainder < ((ids 16).filter fun k => 0 < minutes k).length ∧
      ∀ k : CentreId, (∀ j, minutes j ≤ minutes k) → (∀ j, j < k → minutes j < minutes k) →
        (charge = 0 → shares = [(k, 0)]) ∧
        (charge ≠ 0 → ∀ j a, (j, a) ∈ shares ↔ a ≠ 0 ∧ a = part j + if j = k then remainder else 0)) ∧
    (i = t → ∀ k : CentreId, (∀ v ∈ log, holds i v = true → v.centre = k) → ((∀ v ∈ log, holds i v = false) → k = 0) →
      shares = [(k, charge)]) ∧
    (shares.map fun p => p.2).sum = charge ∧ (shares.Pairwise fun p q => p.1 < q.1) ∧
    (charge ≠ 0 → ∀ p ∈ shares, p.2 ≠ 0) ∧ (charge = 0 → ∃ k, shares = [(k, 0)]))

/-! ### Receivers, badges and hire -/

/-- ISSUE of a receiver in STOCK, its record there or created for it, that passes every test: the hire, the receiver,
the badge, the demand, the counter and the peak as R107 gives them; the answer waits on FLEET and ACCOUNT (R101, R102,
R103, R106, R107). The number of the next hire is held by no open hire and lies between 1 and 65,535, while at most
4,096 hires are open (R102). A due minute past 4,294,967,295 stands as its sum by the choice of log entry 50. -/
def Obligations.IssueAccepted : Prop :=
  (∀ h : Hall, h.fleet.hires.length ≤ 4096 → h.hire h.nextNumber = none ∧ 1 ≤ h.nextNumber ∧ h.nextNumber ≤ 65535) ∧
  ∀ (s : State) (d : DeskId) (tag : Tag) (ser badge : Serial) (tar : TariffId) (ch : ChannelId) (bat : Nat)
    (r : Receiver), s.readyAt d →
    let h := s.hall
    let f := h.settings.tariffs[tar]
    let level := min bat 100
    (h.receiver ser = some r ∨ h.receiver ser = none ∧ h.fleet.receivers.length < 4096 ∧
      ∃ w, h.windowOf ser = some w ∧ r = ⟨ser, w, .stock, 0, none⟩) →
    r.state = .stock → h.account.day.isOpen = true → h.settings.hall.minBattery ≤ level → f.defined = true →
    h.settings.channels[ch].enabled = true →
    (∀ e, h.badge badge = some e → e.debt = 0 ∧ e.hires.length < h.settings.hall.badgeLimit) →
    (h.badge badge = none → h.fleet.badges.length < 4096) →
    let n := h.nextNumber
    let due := if f.limit = 0 then none else some (h.now + f.limit)
    let others := ((h.badge badge).map Badge.hires).getD []
    ∃ k, s.deskAnswerWaits d (.issue d tag ser badge tar ch bat) tag fleetAccount
        (.ok (.issued n f.deposit due) (if 100 < bat then [.units "BAT" 100] else [])) k ∧
      k.hire n = some ⟨n, ser, badge, d, tar, h.now, due, ch, h.outage ch, 0, f.deposit, false, h.clock.stale⟩ ∧
      (∀ m, m ≠ n → k.hire m = h.hire m) ∧
      k.receiver ser = some { r with state := .issued n, issues := satCount (r.issues + 1), battery := some level } ∧
      (∀ q, q ≠ ser → k.receiver q = h.receiver q) ∧
      k.badge badge = some ⟨badge, others ++ [n], 0⟩ ∧ (∀ q, q ≠ badge → k.badge q = h.badge q) ∧
      (∀ c : ChannelId, k.channels[c].demand = if c = ch then h.channels[c].demand + 1 else h.channels[c].demand) ∧
      k.account.hireCounter = n ∧ k.account.peakHires = max h.account.peakHires k.fleet.hires.length ∧
      k.account.balances = h.account.balances ∧ k.account.queue = h.account.queue ∧ k.settings = h.settings ∧
      k.clock = h.clock

/-- ISSUE's tests in the order of R106, each with its answer: a receiver record created for the request stays, its
answer then waiting on FLEET; a low battery is recorded; every other refusal changes nothing (R101, R106). -/
def Obligations.IssueRefused : Prop :=
  ∀ (s : State) (d : DeskId) (tag : Tag) (ser badge : Serial) (tar : TariffId) (ch : ChannelId) (bat : Nat),
    s.takesRequests d → s.atRest →
    let h := s.hall
    let i : Instr := .issue d tag ser badge tar ch bat
    let now (c : AnswerCode) : Prop := s.deskAnswersNow d i tag (.er c) h
    ifElse (h.account.day.isOpen = false) (now .dayClosed) <|
    ifElse (s.pfw = true) (now .powerFail) <|
    ifElse (h.receiver ser = none ∧ h.windowOf ser = none) (now .foreign) <|
    ifElse (h.receiver ser = none ∧ 4096 ≤ h.fleet.receivers.length) (now .tableFull) <|
    ∀ r : Receiver,
      (h.receiver ser = some r ∨ h.receiver ser = none ∧ ∃ w, h.windowOf ser = some w ∧ r = ⟨ser, w, .stock, 0, none⟩) →
      let refused (c : AnswerCode) : Prop :=
        ifElse (h.receiver ser = none)
          (∃ k, s.deskAnswerWaits d i tag onlyFleet (.er c) k ∧ k.receiver ser = some r ∧ k.fleet.hires = h.fleet.hires ∧
            k.fleet.badges = h.fleet.badges ∧ k.account = h.account)
          (now c)
      ifElse (r.state ≠ .stock) (refused .notStock) <|
      ifElse (min bat 100 < h.settings.hall.minBattery)
        (∃ k, s.deskAnswerWaits d i tag onlyFleet (.er .lowBattery) k ∧
          k.receiver ser = some { r with battery := some (min bat 100) } ∧ k.fleet.hires = h.fleet.hires ∧
          k.account = h.account) <|
      ifElse (h.settings.tariffs[tar].defined = false) (refused .noTariff) <|
      ifElse (h.settings.channels[ch].enabled = false) (refused .noChannel) <|
      ifElse (∃ e, h.badge badge = some e ∧ 0 < e.debt) (refused .debt) <|
      ifElse (∃ e, h.badge badge = some e ∧ h.settings.hall.badgeLimit ≤ e.hires.length) (refused .limit) <|
      (h.badge badge = none → 4096 ≤ h.fleet.badges.length → refused .badgeFull)

/-- LANGUAGE moves an open hire to another ENABLED channel: its unserved minutes grow by the old channel's outage
since its snapshot, the snapshot is the new channel's outage, the demand moves with it. A request for its present
channel changes nothing; a receiver without an open hire is refused with NOT_ISSUED, a DISABLED channel with
NO_CHANNEL (R108). That the OK to that request carries CH is the choice of log entry 58. That an outage below the
snapshot counts as no minutes is the choice of log entry 45. -/
def Obligations.LanguageMoves : Prop :=
  ∀ (s : State) (d : DeskId) (tag : Tag) (ser : Serial) (ch : ChannelId), s.readyAt d →
    let h := s.hall
    let i : Instr := .language d tag ser ch
    match h.hireOf ser with
    | none => s.deskAnswersNow d i tag (.er .notIssued) h
    | some x =>
      ifElse (h.settings.channels[ch].enabled = false) (s.deskAnswersNow d i tag (.er .noChannel) h) <|
      ifElse (x.preset = ch) (s.deskAnswersNow d i tag (.ok (.language ch) []) h) <|
      ∃ k, s.deskAnswerWaits d i tag onlyFleet (.ok (.language ch) []) k ∧
        k.hire x.number = some { x with
          unserved := min (x.unserved + (h.outage x.preset - x.snapshot)) 4294967295
          snapshot := h.outage ch
          preset := ch
          stale := x.stale || h.clock.stale } ∧
        (∀ n, n ≠ x.number → k.hire n = h.hire n) ∧ k.fleet.receivers = h.fleet.receivers ∧
        k.fleet.badges = h.fleet.badges ∧ k.settings = h.settings ∧ k.clock = h.clock ∧
        k.account.balances = h.account.balances ∧ k.account.queue = h.account.queue ∧ k.account.seq = h.account.seq ∧
        ∀ c : ChannelId, k.channels[c].demand =
          if c = ch then h.channels[c].demand + 1
          else if c = x.preset then h.channels[c].demand - 1
          else h.channels[c].demand

/-- RETURN of an ISSUED or OVERDUE receiver closes its hire: it is priced by its class as defined now, or by the null
tariff, with the minutes it was unserved; the record is numbered and placed, the shares go to the balances, the
receiver to STOCK or FAULTY, the outstanding amount to the badge's debt (R103, R109, R122, R123, R133, R140 to R142).
That QUEUE_HIGH is the last notice of the close is inferred from R142's "end of its close" (log entry 51); that a
battery level above 100 is taken as 100 and not marked CLAMPED is inferred (log entry 21). That an outage below the
snapshot counts as no minutes is the choice of log entry 45. -/
def Obligations.ReturnCloses : Prop :=
  ∀ (s : State) (d : DeskId) (tag : Tag) (ser : Serial) (cond : ReturnCond) (bat n : Nat) (r : Receiver) (x : Hire),
    s.readyAt d → s.hall.receiver ser = some r → r.state = .issued n ∨ r.state = .overdue n → s.hall.hire n = some x →
    let h := s.hall
    let tariff := if h.settings.tariffs[x.tariff].defined then h.settings.tariffs[x.tariff]
      else ⟨true, 0, 1, 0, 0, 0, 0, 0, 0, false⟩
    let unserved := min (x.unserved + (h.outage x.preset - x.snapshot)) 4294967295
    let f := figures tariff x.issued h.now unserved x.deposit x.overdue
    let shares := apportion h.account.log x.issued h.now f.charge
    let record : Settlement := ⟨0, .returned, h.account.day.number, ser, x.badge, n, numOf d, numOf x.tariff, x.issued,
      h.now, f.elapsed, f.unserved, f.billable, f.intervals, f.gross, f.charge, x.overdue, x.stale || h.clock.stale,
      x.deposit, f.refund, f.outstanding, shares⟩
    x.serial = ser →
    ∃ k seq unit, s.deskAnswerWaits d (.returnRcv d tag ser cond bat) tag fleetAccount
        (.ok (.returned ⟨f.charge, f.refund, f.outstanding, seq, unit⟩) []) k ∧
      h.records k record seq unit ∧
      k.account.balances = shares.foldl (fun v p => vmod v p.1 fun m => min (m + p.2) 99999999) h.account.balances ∧
      k.account.day.total = min (h.account.day.total + f.charge) 99999999 ∧
      k.receiver ser = some { r with
        state := (match cond with | .ok => .stock | .damaged => .faulty)
        battery := some (min bat 100) } ∧
      (∀ q, q ≠ ser → k.receiver q = h.receiver q) ∧ k.hire n = none ∧ (∀ m, m ≠ n → k.hire m = h.hire m) ∧
      (∀ b, h.badge x.badge = some b →
        let list := b.hires.filter fun m => m != n
        let debt := min (b.debt + f.outstanding) 99999999
        k.badge x.badge = if list = [] ∧ debt = 0 then none else some ⟨x.badge, list, debt⟩) ∧
      (∀ q, q ≠ x.badge → k.badge q = h.badge q) ∧
      (∀ c : ChannelId, k.channels[c].demand =
        if c = x.preset then h.channels[c].demand - 1 else h.channels[c].demand) ∧
      k.settings = h.settings ∧ k.clock = h.clock ∧ k.account.log = h.account.log

/-- RETURN of a LOST receiver finds it at no charge: a FOUND record, the receiver in STOCK or FAULTY, no balance, hire
or badge moved; of a receiver in STOCK or FAULTY it is refused with NOT_ISSUED, of an unknown foreign one with
FOREIGN, of one for whose record the table has no room with TABLE_FULL; of another unknown one the record is created,
and the refusal NOT_ISSUED waits on its FLEET write (R101, R109, R110, R131). That QUEUE_HIGH is the last notice of
the event is inferred (log entry 51); that a battery level above 100 is taken as 100 and not marked CLAMPED is
inferred (log entry 21). -/
def Obligations.ReturnFinds : Prop :=
  ∀ (s : State) (d : DeskId) (tag : Tag) (ser : Serial) (cond : ReturnCond) (bat : Nat), s.readyAt d →
    let h := s.hall
    let i : Instr := .returnRcv d tag ser cond bat
    (∀ r, h.receiver ser = some r → r.state = .lost →
      ∃ k seq unit, s.deskAnswerWaits d i tag fleetAccount (.ok (.found seq unit) []) k ∧
        h.records k ⟨0, .found, h.account.day.number, ser, 0, 0, numOf d, 0, h.now, h.now, 0, 0, 0, 0, 0, 0, false,
          h.clock.stale, 0, 0, 0, []⟩ seq unit ∧
        k.receiver ser = some { r with
          state := (match cond with | .ok => .stock | .damaged => .faulty)
          battery := some (min bat 100) } ∧
        (∀ q, q ≠ ser → k.receiver q = h.receiver q) ∧ k.fleet.hires = h.fleet.hires ∧
        k.fleet.badges = h.fleet.badges ∧ k.account.balances = h.account.balances ∧
        k.account.day.total = h.account.day.total ∧ k.settings = h.settings ∧
        ∀ c : ChannelId, k.channels[c] = h.channels[c]) ∧
    (∀ r, h.receiver ser = some r → r.state = .stock ∨ r.state = .faulty →
      s.deskAnswersNow d i tag (.er .notIssued) h) ∧
    (h.receiver ser = none → h.windowOf ser = none → s.deskAnswersNow d i tag (.er .foreign) h) ∧
    (∀ w, h.receiver ser = none → h.windowOf ser = some w →
      (ifElse (4096 ≤ h.fleet.receivers.length) (s.deskAnswersNow d i tag (.er .tableFull) h)
        (∃ k, s.deskAnswerWaits d i tag onlyFleet (.er .notIssued) k ∧
          k.receiver ser = some ⟨ser, w, .stock, 0, none⟩ ∧ (∀ q, q ≠ ser → k.receiver q = h.receiver q) ∧
          k.fleet.hires = h.fleet.hires ∧ k.fleet.badges = h.fleet.badges ∧ k.account = h.account ∧
          k.settings = h.settings ∧ k.channels = h.channels)))

/-- DECLARE LOST closes an open hire at the replacement fee of the receiver's window, wholly to centre 0 and to the
day's total; the hire leaves its badge's list and the outstanding amount is added to the debt. A receiver in any other
state is refused with STATE, an unknown one with NOT_FOUND, a serial missing or out of its range with RANGE (R103,
R113, R130, R140); so is a malformed one, as the order names no SYNTAX (inferred, log entry 13). That QUEUE_HIGH is
the last notice of the close is inferred (log entry 51). That an outage below the snapshot counts as no minutes is the
choice of log entry 45. -/
def Obligations.DeclareLost : Prop :=
  (∀ (s : State) (tag : Tag) (ser : Arg Nat), s.takesOrders → ser = .bad ∨ ser.outOf 0 4294967295 →
    s.answersNow (.declareLost tag ser) tag (.er .range) s.hall) ∧
  ∀ (s : State) (tag : Tag) (ser : Serial), s.ready →
    let h := s.hall
    let i : Instr := .declareLost tag (.val ser.toNat)
    (h.receiver ser = none → s.answersNow i tag (.er .notFound) h) ∧
    (∀ r, h.receiver ser = some r → r.state = .stock ∨ r.state = .faulty ∨ r.state = .lost →
      s.answersNow i tag (.er .state) h) ∧
    (∀ r n x, h.receiver ser = some r → r.state = .issued n ∨ r.state = .overdue n → h.hire n = some x → x.serial = ser →
      let fee := h.settings.windows[r.window].fee
      let credit := h.settings.tariffs[x.tariff].defined && h.settings.tariffs[x.tariff].credit
      let unserved := min (x.unserved + (h.outage x.preset - x.snapshot)) 4294967295
      let record : Settlement := ⟨0, .lost, h.account.day.number, ser, x.badge, n, 0, numOf x.tariff, x.issued, h.now,
        h.now - x.issued, if credit then unserved else 0, 0, 0, fee, fee, x.overdue, x.stale || h.clock.stale, x.deposit,
        x.deposit - fee, fee - x.deposit, [(0, fee)]⟩
      ∃ k seq unit, s.answerWaits i tag fleetAccount
          (.ok (.lost ⟨fee, x.deposit - fee, fee - x.deposit, seq, unit⟩) []) k ∧
        h.records k record seq unit ∧
        k.account.balances = (vmod h.account.balances (0 : CentreId) fun m => min (m + fee) 99999999) ∧
        k.receiver ser = some { r with state := .lost } ∧ (∀ q, q ≠ ser → k.receiver q = h.receiver q) ∧
        k.hire n = none ∧ (∀ m, m ≠ n → k.hire m = h.hire m) ∧ k.settings = h.settings ∧
        k.account.day.total = min (h.account.day.total + fee) 99999999 ∧
        (∀ b, h.badge x.badge = some b →
          let list := b.hires.filter fun m => m != n
          let debt := min (b.debt + (fee - x.deposit)) 99999999
          k.badge x.badge = if list = [] ∧ debt = 0 then none else some ⟨x.badge, list, debt⟩) ∧
        (∀ q, q ≠ x.badge → k.badge q = h.badge q) ∧
        ∀ c : ChannelId, k.channels[c].demand =
          if c = x.preset then h.channels[c].demand - 1 else h.channels[c].demand)

/-- MARK FAULTY, MARK REPAIRED, REMOVE RECEIVER and CLEAR DEBT: each moves one record of the fleet, with the low-stock
flag of R99 where a stock count changed, and is refused for a record in another state or that is not there, and with
RANGE for a number out of its range (R99, R114 to R116). That a missing or malformed one is RANGE as well is inferred
(log entry 13). -/
def Obligations.ReceiverOrders : Prop :=
  (∀ (s : State) (tag : Tag) (x : Arg Nat), s.takesOrders → x = .bad ∨ x.outOf 0 4294967295 →
    let refused (i : Instr) : Prop := s.answersNow i tag (.er .range) s.hall
    refused (.markFaulty tag x) ∧ refused (.markRepaired tag x) ∧ refused (.removeReceiver tag x) ∧
      refused (.clearDebt tag x)) ∧
  ∀ (s : State) (tag : Tag) (n : Serial), s.ready →
    let h := s.hall
    let moves (i : Instr) (r : Option Receiver) : Prop :=
      ∃ k, s.answerWaits i tag onlyFleet (.ok .plain []) k ∧ k.receiver n = r ∧
        (∀ q, q ≠ n → k.receiver q = h.receiver q) ∧ k.fleet.hires = h.fleet.hires ∧
        k.fleet.badges = h.fleet.badges ∧ k.account = h.account ∧ k.settings = h.settings ∧ k.channels = h.channels ∧
        ∀ w : WindowId, k.lowFired[w] = if k.stockCount w = h.stockCount w then h.lowFired[w]
          else decide (k.stockCount w < h.settings.windows[w].lowStock)
    let refused (i : Instr) (c : AnswerCode) : Prop := s.answersNow i tag (.er c) h
    let faulty : Instr := .markFaulty tag (.val n.toNat)
    let repaired : Instr := .markRepaired tag (.val n.toNat)
    let remove : Instr := .removeReceiver tag (.val n.toNat)
    let clear : Instr := .clearDebt tag (.val n.toNat)
    (match h.receiver n with
      | none => refused faulty .notFound ∧ refused repaired .notFound ∧ refused remove .notFound
      | some r =>
        ifElse (r.state = .stock) (moves faulty (some { r with state := .faulty })) (refused faulty .state) ∧
        ifElse (r.state = .faulty) (moves repaired (some { r with state := .stock })) (refused repaired .state) ∧
        ifElse (r.state = .stock ∨ r.state = .faulty) (moves remove none) (refused remove .state)) ∧
    match h.badge n with
    | none => refused clear .notFound
    | some b =>
      ∃ k, s.answerWaits clear tag onlyFleet (.ok (.was b.debt) []) k ∧
        k = { h with fleet := { h.fleet with badges := k.fleet.badges } } ∧
        k.badge n = (if b.hires = [] then none else some { b with debt := 0 }) ∧ ∀ q, q ≠ n → k.badge q = h.badge q

/-- A due-minute expiry of an OPEN hire whose due minute the clock has reached makes it and its receiver OVERDUE, posts
OVERDUE and asks for a FLEET write; of any other hire nothing is taken (R112). Where it is not taken, that is log entry
6's choice. -/
def Obligations.DueMinute : Prop :=
  ∀ (s : State) (n : Nat), s.resetn = false → s.atRest →
    let h := s.hall
    let i : Instr := .dueMinuteExpiry n
    (∀ x d, h.hire n = some x → x.overdue = false → x.due = some d → d ≤ h.now →
      ∃ k, s.takesEvent i k ∧ k.hire n = some { x with overdue := true } ∧ (∀ m, m ≠ n → k.hire m = h.hire m) ∧
        (∀ r, h.receiver x.serial = some r → k.receiver x.serial = some { r with state := .overdue n }) ∧
        (∀ q, q ≠ x.serial → k.receiver q = h.receiver q) ∧
        (⟨.hire, .overdue, x.serial.toNat, h.now, n, false⟩ : Notice) ∈ k.work.posts ∧ onlyFleet ∈ k.work.asks ∧
        k.account = h.account ∧ k.settings = h.settings ∧ k.channels = h.channels) ∧
    (h.hire n = none ∨ (∃ x, h.hire n = some x ∧ (x.overdue = true ∨ x.due = none ∨ ∃ d, x.due = some d ∧ h.now < d)) →
      s.takesEvent i h)

/-! ### Consoles -/

/-- A good answer to a poll against the accepted and the candidate key state, row by row of R30: the bad count becomes
0, and but for an acceptance that gives a key event nothing else moves. An absent accepted state is taken without
events. -/
def Obligations.PollDebounce : Prop :=
  ∀ (s : State) (a : ConsoleId) (k : Keys), s.exchanges .poll a → s.hall.consoles[a].state.polled = true →
    k.decodes = true →
    let r := s.hall.consoles[a]
    let leaves (accepted candidate : Option Keys) : Prop :=
      s.takesEvent (.pollAnswer (numOf a) true k)
        (s.hall.afterExchange a { r with bad := 0, accepted := accepted, candidate := candidate })
    (r.accepted = none → leaves (some k) none) ∧
    (∀ old, r.accepted = some old → r.candidate = none → leaves (some old) (if k = old then none else some k)) ∧
    (∀ old c, r.accepted = some old → r.candidate = some c → k ≠ c →
      leaves (some old) (if k = old then none else some k)) ∧
    (∀ old, r.accepted = some old → r.candidate = some k → old.mute = k.mute → (k.talk = true → old.talk = true) →
      (k.outA = true → old.outA = true) → (k.outB = true → old.outB = true) →
      (k.relayNext = true → old.relayNext = true) → (k.handover = true → old.handover = true) → leaves (some k) none)

/-- The key events of one acceptance that presses one key: TALK of an IDLE console is refused with the ENGAGED flash,
granted, put on the channel's wait list or into the booth queue; TALK of a speaking console releases its channel, TALK
of a queued one withdraws its wait; MUTE, and the OUTPUT keys of an IDLE console, move only the console (R31, R46 to
R50, R53, R55, R57, R58). That a request, a grant and the end of a wait end the ENGAGED flash is inferred (log entry
16). A minute set past 4,294,967,295 stands as its sum (log entry 50). -/
def Obligations.KeyPresses : Prop :=
  ∀ (s : State) (a : ConsoleId) (b : BoothId) (old k : Keys), s.exchanges .poll a → s.hall.boothOf a = some b →
    s.hall.consoles[a].accepted = some old → s.hall.consoles[a].candidate = some k → k.decodes = true →
    let h := s.hall
    let r := h.consoles[a]
    let set := h.settings.booths[b]
    let taken := { r with bad := 0, accepted := some k, candidate := none }
    let gives (e : Hall) : Prop := ∃ j, s.takesEvent (.pollAnswer (numOf a) true k) j ∧ e.Kept j
    let timer := if set.mode = .handover then some (h.tenths + set.timeout) else r.handoverExpiry
    let waiting := { taken with state := .requesting, engagedFlash := none, handoverExpiry := timer }
    (old.talk = false → k = { old with talk := true } → r.state = .idle →
      (set.enabled = false ∨ h.target a = none →
        gives (h.afterExchange a { taken with engagedFlash := some (h.tenths + 20) })) ∧
      ∀ t, set.enabled = true → h.target a = some t →
        match h.booths[b].owner with
        | none =>
          ifElse (h.channels[t].feeder = none)
            (∃ j, s.takesEvent (.pollAnswer (numOf a) true k) j ∧
              (h.settings.channels[t].enabled = true → j.channels[t].service = .live) ∧
              let granted := { taken with
                state := .live
                handoverExpiry := none
                engagedFlash := none
                contStart := some h.now
                nextShift := some (h.now + set.shift1)
                liveSince := if h.dayOpen then some h.now else r.liveSince }
              Hall.Kept { h.afterExchange a granted with
                channels := vmod h.channels t fun x => { x with feeder := some a }
                booths := vmod h.booths b fun x => { x with owner := some a }
                waitLists := vmod h.waitLists t fun l => l.filter fun e => e.console != a
                work := { h.work with granted := [a] } } j)
            (gives { h.afterExchange a waiting with
              booths := vmod h.booths b fun x => { x with owner := some a }
              waitLists := vmod h.waitLists t fun l => l ++ [⟨a, b⟩] })
        | some o =>
          (set.mode ≠ .override →
            gives { h.afterExchange a waiting with booths := vmod h.booths b fun x => { x with queue := x.queue ++ [a] } }) ∧
          (set.mode = .override → h.consoles[o].state.onChannel = true → h.feeds o = some t →
            ∃ j, s.takesEvent (.pollAnswer (numOf a) true k) j ∧ j.booths[b].owner = some a ∧
              j.booths[b].queue = h.booths[b].queue ∧ j.channels[t].feeder = some a ∧ j.consoles[a].state = .live ∧
              j.consoles[o].state = .idle ∧ j.consoles[o].contStart = none)) ∧
    (old.talk = false → k = { old with talk := true } → r.state.onChannel = true → ∀ c, h.feeds a = some c →
      h.booths[b].queue = [] → h.waitLists[c] = [] →
      ∃ j, s.takesEvent (.pollAnswer (numOf a) true k) j ∧ j.booths[b].owner = none ∧ j.channels[c].feeder = none ∧
        j.consoles[a].state = .idle ∧ j.consoles[a].contStart = none ∧ j.consoles[a].nextShift = none) ∧
    (old.talk = false → k = { old with talk := true } → r.state = .requesting → a ∈ h.booths[b].queue →
      gives { h.afterExchange a { taken with state := .idle, handoverExpiry := none, engagedFlash := none } with
        booths := vmod h.booths b fun x => { x with queue := x.queue.filter fun y => y != a } }) ∧
    (old.mute = false → k = { old with mute := true } → r.state.polled = true →
      gives (h.afterExchange a { taken with state := if r.state = .live then .muted else r.state })) ∧
    (old.mute = true → k = { old with mute := false } → r.state.polled = true →
      gives (h.afterExchange a { taken with state := if r.state = .muted then .live else r.state })) ∧
    (old.outA = false → k = { old with outA := true } → r.state = .idle →
      gives (h.afterExchange a { taken with output := .a })) ∧
    (old.outB = false → k = { old with outB := true } → r.state = .idle →
      gives (h.afterExchange a { taken with output := .b }))

/-- A bad answer to a poll, or none by the close of the window, raises the bad count and drops the candidate; the
third in a row puts an IDLE console into FAULT, at its eighth isolation into QUARANTINED, with the notice and the
fault entry. A probe's second good answer in a row readmits the console, a bad one starts the row again; READMIT
CONSOLE takes a QUARANTINED console to FAULT and to probing, and is refused with STATE for another and with RANGE for
an address out of its range (R28, R32 to R37), missing or malformed (inferred, log entry 13). A minute set past
4,294,967,295 stands as its sum (log entry 50). -/
def Obligations.BusAnswers : Prop :=
  (∀ (s : State) (a : ConsoleId) (i : Instr), s.exchanges .poll a → s.hall.consoles[a].state.polled = true →
    (i = .answerWindowClose ∨ ∃ addr check keys, i = .pollAnswer addr check keys ∧
      ¬(addr = numOf a ∧ check = true ∧ keys.decodes = true)) →
    let r := s.hall.consoles[a]
    let iso := r.isolation + 1
    (r.bad < 2 → s.takesEvent i (s.hall.afterExchange a { r with bad := r.bad + 1, candidate := none })) ∧
    (2 ≤ r.bad → r.state = .idle →
      ∃ k, s.takesEvent i k ∧
        Hall.Kept (s.hall.afterExchange a { r with
          state := if 8 ≤ iso then .quarantined else .fault
          bad := 0
          candidate := none
          accepted := none
          isolation := iso
          goodExpiry := none
          goodStart := none
          good := 0
          engagedFlash := none
          probeDue := false
          probeTimer := if 8 ≤ iso then none else some (s.hall.tenths + 50) }) k ∧
        (⟨.fault, .consoleFault, numOf a, s.hall.now, iso, false⟩ : Notice) ∈ k.work.posts ∧
        (⟨s.hall.now, .consoleFault, numOf a⟩ : FaultEntry) ∈ k.work.faults)) ∧
  (∀ (s : State) (a : ConsoleId), s.exchanges .probe a → s.hall.consoles[a].state = .fault →
    let r := s.hall.consoles[a]
    let leaves (i : Instr) (x : ConsoleRun) : Prop := s.takesEvent i (s.hall.afterExchange a x)
    let failed := { r with good := 0, probeTimer := some (s.hall.tenths + 50) }
    leaves .answerWindowClose failed ∧
    ∀ (addr : Nat) (check : Bool) (keys : Keys),
      ifElse (addr = numOf a ∧ check = true ∧ keys.decodes = true)
        (leaves (.probeAnswer addr check keys) <|
          if r.good = 0 then { r with good := 1, probeTimer := some (s.hall.tenths + 50) }
          else { r with
            state := .idle
            accepted := some keys
            candidate := none
            bad := 0
            good := 0
            probeTimer := none
            probeDue := false
            goodStart := some s.hall.now
            goodExpiry := some (s.hall.now + 10) })
        (leaves (.probeAnswer addr check keys) failed)) ∧
  (∀ (s : State) (tag : Tag), s.takesOrders →
    (∀ a : ConsoleId,
      let i : Instr := .readmitConsole tag (.val (numOf a))
      let r := s.hall.consoles[a]
      ifElse (r.state = .quarantined)
        (s.answersNow i tag (.ok .plain []) { s.hall with
          consoles := vset s.hall.consoles a { r with state := .fault, isolation := 0, good := 0, probeDue := true } })
        (s.answersNow i tag (.er .state) s.hall)) ∧
    ∀ x : Arg Nat, x = .bad ∨ x.outOf 1 48 → s.answersNow (.readmitConsole tag x) tag (.er .range) s.hall)

/-- The expiries of a console, each taken by its owner: the probe timer makes a probe due, a good run of 10 minutes
clears the isolation count, the flash ends, a queued wait ends with its notice, and a shift reminder lights the lamp,
posts and sets the next. FORCE RELEASE ends a speaking or queued console's place and answers what it was and whom it
granted the channel; of any other console it is refused with STATE (R29, R34, R36, R50, R56, R60, R61). Waits on a
channel's list, and releases of a booth with a queue, are FloorPassesOn's. That an expiry whose timer does not stand
due takes nothing is the choice of log entry 6; that the end of a queued wait ends the ENGAGED flash, and that a
missing or malformed address is RANGE, is inferred (log entries 16 and 13). A minute set past 4,294,967,295 stands as
its sum (log entry 50). -/
def Obligations.ConsoleTimers : Prop :=
  (∀ (s : State) (a : ConsoleId), s.resetn = false → s.atRest →
    let h := s.hall
    let r := h.consoles[a]
    let with_ (x : ConsoleRun) : Hall := { h with consoles := vset h.consoles a x }
    let due (t : Option Nat) : Prop := ∃ x, t = some x ∧ x ≤ h.tenths
    (ifElse (due r.probeTimer)
      (s.takesEvent (.probeTimerExpiry a) (with_ { r with probeTimer := none, probeDue := true }))
      (s.takesEvent (.probeTimerExpiry a) h)) ∧
    (∀ m, r.goodExpiry = some m → m ≤ h.now → r.state ≠ .fault → r.state ≠ .quarantined →
      s.takesEvent (.goodRunExpiry a) (with_ { r with isolation := 0, goodExpiry := none })) ∧
    (ifElse (due r.engagedFlash)
      (s.takesEvent (.engagedFlashExpiry a) (with_ { r with engagedFlash := none }))
      (s.takesEvent (.engagedFlashExpiry a) h)) ∧
    (¬ due r.handoverExpiry → s.takesEvent (.handoverTimerExpiry a) h) ∧
    (∀ b, due r.handoverExpiry → h.boothOf a = some b → r.state = .requesting → a ∈ h.booths[b].queue →
      ∃ k, s.takesEvent (.handoverTimerExpiry a) k ∧
        Hall.Kept { with_ { r with state := .idle, handoverExpiry := none, engagedFlash := none } with
          booths := vmod h.booths b fun x => { x with queue := x.queue.filter fun y => y != a } } k ∧
        (⟨.booth, .handoverExpired, numOf a, h.now, ((h.target a).map Fin.val).getD 0, false⟩ : Notice) ∈ k.work.posts) ∧
    (∀ m b start, r.nextShift = some m → r.contStart = some start → h.boothOf a = some b → m ≤ h.now →
      r.state.onChannel = true →
      let again := h.settings.booths[b].shiftR
      ∃ k, s.takesEvent (.shiftReminder a) k ∧
        Hall.Kept (with_ { r with
          shiftLamp := true
          nextShift := if again = 0 then none else some (h.now + again) }) k ∧
        (⟨.booth, .shiftDue, numOf a, h.now, h.now - start, false⟩ : Notice) ∈ k.work.posts)) ∧
  (∀ (s : State) (tag : Tag), s.takesOrders → s.atRest →
    let h := s.hall
    (∀ (a : ConsoleId) (b : BoothId), h.boothOf a = some b →
      let i : Instr := .forceRelease tag (.val (numOf a))
      let r := h.consoles[a]
      (r.state = .requesting → a ∈ h.booths[b].queue →
        ∃ k, s.answersNow i tag (.ok (.released .requesting []) []) k ∧
          Hall.Kept { h with
            consoles := vset h.consoles a { r with state := .idle, handoverExpiry := none, engagedFlash := none }
            booths := vmod h.booths b fun x => { x with queue := x.queue.filter fun y => y != a } } k) ∧
      (r.state.onChannel = true → h.booths[b].queue = [] → ∀ c, h.feeds a = some c →
        (h.waitLists[c] = [] →
          ∃ k, s.answersNow i tag (.ok (.released r.state []) []) k ∧ k.booths[b].owner = none ∧
            k.channels[c].feeder = none ∧ k.consoles[a].state = .idle) ∧
        (∀ e rest, h.waitLists[c] = e :: rest →
          ∃ k, s.answersNow i tag (.ok (.released r.state [e.console]) []) k ∧ k.channels[c].feeder = some e.console ∧
            k.consoles[e.console].state = .live)) ∧
      (r.state ≠ .live → r.state ≠ .muted → r.state ≠ .requesting → s.answersNow i tag (.er .state) h)) ∧
    ∀ x : Arg Nat, x = .bad ∨ x.outOf 1 48 → s.answersNow (.forceRelease tag x) tag (.er .range) h)

/-- At the end of an event the console bus, while no exchange is in progress, sends the probe that is due, and otherwise
the next poll in ascending order of address, wrapping to the lowest, with the lamp set as it stands: MIC, ENGAGED,
HANDOVER-ASKED, SHIFT, RELAY-LOST, A and B each as R29 gives it; a probe carries the set all off (R24, R27 to R29). That
the bus chooses at the end of every event after which no exchange is in progress, and not of an exchange alone, is the
choice of log entry 19; that of several due probes the lowest address goes first, and where the rotation begins, that of
log entry 41. -/
def Obligations.BusChooses : Prop :=
  ∀ h : Hall,
    let k := h.rested
    let due (a : ConsoleId) : Prop := h.consoles[a].state = .fault ∧ h.consoles[a].probeDue = true
    let polled (a : ConsoleId) : Prop :=
      h.consoles[a].state = .idle ∨ h.consoles[a].state = .requesting ∨ h.consoles[a].state = .live ∨
        h.consoles[a].state = .muted
    let behind (a : ConsoleId) : Prop := ∃ l, h.bus.lastPolled = some l ∧ l < a
    k.work = EventWork.empty ∧ k = { h with consoles := k.consoles, bus := k.bus, work := k.work } ∧
    (∀ x, h.bus.current = some x → k.bus = h.bus ∧ k.consoles = h.consoles) ∧
    (h.bus.current = none → ∀ a, due a → (∀ x, due x → a ≤ x) →
      k.bus = ⟨some ⟨.probe, a, ⟨.off, .off, .off, .off, .off, .off, .off⟩, false⟩, h.bus.lastPolled⟩ ∧
        k.consoles = vset h.consoles a { h.consoles[a] with probeDue := false }) ∧
    (h.bus.current = none → (∀ a, ¬ due a) →
      k.consoles = h.consoles ∧ ((∀ a, ¬ polled a) → k.bus = h.bus) ∧
      ∀ a, polled a → ((behind a ∧ ∀ x, polled x → behind x → a ≤ x) ∨
          ((∀ x, polled x → ¬ behind x) ∧ ∀ x, polled x → a ≤ x)) →
        ∃ lamps : LampSet, k.bus = ⟨some ⟨.poll, a, lamps, false⟩, some a⟩ ∧
          let r := h.consoles[a]
          let onIf (p : Prop) (x : Lamp) : Prop := ifElse p (x = .on) (x = .off)
          (r.state = .muted → lamps.mic = .flashing) ∧ (r.state ≠ .muted → onIf (r.state = .live) lamps.mic) ∧
          (r.engagedFlash ≠ none → lamps.engaged = .flashing) ∧
          (r.engagedFlash = none → onIf (∃ (c : ChannelId) (e : WaitEntry), e ∈ h.waitLists[c] ∧ e.console = a) lamps.engaged) ∧
          onIf ((r.state = .live ∨ r.state = .muted) ∧ ∃ b, h.settings.consoleBooth[a] = some b ∧ h.booths[b].queue ≠ [])
            lamps.asked ∧
          onIf (r.shiftLamp = true) lamps.shift ∧
          onIf (∃ b, h.settings.consoleBooth[a] = some b ∧ h.booths[b].fallback ≠ none) lamps.relayLost ∧
          onIf (r.output = .a) lamps.lampA ∧ onIf (r.output = .b) lamps.lampB)

/-- The end of a place at the interlock, and who comes after it. A console that speaks leaves LIVE or MUTED, its
channel passes to the head of the channel's wait list, or is left without a feeder, and then its booth to the head of
the booth's queue, which takes it as a fresh request, or is left without an owner. A console that waits on a channel's
list leaves it, and its booth passes on the same way; one that waits in its booth's queue leaves that alone. So ends
the place of the console whose TALK key is pressed, that the host releases, that takes a fault entry at a bad answer
or at none, or whose handover timer expires, with the notice of that (R29, R33, R46, R49 to R53, R55, R56, R61). That
the end of a wait ends the ENGAGED flash is inferred (log entry 16). A minute set past 4,294,967,295 stands as its sum
(log entry 50). -/
def Obligations.FloorPassesOn : Prop :=
  (∀ (h : Hall) (a : ConsoleId) (b : BoothId) (c : ChannelId) (v : ConsoleState), h.floorOf a b c →
    let k := release a v h
    h.steppedDown k a b v ∧ h.headGranted k c ∧
      h.passedOn k b (h.feedersPassed c) (h.listsPassed c) (h.grantsPassed c) ∧
      k.settings = h.settings ∧ k.fleet = h.fleet ∧ k.clock = h.clock ∧ k.air = h.air ∧ k.account.queue = h.account.queue) ∧
  (∀ (h : Hall) (a : ConsoleId) (b : BoothId) (c : ChannelId) (v : ConsoleState), h.waitOf a b c →
    let k := endWait a v h
    k.consoles[a].state = v ∧ k.consoles[a].handoverExpiry = none ∧ k.consoles[a].engagedFlash = none ∧
      h.passedOn k b (fun x => h.channels[x].feeder)
        (fun x => if x = c then h.waitLists[c].filter fun e => e.console != a else h.waitLists[x]) h.work.granted ∧
      k.settings = h.settings ∧ k.fleet = h.fleet ∧ k.clock = h.clock ∧ k.air = h.air) ∧
  (∀ (h : Hall) (a : ConsoleId) (b : BoothId) (v : ConsoleState), h.boothOf a = some b → a ∈ h.booths[b].queue →
    endWait a v h = { h with
      consoles := vset h.consoles a { h.consoles[a] with state := v, handoverExpiry := none, engagedFlash := none }
      booths := vmod h.booths b fun x => { x with queue := x.queue.filter fun y => y != a } }) ∧
  (∀ (s : State) (a : ConsoleId) (old : Keys), let k := { old with talk := true }
    s.accepts a old k → old.talk = false →
    let h := s.hall.keysAccepted a k
    (s.hall.consoles[a].state.onChannel = true → s.hall.boothOf a ≠ none → s.pressTakes a k (release a .idle h)) ∧
    (s.hall.consoles[a].state = .requesting → s.hall.boothOf a ≠ none → s.pressTakes a k (endWait a .idle h))) ∧
  (∀ (s : State) (tag : Tag) (a : ConsoleId), s.takesOrders → s.atRest →
    let i : Instr := .forceRelease tag (.val (numOf a))
    let gives (h : Hall) : Prop :=
      ∃ k, s.answersNow i tag (.ok (.released s.hall.consoles[a].state h.work.granted) []) k ∧ h.Kept k
    (s.hall.consoles[a].state.onChannel = true → gives (release a .idle s.hall)) ∧
    (s.hall.consoles[a].state = .requesting → gives (endWait a .idle s.hall))) ∧
  (∀ (s : State) (a : ConsoleId) (t : Nat) (b : BoothId), s.resetn = false → s.atRest →
    s.hall.consoles[a].handoverExpiry = some t → t ≤ s.hall.tenths → s.hall.boothOf a = some b →
    s.hall.consoles[a].state = .requesting →
    ∃ k, s.takesEvent (.handoverTimerExpiry a) k ∧ (endWait a .idle s.hall).Kept k ∧
      (⟨.booth, .handoverExpired, numOf a, s.hall.now, ((s.hall.target a).map Fin.val).getD 0, false⟩ : Notice)
        ∈ k.work.posts) ∧
  (∀ (s : State) (a : ConsoleId) (i : Instr), s.exchanges .poll a → 2 ≤ s.hall.consoles[a].bad →
    (i = .answerWindowClose ∨ ∃ addr check keys, i = .pollAnswer addr check keys ∧
      ¬(addr = numOf a ∧ check = true ∧ keys.decodes = true)) →
    let r := s.hall.consoles[a]
    let iso := r.isolation + 1
    let v : ConsoleState := if 8 ≤ iso then .quarantined else .fault
    let h := s.hall.afterExchange a { r with
      bad := 0
      candidate := none
      accepted := none
      isolation := iso
      goodExpiry := none
      goodStart := none
      good := 0
      engagedFlash := none
      probeDue := false
      probeTimer := if 8 ≤ iso then none else some (s.hall.tenths + 50) }
    (r.state.onChannel = true → ∃ k, s.takesEvent i k ∧ (release a v h).Kept k) ∧
    (r.state = .requesting → ∃ k, s.takesEvent i k ∧ (endWait a v h).Kept k))

/-- HANDOVER of a console that speaks while its booth's queue holds another: it steps down, the head of the queue
takes the channel where that is its target and otherwise, the channel passed on, is taken as a fresh request; the
count rises and the meter unit is told. Of any other console, or with an empty queue, the press is ignored. A TALK
request in an OVERRIDE booth takes the booth from its owner: a speaking owner's channel itself or, where the target is
another, passed on before a fresh request; a waiting owner's place on the list or, where the target is another, a
fresh request of its own (R46, R48, R49, R51, R54); each meter on HANDOVER that the event of this booth and this
target qualifies for takes it (R150). That a grant or a request ends the ENGAGED flash is inferred (log entry 16);
that the count rises in a CLOSED day as well is the choice of log entry 47. A minute set past 4,294,967,295 stands as
its sum (log entry 50). -/
def Obligations.HandoverAndOverride : Prop :=
  (∀ (h : Hall) (a : ConsoleId) (b : BoothId) (c : ChannelId) (y : ConsoleId) (rest : List ConsoleId), h.floorOf a b c →
    h.booths[b].queue = y :: rest →
    let k := handoverPress a h
    h.steppedDown k a b .idle ∧ k.booths[b].queue = rest ∧
      k.account.booths[b].handovers = min (h.account.booths[b].handovers + 1) 4294967295 ∧ onlyAccount ∈ k.work.asks ∧
      (∀ m : MeterId,
        let x := h.settings.meters[m]
        let r := h.meters[m]
        x.source = .handover →
          ifElse (x.enabled = true ∧ (⟨.handover, some b, none, none, h.target y⟩ : MeterEvent).qualifies x.qualifier = true)
            (ifElse (x.threshold = 0)
              (k.meters[m].count = (if r.count < maxCount then r.count + 1 else r.count) ∧ k.meters[m].tally = r.tally)
              (k.meters[m] = { r with tally := min (r.tally + 1) maxCount }))
            (k.meters[m] = r)) ∧
      (h.target y = some c →
        k.booths[b].owner = some y ∧ k.consoles[y].state = .live ∧ k.consoles[y].handoverExpiry = none ∧
        k.consoles[y].contStart = some h.now ∧ k.work.granted = h.work.granted ++ [y] ∧
        ∀ x : ChannelId, k.channels[x].feeder = (if x = c then some y else h.channels[x].feeder) ∧
          k.waitLists[x] = h.waitLists[x]) ∧
      (h.target y ≠ some c → h.headGranted k c ∧
        h.passedOn k b (h.feedersPassed c) (h.listsPassed c) (h.grantsPassed c))) ∧
  (∀ (h : Hall) (a : ConsoleId) (b : BoothId), h.boothOf a = some b →
    h.consoles[a].state.onChannel = false ∨ h.booths[b].queue = [] → handoverPress a h = h) ∧
  (∀ (s : State) (a : ConsoleId) (old : Keys), let k := { old with handover := true }
    s.accepts a old k → old.handover = false → s.pressTakes a k (handoverPress a (s.hall.keysAccepted a k))) ∧
  (∀ (h : Hall) (a : ConsoleId) (b : BoothId) (o : ConsoleId) (t : ChannelId), a ≠ o → a ∉ h.booths[b].queue →
    h.settings.booths[b].mode = .override →
    (∀ x : ChannelId, ∀ e ∈ h.waitLists[x], e.console ≠ a) →
    let k := overrideRequest a b o t h
    (∀ c, h.floorOf o b c →
      h.steppedDown k o b .idle ∧ k.booths[b].queue = h.booths[b].queue ∧
      (c = t → k.booths[b].owner = some a ∧ k.consoles[a].state = .live ∧ k.consoles[a].contStart = some h.now ∧
        ∀ x : ChannelId, k.channels[x].feeder = (if x = t then some a else h.channels[x].feeder) ∧
          k.waitLists[x] = h.waitLists[x]) ∧
      (c ≠ t → h.headGranted k c ∧
        h.requested k a b t (h.feedersPassed c) (h.listsPassed c) (h.grantsPassed c) h.consoles[a].handoverExpiry)) ∧
    (∀ c, h.waitOf o b c →
      k.consoles[o].state = .idle ∧ k.consoles[o].handoverExpiry = none ∧ k.booths[b].queue = h.booths[b].queue ∧
      (c = t → k.booths[b].owner = some a ∧ k.consoles[a].state = .requesting ∧ k.work.granted = h.work.granted ∧
        ∀ x : ChannelId, k.channels[x].feeder = h.channels[x].feeder ∧
          k.waitLists[x] = if x = c then h.waitLists[c].map fun e => if e.console = o then ⟨a, b⟩ else e
            else h.waitLists[x]) ∧
      (c ≠ t → h.requested k a b t (fun x => h.channels[x].feeder)
        (fun x => if x = c then h.waitLists[c].filter fun e => e.console != o else h.waitLists[x]) h.work.granted
        h.consoles[a].handoverExpiry))) ∧
  (∀ (s : State) (a : ConsoleId) (old : Keys) (b : BoothId) (o : ConsoleId) (t : ChannelId),
    let k := { old with talk := true }
    s.accepts a old k → old.talk = false → s.hall.boothOf a = some b → s.hall.consoles[a].state = .idle →
    s.hall.settings.booths[b].enabled = true → s.hall.settings.booths[b].mode = .override →
    s.hall.booths[b].owner = some o → s.hall.target a = some t →
    s.pressTakes a k (overrideRequest a b o t (s.hall.keysAccepted a k)))

/-- OUTPUT of a console that speaks: the key of the present output is ignored; of an output that names no channel, or
one that has a feeder, it is refused with the ENGAGED flash; otherwise the feed moves, the old channel passed on and
nothing else of the console changed. RELAY-NEXT steps the selection of a console of a booth with an owner, and at a
booth without one the unowned source and with it the selection of an IDLE console, from FLOOR through the list and
back; with an empty list nothing. A booth that SET BOOTH disables loses its queue and its owner, whose channel is
passed on where it speaks and whose place on a list is left where it waits (R21, R51, R59, R62, R68). The order of the
order's CLAMPED marks is the choice of log entry 44. A minute set past 4,294,967,295 stands as its sum (log entry 50).
-/
def Obligations.OutputRelayAndDisable : Prop :=
  (∀ (h : Hall) (a : ConsoleId) (b : BoothId) (c : ChannelId) (o : Output), h.floorOf a b c →
    let k := outputPress a o h
    let r := h.consoles[a]
    let t := match o with
      | .a => h.settings.booths[b].outA
      | .b => h.settings.booths[b].outB
    ifElse (r.output = o) (k = h) <|
    ifElse (t = none ∨ ∃ x, t = some x ∧ h.channels[x].feeder ≠ none)
      (k = { h with consoles := vset h.consoles a { r with engagedFlash := some (h.tenths + 20) } }) <|
    ∀ x, t = some x →
      k.consoles[a] = { r with output := o } ∧ k.booths[b] = h.booths[b] ∧ h.headGranted k c ∧
      k.work.granted = h.grantsPassed c ∧ k.account = h.account ∧ k.settings = h.settings ∧
      ∀ y : ChannelId, k.channels[y].feeder = (if y = x then some a else h.feedersPassed c y) ∧
        k.waitLists[y] = h.listsPassed c y) ∧
  (∀ (h : Hall) (a : ConsoleId) (b : BoothId), h.boothOf a = some b → h.consoles[a].state.polled = true →
    let k := relayNextPress a h
    let list := h.settings.booths[b].relayList
    let next (x : Option ChannelId) : Option ChannelId :=
      match x with
      | none => list.head?
      | some c => ((list.dropWhile fun d => d != c).drop 1).head?
    let selected (x : Option ChannelId) : Vector ConsoleRun 48 := vset h.consoles a { h.consoles[a] with relaySel := x }
    (list = [] → k = h) ∧
    (list ≠ [] → h.booths[b].owner ≠ none → k = { h with consoles := selected (next h.consoles[a].relaySel) }) ∧
    (list ≠ [] → h.booths[b].owner = none → h.consoles[a].state = .idle →
      k = { h with
        consoles := selected (next h.booths[b].unowned)
        booths := vmod h.booths b fun x => { x with unowned := next x.unowned } })) ∧
  (∀ (s : State) (a : ConsoleId) (old : Keys),
    let pressed (k : Keys) (press : Hall → Hall) : Prop := s.accepts a old k → s.pressTakes a k (press (s.hall.keysAccepted a k))
    (old.outA = false → pressed { old with outA := true } (outputPress a .a)) ∧
    (old.outB = false → pressed { old with outB := true } (outputPress a .b)) ∧
    (old.relayNext = false → pressed { old with relayNext := true } (relayNextPress a))) ∧
  (∀ (h : Hall) (b : BoothId),
    (∀ a ∈ h.booths[b].queue, ∀ x : ChannelId, ∀ e ∈ h.waitLists[x], e.console ≠ a) →
    let k := disableBooth b h
    let queued : Prop := ∀ a ∈ h.booths[b].queue, k.consoles[a].state = .idle ∧ k.consoles[a].handoverExpiry = none
    k.booths[b].owner = none ∧ k.booths[b].queue = [] ∧
    (h.booths[b].owner = none → queued ∧ k.channels = h.channels ∧ k.waitLists = h.waitLists) ∧
    (∀ o c, h.booths[b].owner = some o → h.floorOf o b c →
      queued ∧ h.steppedDown k o b .idle ∧ h.headGranted k c ∧ k.work.granted = h.grantsPassed c ∧
      ∀ x : ChannelId, k.channels[x].feeder = h.feedersPassed c x ∧ k.waitLists[x] = h.listsPassed c x) ∧
    (∀ o c, h.booths[b].owner = some o → h.waitOf o b c →
      queued ∧ k.consoles[o].state = .idle ∧ k.consoles[o].handoverExpiry = none ∧ k.channels = h.channels ∧
      k.work.granted = h.work.granted ∧
      ∀ x : ChannelId, k.waitLists[x] =
        if x = c then h.waitLists[c].filter fun e => e.console != o else h.waitLists[x])) ∧
  (∀ (s : State) (tag : Tag) (b : BoothId) (a : SetBoothArgs), s.ready → a.booth = .val (numOf b) → a.malformed = false →
    (∀ o, a.outA = .val o ∨ a.outB = .val o → (outputChannel o).isSome = true) →
    firstFailing (boothTests false s.hall b a) = none → s.hall.settings.booths[b].enabled = true → a.en = .val false →
    ∃ k, s.answerWaits (.setBooth tag a) tag onlySettings (.ok .plain (clampedTenths "HTO" 20 600 a.hto ++
        clamped "SHIFT1" 1 90 a.shift1 ++ clamped "SHIFTR" 0 30 a.shiftR)) k ∧
      Hall.Kept (disableBooth b { s.hall with
        settings := { s.hall.settings with
          booths := vset s.hall.settings.booths b (a.apply s.hall.settings.booths[b]) } }) k)

/-! ### Relay, carriers, emitters, meters, notices -/

/-- Relay. A booth's source is its owner's selection or, without an owner, its unowned source; its effective input is
the source while that channel is LIVE, and the floor otherwise. A booth resolved begins fallback where it is ENABLED
and its source is a channel not LIVE, with the notice, the meter event and, in an OPEN day, the spell; it ends it
where that no longer holds, with the notice and the spell's minutes added; a change of channel within fallback is
recorded alone. After every event of the booth controller each booth is in fallback exactly where that holds, and
after a change of a channel's service state so is each booth that lists the channel (R67, R72 to R74). -/
def Obligations.RelayFallback : Prop :=
  (∀ (h : Hall) (b : BoothId),
    let r := h.booths[b]
    let source : Option ChannelId := match r.owner with
      | some a => h.consoles[a].relaySel
      | none => r.unowned
    let lost (c : ChannelId) : Prop :=
      source = some c ∧ h.settings.booths[b].enabled = true ∧ h.channels[c].service ≠ .live
    let k := resolveBooth h b
    h.effective b = source.filter (fun c => h.channels[c].service == .live) ∧ h.Kept k ∧
    (∀ c, r.fallback = none → lost c →
      k.booths[b] = { r with
        fallback := some c
        fallbackSince := if h.dayOpen then some h.now else r.fallbackSince } ∧
      (∃ posts, k.work.posts = h.work.posts ++ ⟨.booth, .relayFallback, numOf b, h.now, c.val, false⟩ :: posts) ∧
      k.meters = (meterEvent ⟨.relayFallback, some b, none, none, some c⟩ h).meters ∧ k.account = h.account) ∧
    (∀ c, r.fallback = some c → (∀ d, ¬ lost d) →
      k.booths[b] = { r with fallback := none, fallbackSince := none } ∧
      k.work.posts = h.work.posts ++ [⟨.booth, .relayRestored, numOf b, h.now, c.val, false⟩] ∧ k.meters = h.meters ∧
      k.account = { h.account with booths := vmod h.account.booths b fun d =>
        { d with fallback := asOf r.fallbackSince d.fallback h.now } } ∧
      (r.fallbackSince ≠ none → onlyAccount ∈ k.work.asks)) ∧
    (∀ c d, r.fallback = some c → lost d →
      k = { h with booths := vset h.booths b { r with fallback := some d } }) ∧
    (r.fallback = none → (∀ d, ¬ lost d) → k = h)) ∧
  (∀ (h : Hall) (b : BoothId), (settle h).booths[b].fallback = (settle h).fallbackDue b) ∧
  ∀ (h : Hall) (c : ChannelId), h.channels[c].service ≠ h.serviceOf c →
    ∀ b : BoothId, c ∈ h.settings.booths[b].relayList →
      (reevaluate h c).booths[b].fallback = (reevaluate h c).fallbackDue b

/-- A channel that requests a carrier takes the lowest-numbered FREE one; failing that the HOLDING one of the earliest
expiry, of equals the lower number; then that of the unpinned FILL holder of lowest demand, of equals the higher
channel; then that of the unpinned LIVE holder of lowest demand, where that with the margin is below its own demand or
it is pinned itself; and otherwise joins the wait list in its place. A carrier taken posts CARRIER_EVICT, and an
evicted LIVE channel joins the list, which posts CARRIER_WAIT with its position. At the end of every event of the
allocator, while channels wait, no carrier is FREE, none HOLDING, and none with an unpinned channel in FILL (R79, R81
to R84, R86). -/
def Obligations.CarrierOffers : Prop :=
  (∀ (h : Hall) (c : ChannelId), h.AirLawful → c ≠ 0 → c ∉ h.air.waiting →
    (∀ k : CarrierId, h.air.carriers[k].channel? ≠ some c) →
    let k := requestCarrier c h
    let free (j : CarrierId) : Prop := j ≠ 0 ∧ h.air.carriers[j] = .free
    let holding (j : CarrierId) (e : Nat) : Prop := j ≠ 0 ∧ ∃ d since, h.air.carriers[j] = .holding d since e
    let holder (v : Service) (j : CarrierId) (d : ChannelId) : Prop :=
      j ≠ 0 ∧ (∃ since, h.air.carriers[j] = .onAir d since) ∧ h.settings.channels[d].pinned = false ∧
        h.channels[d].service = v
    let lower (j : CarrierId) (d : ChannelId) : Prop := holder .live j d ∧
      (h.settings.channels[c].pinned = true ∨ h.demand d + h.settings.hall.margin < h.demand c)
    let first (p : CarrierId → ChannelId → Prop) (d : ChannelId) : Prop :=
      ∀ i x, p i x → h.demand d < h.demand x ∨ (h.demand d = h.demand x ∧ x ≤ d)
    let given (j : CarrierId) : Prop := k.air.carriers = vset h.air.carriers j (.onAir c h.now)
    let evicted (j : CarrierId) (d : ChannelId) : Notice := ⟨.carrier, .carrierEvict, d.val, h.now, j.val, false⟩
    let joins (d : ChannelId) : Prop := k.air.waiting.Perm (d :: h.air.waiting) ∧
      (k.air.waiting.Pairwise fun x y => h.outranks x y = true) ∧
      (⟨.carrier, .carrierWait, d.val, h.now, k.air.waiting.idxOf d + 1, false⟩ : Notice) ∈ k.work.posts
    h.Kept k ∧ k.link = h.link ∧
    (ifElse (∃ j, free j)
      (∀ j, free j → (∀ i, free i → j ≤ i) → given j ∧ k.air.waiting = h.air.waiting ∧ k.work = h.work) <|
    ifElse (∃ j e, holding j e)
      (∀ j e, holding j e → (∀ i x, holding i x → e < x ∨ (e = x ∧ j ≤ i)) →
        given j ∧ k.air.waiting = h.air.waiting ∧ k.work = h.work) <|
    ifElse (∃ j d, holder .fill j d)
      (∀ j d, holder .fill j d → first (holder .fill) d →
        given j ∧ k.air.waiting = h.air.waiting ∧ evicted j d ∈ k.work.posts) <|
    ifElse (∃ j d, lower j d)
      (∀ j d, lower j d → first lower d → given j ∧ joins d ∧ evicted j d ∈ k.work.posts)
      (k.air.carriers = h.air.carriers ∧ joins c))) ∧
  ∀ (h : Hall) (act : Hall → Hall),
    (∀ c ∈ (act h).air.waiting, (act h).channels[c].service = .live ∧ (act h).settings.channels[c].pinned = false) →
    let k := allocEvent act h
    (act h).Kept k ∧ (k.air.waiting ≠ [] → ∀ j : CarrierId, j ≠ 0 → ∃ c since, k.air.carriers[j] = .onAir c since ∧
      ¬(k.settings.channels[c].pinned = false ∧ k.channels[c].service = .fill))

/-- What the reports of the channel plan do to a channel's carrier while no channel waits: a channel that becomes LIVE
without one takes the lowest-numbered FREE one; HOLDING, it returns to ON_AIR with its stamp as the channel becomes
LIVE or FILL; an unpinned channel that becomes SILENT begins the hold, or at a hold time of 0 loses the carrier; a
channel that is disabled loses it; and otherwise it stands. With one channel waiting, the carrier that would begin a
hold is given to that. Pinning set on takes a FREE carrier or ends a hold; set off, it releases the carrier of a
SILENT channel. At the end the generation has risen where the content changed, the spells and the counts of carriers
in use and of unserved channels are those of the carriers as they stand (R8, R10 to R12, R80, R82, R86 to R90, R93,
R149). The order of the reports of one SET CHANNEL is the choice of log entry 39. -/
def Obligations.CarrierReports : Prop :=
  (∀ (h : Hall) (c : ChannelId), h.AirLawful → c ≠ 0 → h.channels[c].service ≠ h.serviceOf c →
    let v := h.serviceOf c
    let k := reevaluate h c
    let set := h.settings.hall
    let holds (j : CarrierId) (r : Carrier) : Prop := h.air.carriers[j] = r ∧ j ≠ 0
    let becomes (j : CarrierId) (r : Carrier) : Prop := k.air.carriers = vset h.air.carriers j r
    k.channels[c].service = v ∧
    k.link.generation = (if k.directory = h.link.content then h.link.generation else (h.link.generation + 1) % 65536) ∧
    k.levels.carriers = k.inUse ∧ k.air.peak = max h.air.peak k.inUse ∧ k.levels.unserved = k.unservedCount ∧
    (h.air.waiting = [] →
      k.channels[c].servedSince = (if k.serves c then
        some (if h.onAir c then h.channels[c].servedSince.getD h.now else h.now) else none) ∧
      k.channels[c].outageSince = (if k.lacks c then some (h.channels[c].outageSince.getD h.now) else none) ∧
      (∀ j, (∀ i : CarrierId, h.air.carriers[i].channel? ≠ some c) → v = .live → holds j .free →
        (∀ i, holds i .free → j ≤ i) → becomes j (.onAir c h.now) ∧ k.air.waiting = []) ∧
      ((∀ i : CarrierId, h.air.carriers[i].channel? ≠ some c) → v ≠ .live →
        k.air.carriers = h.air.carriers ∧ k.air.waiting = []) ∧
      (∀ j since e, holds j (.holding c since e) → v = .live ∨ v = .fill → becomes j (.onAir c since)) ∧
      (∀ j since, holds j (.onAir c since) → v = .live ∨ v = .fill ∨ (v = .silent ∧ h.settings.channels[c].pinned = true) →
        k.air.carriers = h.air.carriers) ∧
      (∀ j since, holds j (.onAir c since) → v = .silent → h.settings.channels[c].pinned = false →
        becomes j (if set.hold = 0 then .free else .holding c since (h.tenths + set.hold))) ∧
      (∀ j, h.air.carriers[j].channel? = some c → v = .off → becomes j .free)) ∧
    (∀ d j since, h.air.waiting = [d] → h.channels[d].service = .live → holds j (.onAir c since) → v = .silent →
      h.settings.channels[c].pinned = false →
      (∀ i : CarrierId, i ≠ 0 → h.air.carriers[i] ≠ .free ∧ h.air.carriers[i].expiry? = none) →
      becomes j (.onAir d h.now) ∧ k.air.waiting = [])) ∧
  ∀ (s : State) (tag : Tag) (c : ChannelId) (on : Bool), s.ready → c ≠ 0 →
    let h := s.hall
    let a : SetChannelArgs := ⟨.val c.val, .absent, .absent, .absent, .absent, .val on, .absent⟩
    firstFailing (channelTests false h c a) = none → h.AirLawful → h.air.waiting = [] →
    h.channels[c].service = h.serviceOf c → h.settings.channels[c].enabled = true →
    ∃ areas k, s.answerWaits (.setChannel tag a) tag areas (.ok .plain []) k ∧ k.settings.channels[c].pinned = on ∧
      (on = true → h.settings.channels[c].pinned = false →
        (∀ j : CarrierId, (∀ i : CarrierId, h.air.carriers[i].channel? ≠ some c) → j ≠ 0 → h.air.carriers[j] = .free →
          (∀ i : CarrierId, i ≠ 0 → h.air.carriers[i] = .free → j ≤ i) →
          k.air.carriers = vset h.air.carriers j (.onAir c h.now)) ∧
        (∀ (j : CarrierId) since e, h.air.carriers[j] = .holding c since e →
          k.air.carriers = vset h.air.carriers j (.onAir c since)) ∧
        (∀ (j : CarrierId) since, h.air.carriers[j] = .onAir c since → k.air.carriers = h.air.carriers)) ∧
      (on = false → h.settings.channels[c].pinned = true →
        ∀ j : CarrierId, h.air.carriers[j].channel? = some c →
          k.air.carriers = if h.channels[c].service = .silent then vset h.air.carriers j .free else h.air.carriers)

/-- A hold expiry frees its carrier, which a channel that waits then takes; an emitter's answer sets its slot, with a
notice of a change; a directory send closes the window of the one before, counting each slot that did not answer, and
sends the directory as it stands. Where either changes whether the hall is dark, every channel is re-evaluated. The
generation rises exactly where the content changed (R10 to R12, R81, R86, R87, R90 to R92). The tick of the sends, and
that a hold's expiry that does not stand due takes nothing, are the model's choices (log entries 6, 17, 18). -/
def Obligations.CarriersAndEmitters : Prop :=
  ∀ s : State, s.resetn = false → s.atRest →
    let h := s.hall
    let reviewed (j : Hall) : Prop := j.dark ≠ h.dark → ∀ c : ChannelId,
      j.channels[c].servedSince = (if j.serves c then some (h.channels[c].servedSince.getD h.now) else none) ∧
      j.channels[c].outageSince = (if j.lacks c then some (h.channels[c].outageSince.getD h.now) else none)
    (∀ k : CarrierId, (∀ c since t, h.air.carriers[k] = .holding c since t → h.tenths < t) →
      s.takesEvent (.holdExpiry k) h) ∧
    (∀ (k : CarrierId) (c : ChannelId) (since t : Nat), h.air.carriers[k] = .holding c since t → t ≤ h.tenths →
      let generation (j : Hall) : Nat :=
        if j.directory = h.link.content then h.link.generation else (h.link.generation + 1) % 65536
      let frees (r : Carrier) : Prop :=
        ∃ j, s.takesEvent (.holdExpiry k) j ∧ j.air.carriers = vset h.air.carriers k r ∧ j.air.waiting = [] ∧
          j.link.generation = generation j ∧ j.link.slots = h.link.slots ∧
          h.Kept j
      (h.air.waiting = [] → frees .free) ∧
      (∀ d, h.air.waiting = [d] → k ≠ 0 → (∀ l : CarrierId, l ≠ 0 → h.air.carriers[l] ≠ .free) →
        frees (.onAir d h.now))) ∧
    (∀ (e : EmitterId) (report : EmitterReport) (v : SlotState),
      (report = .ok ∧ v = .ok ∨ report = .fault ∧ v = .fault) →
      let i : Instr := .emitterAnswer (numOf e) report
      let slots := vset h.link.slots e ⟨v, 0, true⟩
      ifElse (h.link.slots[e].state = v) (s.takesEvent i { h with link := { h.link with slots := slots } }) <|
        ∃ j, s.takesEvent i j ∧ j.link = { h.link with slots := slots } ∧ h.Kept j ∧ j.air = h.air ∧
          (⟨.carrier, .emitterChange, numOf e, h.now, v.code, false⟩ : Notice) ∈ j.work.posts ∧
          ((⟨h.now, .emitterFault, numOf e⟩ : FaultEntry) ∈ j.work.faults ↔ v = .fault) ∧ reviewed j) ∧
    (∀ (n : Nat) (report : EmitterReport), n = 0 ∨ 8 < n ∨ report = .malformed →
      s.takesEvent (.emitterAnswer n report) h) ∧
    ∃ j, s.takesEvent .directorySend j ∧
      let ticks := max h.clock.ticks h.link.nextSend
      Hall.Kept { h with clock := { h.clock with ticks := ticks } } j ∧ j.air = h.air ∧
      j.link.sentGen = h.link.generation ∧ j.link.sent = h.directory ∧ j.link.generation = h.link.generation ∧
      j.link.nextSend = ticks + 5 ∧ j.link.windows = min 3 (h.link.windows + 1) ∧ reviewed j ∧
      ∀ e : EmitterId,
        let x := h.link.slots[e]
        j.link.slots[e] =
          if x.answered then { x with answered := false }
          else ⟨if 2 ≤ x.missed then .absent else x.state, min 3 (x.missed + 1), false⟩

/-- A meter counts an event of its kind and qualifier at once where its threshold is 0, with the preset and saturation
tests of the rise, and tallies it otherwise; a level handed stands as the last of its kind, and each meter on it takes
the greater of its tally and the level; a window close that stands due turns the tally into a result, counts it by the
edge rule, makes the same tests, and begins the next window; CLEAR METER clears the results and answers the count
before, and a meter missing, malformed or not 1 to 8 is refused with RANGE (R149 to R152, R154; missing and malformed
by log entry 13). METER_FULL's value is not stated and stands free (log entry 1). A close that does not stand due is
not taken by log entry 6's choice. A minute set past 4,294,967,295 stands as its sum (log entry 50). -/
def Obligations.MeterWindows : Prop :=
  (∀ (h : Hall) (e : MeterEvent) (m : MeterId),
    let x := h.settings.meters[m]
    let r := h.meters[m]
    let k := meterEvent e h
    let counts := x.enabled = true ∧ x.source = e.kind ∧ e.qualifies x.qualifier = true
    let presets := decide (0 < x.preset) && !r.latch && r.count + 1 == x.preset
    let fills := !r.full && r.count + 1 == maxCount
    let isPreset (n : Notice) : Bool := n.kind == .meterPreset && n.subject == numOf m
    let isFull (n : Notice) : Bool := n.kind == .meterFull && n.subject == numOf m
    (counts → x.threshold = 0 → r.count < maxCount →
      k.meters[m] = { r with count := r.count + 1, latch := r.latch || presets, full := r.full || fills } ∧
      k.work.posts.filter isPreset = h.work.posts.filter isPreset ++
        (if presets then [⟨.meter, .meterPreset, numOf m, h.now, x.preset, false⟩] else []) ∧
      (∃ v, k.work.posts.filter isFull = h.work.posts.filter isFull ++
        if fills then [⟨.meter, .meterFull, numOf m, h.now, v, false⟩] else [])) ∧
    (counts → x.threshold ≠ 0 → k.meters[m] = { r with tally := min (r.tally + 1) 4294967295 }) ∧
    (¬ counts ∨ (x.threshold = 0 ∧ r.count = maxCount) → k.meters[m] = r) ∧
    (¬ counts ∨ x.threshold ≠ 0 ∨ r.count = maxCount → (k.work.posts.filter fun n => isPreset n || isFull n) =
      h.work.posts.filter fun n => isPreset n || isFull n)) ∧
  (∀ (h : Hall) (kind : MeterSource) (v : Nat) (m : MeterId), kind.isLevel = true →
    let x := h.settings.meters[m]
    let k := meterLevel kind v h
    k.levels.of kind = some v ∧ (∀ other, other ≠ kind → k.levels.of other = h.levels.of other) ∧
      k.meters[m] = (if x.enabled = true ∧ x.source = kind then { h.meters[m] with tally := max h.meters[m].tally v }
        else h.meters[m]) ∧
      k = { h with levels := k.levels, meters := k.meters }) ∧
  (∀ (s : State) (m : MeterId), s.resetn = false → s.atRest →
    let h := s.hall
    let x := h.settings.meters[m]
    let r := h.meters[m]
    (∀ n, r.next = some n → n ≤ h.now →
      let result := if x.invert then decide (r.tally < x.threshold) else decide (x.threshold ≤ r.tally)
      let rises := result = true ∧ ¬(x.edge = true ∧ r.prev = true) ∧ r.count < maxCount
      ∃ k, s.takesEvent (.windowClose m) k ∧ k = { h with meters := k.meters, work := k.work, free := k.free } ∧
        (∀ l, l ≠ m → k.meters[l] = h.meters[l]) ∧ k.meters[m].prev = result ∧
        k.meters[m].tally = (h.levels.of x.source).getD 0 ∧ k.meters[m].next = some (n + x.window) ∧
        ifElse rises
          (k.meters[m].count = r.count + 1 ∧
            (0 < x.preset → r.latch = false → r.count + 1 = x.preset → k.meters[m].latch = true ∧
              (⟨.meter, .meterPreset, numOf m, h.now, x.preset, false⟩ : Notice) ∈ k.work.posts) ∧
            (r.full = false → r.count + 1 = maxCount → k.meters[m].full = true ∧
              ∃ v, (⟨.meter, .meterFull, numOf m, h.now, v, false⟩ : Notice) ∈ k.work.posts))
          (k.meters[m].count = r.count ∧ k.meters[m].latch = r.latch ∧ k.work = h.work)) ∧
    (r.next = none ∨ (∃ n, r.next = some n ∧ h.now < n) → s.takesEvent (.windowClose m) h)) ∧
  (∀ (s : State) (tag : Tag), s.takesOrders →
    let h := s.hall
    (∀ m : MeterId, s.answersNow (.clearMeter tag (.val (numOf m))) tag (.ok (.was h.meters[m].count) [])
      { h with meters := vset h.meters m { h.meters[m] with
        count := 0
        tally := (h.levels.of h.settings.meters[m].source).getD 0
        prev := false
        latch := false
        full := false } }) ∧
    ∀ x : Arg Nat, x = .bad ∨ x.outOf 1 8 → s.answersNow (.clearMeter tag x) tag (.er .range) h)

/-- Delivery of a posting: where two notices of its BOOTH subject are queued, the later of the two is removed and the
posting takes the tail marked SEVERAL; where the queue is full it replaces the tail, marked; otherwise it is appended.
So the queue keeps to 32 notices, and to two of any BOOTH subject (R162, R163). FETCH NOTICES takes the oldest
unmasked notices, up to 8, and leaves the others in their order; CLEAR FAULTS empties the log and answers its length;
ACK CONDITION removes a condition whose cause has ended, and is refused with SYNTAX where NAME, or ADDR exactly for
QUARANTINE, is not given in form, with RANGE for an ADDR out of range, with NOT_FOUND for one not raised and with
STILL_ACTIVE for one whose cause stands (R164, R165, R167). Conditions meet their causes at the end of the event (log
entry 33). -/
def Obligations.NoticesDeliveredAndFetched : Prop :=
  (∀ (q : List Notice) (n : Notice),
    let same := q.filter fun x => n.sameSubject x
    (2 ≤ same.length → ∃ front x back, q = front ++ x :: back ∧ n.sameSubject x = true ∧
      (∀ y ∈ back, n.sameSubject y = false) ∧ deliver q n = front ++ back ++ [{ n with several := true }]) ∧
    (same.length < 2 → q.length < 32 → deliver q n = q ++ [n]) ∧
    (same.length < 2 → 32 ≤ q.length → ∃ front x, q = front ++ [x] ∧
      deliver q n = front ++ [{ n with several := true }]) ∧
    (q.length ≤ 32 → (deliver q n).length ≤ 32) ∧
    ((∀ m : Notice, (q.filter fun x => m.sameSubject x).length ≤ 2) →
      ∀ m : Notice, ((deliver q n).filter fun x => m.sameSubject x).length ≤ 2)) ∧
  (∀ (s : State) (tag : Tag), s.takesOrders → s.atRest →
    let u := s.notice
    let does (i : Instr) (r : Result) (v : NoticeUnit) (t : State) : Prop :=
      exec i s = .next t ∧ State.endsWith { s with notice := v } s.hall t ∧ s.asks none s.hall t ∧ t.desks = s.desks ∧ t.port = s.port.answered ∧
        t.out = [⟨.host t.noticesWaiting t.conditionRaised, tag, r, s.port.overrun⟩]
    let open_ := u.queue.filter fun n => !s.hall.settings.hall.masked.contains n.cls
    let masked := u.queue.filter fun n => s.hall.settings.hall.masked.contains n.cls
    (∃ rest t, does (.fetchNotices tag) (.ok (.notices (open_.take 8)) []) { u with queue := rest } t ∧
      t.notice.queue = rest ∧ rest.Sublist u.queue ∧
      (rest.filter fun n => !s.hall.settings.hall.masked.contains n.cls) = open_.drop 8 ∧
      (rest.filter fun n => s.hall.settings.hall.masked.contains n.cls) = masked) ∧
    (∃ t, does (.clearFaults tag) (.ok (.was u.log.length) []) { u with log := [] } t ∧ t.notice.log = []) ∧
    (∀ (name : Arg ConditionName) (addr : Arg Nat),
      let refused (c : AnswerCode) : Prop := s.answersNow (.ackCondition tag name addr) tag (.er c) s.hall
      (name = .absent ∨ name = .bad ∨ (name = .val .quarantine ∧ (addr = .absent ∨ addr = .bad)) ∨
        (∃ x, name = .val x ∧ x ≠ .quarantine ∧ addr ≠ .absent) → refused .syntaxError) ∧
      (∀ n, name = .val .quarantine → addr = .val n → n = 0 ∨ 48 < n → refused .range)) ∧
    ∀ (name : ConditionName) (a : ConsoleId),
      let i : Instr := .ackCondition tag (.val name) (if name = .quarantine then .val (numOf a) else .absent)
      match u.conds.get name a with
      | .clear => s.answersNow i tag (.er .notFound) s.hall
      | .active => s.answersNow i tag (.er .stillActive) s.hall
      | .ended => u.conds = syncConditions s.hall s.store.failed u.conds →
        ∃ t, does i (.ok .plain []) { u with conds := u.conds.remove name a } t ∧ t.notice.conds = u.conds.remove name a)

/-! ### The store, the inputs, start-up and restart -/

/-- The completion of the write in progress: the answers that wait on it are sent first, with N and A as they then
stand; a taken area holds the content of the moment the write began and is no longer failed, an area not taken has
failed, is logged, and is written again 1.0 s later; the next write begins with the content of this moment. An area's
rewrite takes the tail of the list (R160, R170). That a rewrite joins no write is inferred (log entry 26). Choices of
the model: a later failure replaces the time of a rewrite that waits, and a write that takes the area ends it (log
entry 54), the taken areas of a write taken in part hold the new content at once (log entry 55), and a rewrite whose
time has not come takes nothing (log entry 6). -/
def Obligations.StoreEvents : Prop :=
  ∀ s : State, s.resetn = false → s.atRest →
    (∀ (w : CurrentWrite) (bad : AreaSet), s.store.current = some w →
      ∃ t, exec (.writeCompletion bad) s = .next t ∧ t.hall = s.hall.rested ∧
        t.store.held = s.store.held.store w.content (w.areas.diff bad) ∧
        (∀ a : Area, t.store.failed.has a = if w.areas.has a then bad.has a else s.store.failed.has a) ∧
        (∀ a : Area, t.store.rewrite.get a = if w.areas.has a then (if bad.has a then some (s.hall.tenths + 10) else none)
          else s.store.rewrite.get a) ∧
        (∀ a : Area, w.areas.has a = true → bad.has a = true →
          (⟨s.hall.now, .storeWrite, a.number⟩ : FaultEntry) ∈ t.notice.log) ∧
        t.store.current = (s.store.writes.head?).map (fun x => ⟨x.areas, contentOf s.hall x.areas, x.waiters⟩) ∧
        t.store.writes = s.store.writes.tail ∧
        (∀ tag r, Waiter.host tag r ∈ w.waiters → t.port.busy = false ∧ ∃ x ∈ t.out, x.tag = tag ∧ x.result = r ∧
          x.addressee = .host s.noticesWaiting s.conditionRaised) ∧
        (∀ d tag r, Waiter.desk d tag r ∈ w.waiters →
          t.desks[d].busy = false ∧ ∃ x ∈ t.out, x.tag = tag ∧ x.result = r ∧ x.addressee = .desk d) ∧
        (t.listening = true ↔ s.listening = true ∨ Waiter.startUp ∈ w.waiters) ∧
        t.pending = s.pending ∧ t.pfw = s.pfw ∧ t.resetn = false) ∧
    (∀ a : Area, (∀ tenth, s.store.rewrite.get a = some tenth → s.hall.tenths < tenth) → s.ignores (.areaRewrite a)) ∧
    (∀ (a : Area) (tenth : Nat), s.store.rewrite.get a = some tenth → tenth ≤ s.hall.tenths →
      ∃ t, exec (.areaRewrite a) s = .next t ∧ t.hall = s.hall.rested ∧
        (∀ x : Area, t.store.rewrite.get x = if x = a then none else s.store.rewrite.get x) ∧
        t.store.held = s.store.held ∧ t.store.failed = s.store.failed ∧ t.out = [] ∧
        match s.store.current, s.store.writes with
        | none, [] =>
          t.store.current = some ⟨AreaSet.single a, contentOf s.hall (AreaSet.single a), []⟩ ∧ t.store.writes = []
        | none, x :: rest =>
          t.store.current = some ⟨x.areas, contentOf s.hall x.areas, x.waiters⟩ ∧
            t.store.writes = rest ++ [⟨AreaSet.single a, []⟩]
        | some w, l => t.store.current = some w ∧ t.store.writes = l ++ [⟨AreaSet.single a, []⟩])

/-- PFWn asserted brings every open spell up to now, its minutes into the account of its channel, console or booth,
leaves every figure as of now, and asks for the ACCOUNT write (R17, R39, R75, R171); its release ends the warning and
nothing else. RESETn asserted lets the write in progress complete with every area taken, answers each order and
request that waits on it, and drops the writes behind it with what waits on them (R171, R174). That the write's
answers are sent in the same event, and that under RESETn only PFWn's level is followed, is inferred (log entry 23);
that an input asserted already is asserted to no effect is log entry 2. -/
def Obligations.PowerInputs : Prop :=
  ∀ s : State,
    (s.atRest → s.resetn = false → s.pfw = false →
      ∃ (t : State) (k : Hall), exec .pfwnAssertion s = .next t ∧ t.hall = k.rested ∧ t.pfw = true ∧ t.written .account ∧ t.out = [] ∧
        t.port = s.port ∧ t.desks = s.desks ∧ t.listening = s.listening ∧ t.resetn = false ∧ t.pending = s.pending ∧
        k.settings = s.hall.settings ∧ k.fleet = s.hall.fleet ∧ k.clock = s.hall.clock ∧ k.air = s.hall.air ∧
        k.link = s.hall.link ∧ k.meters = s.hall.meters ∧ k.waitLists = s.hall.waitLists ∧
        k.account = { s.hall.account with
          channels := vtab fun c => ⟨s.hall.outage c, s.hall.onAirMinutes c, s.hall.fillMinutes c⟩
          booths := vtab fun b => ⟨s.hall.account.booths[b].handovers, s.hall.boothLiveMinutes b, s.hall.fallbackMinutes b⟩
          consoleLive := vtab fun a => s.hall.consoleLiveMinutes a } ∧
        (∀ c : ChannelId, k.channels[c] = { s.hall.channels[c] with
          outageSince := s.hall.channels[c].outageSince.map fun _ => s.hall.now
          servedSince := s.hall.channels[c].servedSince.map fun _ => s.hall.now
          fillSince := s.hall.channels[c].fillSince.map fun _ => s.hall.now }) ∧
        (∀ a : ConsoleId, k.consoles[a] = { s.hall.consoles[a] with liveSince := s.hall.consoles[a].liveSince.map fun _ => s.hall.now }) ∧
        ∀ b : BoothId, k.booths[b] =
          { s.hall.booths[b] with fallbackSince := s.hall.booths[b].fallbackSince.map fun _ => s.hall.now }) ∧
    (s.pfw = true → s.ignores .pfwnAssertion) ∧
    (s.pfw = false → s.resetn = true → exec .pfwnAssertion s = .next { s with pfw := true, out := [] }) ∧
    exec .pfwnRelease s = .next { s with pfw := false, out := [] } ∧
    (s.resetn = false →
      ∃ t, exec .resetnAssertion s = .next t ∧ t.resetn = true ∧ t.hall = s.hall ∧ t.store.current = none ∧
        t.store.writes = [] ∧ t.pfw = s.pfw ∧ t.pending = s.pending ∧
        match s.store.current with
        | none => t = { s with resetn := true, store := { s.store with writes := [] }, out := [] }
        | some w =>
          t.store.held = s.store.held.store w.content w.areas ∧ t.store.failed = s.store.failed.diff w.areas ∧
          (∀ tag r, Waiter.host tag r ∈ w.waiters → t.port.busy = false ∧ ∃ x ∈ t.out, x.tag = tag ∧ x.result = r ∧
            x.addressee = .host s.noticesWaiting s.conditionRaised) ∧
          (∀ d tag r, Waiter.desk d tag r ∈ w.waiters →
            t.desks[d].busy = false ∧ ∃ x ∈ t.out, x.tag = tag ∧ x.result = r ∧ x.addressee = .desk d) ∧
          ∀ x ∈ t.out, (∃ r n c, Waiter.host x.tag r ∈ w.waiters ∧ x.result = r ∧ x.addressee = .host n c) ∨
            ∃ d r, Waiter.desk d x.tag r ∈ w.waiters ∧ x.result = r ∧ x.addressee = .desk d) ∧
    (s.resetn = true → s.ignores .resetnAssertion)

/-- Start-up: the areas without good content are loaded with defaults and logged, the power-up count rises, the clock
resumes stale at the latest of the stored minute and the stamps; each hire stands, moved to channel 0 where its
channel is DISABLED by default settings, with a snapshot of 0 where the account is lost, and OVERDUE with its receiver
where its due minute is reached; in a lawful fleet the demand, the level of the open hires and, after a lost account,
their peak are the counts of the hires; the pinned channels take carriers 1 upwards, the spells begin at the resume
minute, and no line is assembled until the write of what has changed completes. READ START's results are these (R18,
R40, R63, R76, R94, R99, R117, R155, R165, R174, R175, R177). An area without content is bad by log entry 34, the
areas of the write that a loss of power cut short by log entry 32, and others may come damaged with the command; that
FLEET is written too where only snapshots were set to 0 is inferred (log entry 28); the minute and the order of the
STORE_BAD entries are the choice of log entry 53, and that RESETn stands released that of log entry 56; the orders in
progress are dropped (log entry 38); an outage below a hire's snapshot counts as no minutes (log entry 45), and a next
close past 4,294,967,295 stands as its sum (log entry 50). -/
def Obligations.StartUp : Prop :=
  ∀ (s : State) (cause : StartCause) (damaged : AreaSet), (cause = .resetnRelease → s.resetn = true) →
    let lacking : AreaSet := ⟨s.store.held.settings.isNone, s.store.held.fleet.isNone, s.store.held.account.isNone,
      s.store.held.clock.isNone⟩
    let cut : AreaSet := if cause = .powerUp then (s.store.current.map CurrentWrite.areas).getD AreaSet.none else AreaSet.none
    let bad := (damaged.union cut).union lacking
    let settings := if bad.settings then Settings.default else s.store.held.settings.getD Settings.default
    let fleet := if bad.fleet then Fleet.default else s.store.held.fleet.getD Fleet.default
    let account := if bad.account then Account.default else s.store.held.account.getD Account.default
    let clock := if bad.clock then none else s.store.held.clock
    let stamps := fleet.hires.map Hire.issued ++ account.log.map Interval.start ++ account.log.filterMap Interval.finish
    let stray (x : Hire) : Bool := bad.settings && !settings.channels[x.preset].enabled
    let pinned : List ChannelId := (ids 32).filter fun c => c != 0 && settings.channels[c].enabled && settings.channels[c].pinned
    let running : Prop := ∃ n k, account.session = .running n k
    let isOpen := account.day.isOpen || (bad.account && !bad.fleet && fleet.hires != [])
    ∃ t m, exec (.startUp cause damaged) s = .next t ∧
      t.resetn = false ∧ t.listening = false ∧ t.pfw = s.pfw ∧ t.pending = s.pending ∧ t.out = [] ∧
      t.port = ⟨false, false, []⟩ ∧ (∀ d : DeskId, t.desks[d] = ⟨false, false, []⟩) ∧
      -- the clock, the log, the store, and what READ START reports
      t.hall.clock = ⟨m, true, 0, 0⟩ ∧ m ∈ clock.getD 0 :: stamps ∧ (∀ x ∈ clock.getD 0 :: stamps, x ≤ m) ∧
      t.notice.log = ((allAreas.filter fun a => bad.has a).map fun a => ⟨m, .storeBad, a.number⟩) ∧
      (∀ a : Area, t.store.failed.has a = bad.has a ∧ t.start.good.has a = !bad.has a) ∧
      (∃ areas, t.store.awaits areas .startUp ∧ areas.account = true ∧ ∀ a : Area, bad.has a = true → areas.has a = true) ∧
      (∀ a : Area, a ≠ .clock → t.store.held.holds t.hall a ∨ t.written a) ∧
      t.start.resume = m ∧ t.start.dayZero = (bad.account && !bad.fleet && fleet.hires != []) ∧
      t.start.moved = (fleet.hires.filter stray).length ∧
      t.start.limitRaise = (if t.hall.settings.hall.badgeLimit = settings.hall.badgeLimit then 0
        else t.hall.settings.hall.badgeLimit) ∧
      t.start.source = (match clock with
        | none => if stamps = [] then .zero else .stamps
        | some x => if m = x then .clock else .stamps) ∧
      t.notice.conds.clockStale = .active ∧
      t.notice.conds.storeFault = (if bad = AreaSet.none then .clear else .active) ∧ t.notice.conds.hallDark = .clear ∧
      -- the retained records
      t.hall.settings = { settings with hall := { settings.hall with badgeLimit := t.hall.settings.hall.badgeLimit } } ∧
      settings.hall.badgeLimit ≤ t.hall.settings.hall.badgeLimit ∧
      (∀ b ∈ fleet.badges, b.hires.length ≤ t.hall.settings.hall.badgeLimit) ∧
      (t.hall.settings.hall.badgeLimit = settings.hall.badgeLimit ∨
        ∃ b ∈ fleet.badges, t.hall.settings.hall.badgeLimit = b.hires.length) ∧
      t.hall.account = { account with
        day := { account.day with isOpen := isOpen, powerUps := min (account.day.powerUps + 1) 4294967295 }
        peakHires := t.hall.account.peakHires } ∧
      (bad.account = false → t.hall.account.peakHires = account.peakHires) ∧
      t.hall.fleet.badges = fleet.badges ∧
      (fleet.Lawful →
        (∀ n, t.hall.hire n = (fleet.hires.find? fun x => x.number == n).map fun x =>
          { x with
            unserved := if stray x then
              min (x.unserved + (account.channels[x.preset].outage - x.snapshot)) 4294967295 else x.unserved
            snapshot := if bad.account then 0 else if stray x then account.channels[(0 : ChannelId)].outage else x.snapshot
            preset := if stray x then 0 else x.preset
            stale := stray x || x.stale
            overdue := x.overdue || x.due.any fun d => d ≤ m }) ∧
        (∀ r ∈ fleet.receivers, t.hall.receiver r.serial = some (match r.state with
          | .issued n =>
            if (fleet.hires.any fun x => x.number == n && x.due.any fun d => d ≤ m) then { r with state := .overdue n }
            else r
          | _ => r)) ∧
        t.hall.fleet.receivers.length = fleet.receivers.length ∧ t.hall.fleet.hires.length = fleet.hires.length ∧
        (∀ w : WindowId, t.hall.lowFired[w] = decide (t.hall.stockCount w < settings.windows[w].lowStock)) ∧
        (bad.account = true → t.hall.account.peakHires = t.hall.fleet.hires.length) ∧
        (∀ c : ChannelId, t.hall.channels[c].demand = (t.hall.fleet.hires.filter fun y => y.preset == c).length) ∧
        t.hall.levels.hires = t.hall.fleet.hires.length) ∧
      -- the blocks
      (∀ c : ChannelId,
        let x := t.hall.channels[c]
        x.feeder = none ∧ t.hall.waitLists[c] = [] ∧
        x.peak = x.demand ∧
        x.service = (if c = 0 then .live else if settings.channels[c].enabled = false then .off
          else if settings.channels[c].fill then .fill else .silent) ∧
        x.servedSince = none ∧
        (x.outageSince = some m ↔ settings.channels[c].enabled = true ∧ running) ∧ (x.outageSince = none ∨ x.outageSince = some m) ∧
        (x.fillSince = some m ↔ x.service = .fill ∧ isOpen = true) ∧ (x.fillSince = none ∨ x.fillSince = some m)) ∧
      (pinned.length ≤ 15 → t.hall.air.waiting = [] ∧ ∀ k : CarrierId, t.hall.air.carriers[k] =
        if k = 0 then .onAir 0 m
        else match pinned[k.val - 1]? with
          | some c => .onAir c m
          | none => .free) ∧
      ((∀ x ∈ fleet.hires, x.overdue = true ∨ ∀ d, x.due = some d → m < d) → pinned.length ≤ 15 → t.notice.queue = []) ∧
      t.hall.levels = ⟨0, t.hall.levels.hires, t.hall.inUse, t.hall.unservedCount⟩ ∧
      (∀ i : MeterId, t.hall.meters[i].next = if settings.meters[i].enabled = true ∧ 0 < settings.meters[i].threshold then
        some (m + settings.meters[i].window) else none) ∧
      t.hall.link.generation = 1 ∧ (∀ e : EmitterId, t.hall.link.slots[e] = ⟨.absent, 0, false⟩) ∧
      (∀ b : BoothId, t.hall.booths[b] = ⟨none, [], none, none, none⟩) ∧
      ∀ a : ConsoleId, t.hall.consoles[a].state = (if settings.consoleBooth[a] = none then .absent else .idle) ∧
        t.hall.consoles[a].output = .a ∧ t.hall.consoles[a].relaySel = none ∧ t.hall.consoles[a].isolation = 0

/-- RESTART takes the interlock down without pass-on, builds the carriers and the relay anew and clears the meters,
leaving settings, hires, log and queue: the pinned ENABLED channels take carriers 1 upwards in channel order, and the
minutes of the live, fallback and channel spells up to the restart minute stand in the account. It is answered at once
or when the ACCOUNT write it asked for completes; the notice queue is emptied and every ENDED condition removed. With
HOLD the blocks stand. Shown where no expiry stands due; a HOLD with a value is refused with SYNTAX (R18, R41, R63,
R76, R94, R155, R169, R176). The restart is one event of no duration (log entry 27). -/
def Obligations.RestartOrders : Prop :=
  ∀ (s : State) (tag : Tag), s.ready →
    let h := s.hall
    let cleared (t : State) : Prop :=
      t.notice.queue = [] ∧ t.notice.log = s.notice.log ∧ t.desks = (vtab fun d => s.desks[d].cleared) ∧
        (∀ name a, t.notice.conds.get name a ≠ .ended) ∧ t.listening = s.listening ∧ t.pending = s.pending ∧
        t.store.held = s.store.held
    let pinned : List ChannelId :=
      (ids 32).filter fun c => c != 0 && h.settings.channels[c].enabled && h.settings.channels[c].pinned
    let answered (t : State) : Prop :=
      t.out = [⟨.host t.noticesWaiting t.conditionRaised, tag, .ok .plain [], false⟩] ∧ t.port.busy = false
    ((∀ x ∈ h.fleet.hires, x.overdue = false → ∀ d, x.due = some d → h.now < d) →
      (∀ m : MeterId, 1 ≤ h.settings.meters[m].window) →
      (∀ a : ConsoleId, h.consoles[a].state = .absent ∨ h.consoles[a].state = .quarantined →
        h.consoles[a].handoverExpiry = none ∧ h.consoles[a].probeTimer = none ∧ h.consoles[a].engagedFlash = none ∧
          h.consoles[a].goodExpiry = none) →
      ∃ t, exec (.restart tag) s = .next t ∧ cleared t ∧
        (answered t ∨ t.out = [] ∧ t.port.busy = true ∧ t.store.awaits onlyAccount (.host tag (.ok .plain []))) ∧
        t.hall.settings = h.settings ∧ t.hall.fleet = h.fleet ∧ t.hall.clock = h.clock ∧
        t.hall.account.log = h.account.log ∧ t.hall.account.queue = h.account.queue ∧
        t.hall.account.session = h.account.session ∧ t.hall.air.carriers[(0 : CarrierId)] = .onAir 0 h.now ∧
        (pinned.length ≤ 15 → t.hall.air.waiting = [] ∧ ∀ k : CarrierId, k ≠ 0 → t.hall.air.carriers[k] =
          match pinned[k.val - 1]? with
          | some c => .onAir c h.now
          | none => .free) ∧
        t.hall.account.consoleLive = (vtab fun a => h.consoleLiveMinutes a) ∧
        t.hall.account.booths =
          (vtab fun b => ⟨h.account.booths[b].handovers, h.boothLiveMinutes b, h.fallbackMinutes b⟩) ∧
        t.hall.account.channels = (vtab fun c => ⟨h.outage c, h.onAirMinutes c, h.fillMinutes c⟩) ∧
        (∀ b : BoothId, t.hall.booths[b].fallback = none) ∧
        (∀ b : BoothId, t.hall.booths[b].owner = none ∧ t.hall.booths[b].queue = [] ∧
          t.hall.booths[b].unowned = none) ∧
        (∀ c : ChannelId, t.hall.channels[c].feeder = none ∧ t.hall.waitLists[c] = [] ∧
          t.hall.channels[c].demand = h.channels[c].demand) ∧
        (∀ a : ConsoleId, t.hall.consoles[a].state =
          if h.consoles[a].state = .absent ∨ h.consoles[a].state = .quarantined then h.consoles[a].state else .idle) ∧
        ∀ m : MeterId, t.hall.meters[m].count = 0 ∧ t.hall.meters[m].latch = false) ∧
    (h.dueExpiries = [] →
      ∃ t, exec (.restartHold tag false) s = .next t ∧ cleared t ∧ answered t ∧ t.hall = h.rested) ∧
    s.answersNow (.restartHold tag true) tag (.er .syntaxError) h
end

