-- ==== Sys2Proof/Laws/Notices.lean ====
section
/-! SUPPORT. The notice unit: its bounds, and ATTN at the end of an event. -/

namespace Sys2Proof.Machine

theorem eraseLast_length {α : Type} {p : α → Bool} {l : List α} (h : ∃ x ∈ l, p x = true) :
    (eraseLast p l).length + 1 = l.length := by
  obtain ⟨x, hx, px⟩ := h
  have := List.length_eraseP_of_mem (l := l.reverse) (List.mem_reverse.mpr hx) px
  have pos : 0 < l.length := List.length_pos_of_mem hx
  simp only [eraseLast, List.length_reverse] at this ⊢
  omega

/-- A posting never takes the queue past 32 notices (R162). -/
theorem deliver_length {q : List Notice} (n : Notice) (h : q.length ≤ 32) : (deliver q n).length ≤ 32 := by
  unfold deliver
  split
  · have : 0 < (q.filter n.sameSubject).length := by omega
    obtain ⟨x, hx⟩ := List.exists_mem_of_length_pos this
    have := eraseLast_length ⟨x, (List.mem_filter.mp hx).1, (List.mem_filter.mp hx).2⟩
    simp only [List.length_append, List.length_singleton]
    omega
  · split
    · simp only [List.length_append, List.length_singleton]; omega
    · simp only [List.length_append, List.length_dropLast, List.length_singleton]; omega

theorem delivered_length (l : List Notice) {q : List Notice} (h : q.length ≤ 32) : (l.foldl deliver q).length ≤ 32 := by
  induction l generalizing q with
  | nil => exact h
  | cons n l ih => exact ih (deliver_length n h)

/-- A fault log entry never takes the log past 16 (R167). -/
theorem logEntry_length {l : List FaultEntry} (e : FaultEntry) (h : l.length ≤ 16) : (logEntry l e).length ≤ 16 := by
  unfold logEntry
  split
  · simp only [List.length_append, List.length_singleton]; omega
  · simp only [List.length_append, List.length_tail, List.length_singleton]; omega

theorem logged_length (f : List FaultEntry) {l : List FaultEntry} (h : l.length ≤ 16) :
    (f.foldl logEntry l).length ≤ 16 := by
  induction f generalizing l with
  | nil => exact h
  | cons e f ih => exact ih (logEntry_length e h)

/-- The end of an event keeps the bounds. -/
theorem noticeEnd_bounded (h : Hall) (failed : AreaSet) {u : NoticeUnit} (b : u.bounded) :
    (noticeEnd h failed u).bounded :=
  ⟨delivered_length _ b.1, logged_length _ b.2⟩

/-- The end of an event sets ATTN as R166 gives it. -/
theorem noticeEnd_attn (h : Hall) (failed : AreaSet) (u : NoticeUnit) :
    (noticeEnd h failed u).attn = attnLevel h.settings.hall.masked (noticeEnd h failed u) := rfl

/-- Fetching never lengthens the queue. -/
theorem unfetched_length (masked : List NoticeClass) (k : Nat) (q : List Notice) :
    (unfetched masked k q).length ≤ q.length := by
  induction q generalizing k with
  | nil => simp [unfetched]
  | cons n q ih =>
    cases k with
    | zero => simp [unfetched]
    | succ k =>
      unfold unfetched
      split
      · exact Nat.le_succ_of_le (ih k)
      · simpa using ih (k + 1)

/-- The notices fetched and those left are the queue's, the masked ones all left. -/
theorem fetched_perm (masked : List NoticeClass) (k : Nat) (q : List Notice) :
    (fetched masked k q ++ unfetched masked k q).Perm q := by
  induction q generalizing k with
  | nil => simp [fetched, unfetched]
  | cons n q ih =>
    cases k with
    | zero => simp [fetched, unfetched]
    | succ k =>
      unfold unfetched
      split
      · rename_i u
        have := ih k
        simpa [fetched, List.filter_cons, u] using this
      · rename_i u
        have := ih (k + 1)
        have e : fetched masked (k + 1) (n :: q) = fetched masked (k + 1) q := by simp [fetched, u]
        rw [e]
        exact List.perm_middle.trans (this.cons n)

end Sys2Proof.Machine
end

