-- ==== Sys2Proof/Laws/State.lean ====
section
/-! SUPPORT. What each named update of the blocks' record does to each field, so that no proof unfolds an update. -/

namespace Sys2Proof.Machine

variable (h : Hall)

/-! ### modChannel -/

@[simp] theorem Hall.modChannel_settings (c : ChannelId) (f : ChannelRun → ChannelRun) : (h.modChannel c f).settings = h.settings := rfl
@[simp] theorem Hall.modChannel_fleet (c : ChannelId) (f : ChannelRun → ChannelRun) : (h.modChannel c f).fleet = h.fleet := rfl
@[simp] theorem Hall.modChannel_account (c : ChannelId) (f : ChannelRun → ChannelRun) : (h.modChannel c f).account = h.account := rfl
@[simp] theorem Hall.modChannel_clock (c : ChannelId) (f : ChannelRun → ChannelRun) : (h.modChannel c f).clock = h.clock := rfl
@[simp] theorem Hall.modChannel_channels (c : ChannelId) (f : ChannelRun → ChannelRun) :
    (h.modChannel c f).channels = vmod h.channels c f := rfl
@[simp] theorem Hall.modChannel_waitLists (c : ChannelId) (f : ChannelRun → ChannelRun) : (h.modChannel c f).waitLists = h.waitLists := rfl
@[simp] theorem Hall.modChannel_booths (c : ChannelId) (f : ChannelRun → ChannelRun) : (h.modChannel c f).booths = h.booths := rfl
@[simp] theorem Hall.modChannel_consoles (c : ChannelId) (f : ChannelRun → ChannelRun) : (h.modChannel c f).consoles = h.consoles := rfl
@[simp] theorem Hall.modChannel_bus (c : ChannelId) (f : ChannelRun → ChannelRun) : (h.modChannel c f).bus = h.bus := rfl
@[simp] theorem Hall.modChannel_air (c : ChannelId) (f : ChannelRun → ChannelRun) : (h.modChannel c f).air = h.air := rfl
@[simp] theorem Hall.modChannel_link (c : ChannelId) (f : ChannelRun → ChannelRun) : (h.modChannel c f).link = h.link := rfl
@[simp] theorem Hall.modChannel_lowFired (c : ChannelId) (f : ChannelRun → ChannelRun) : (h.modChannel c f).lowFired = h.lowFired := rfl
@[simp] theorem Hall.modChannel_meters (c : ChannelId) (f : ChannelRun → ChannelRun) : (h.modChannel c f).meters = h.meters := rfl
@[simp] theorem Hall.modChannel_levels (c : ChannelId) (f : ChannelRun → ChannelRun) : (h.modChannel c f).levels = h.levels := rfl
@[simp] theorem Hall.modChannel_free (c : ChannelId) (f : ChannelRun → ChannelRun) : (h.modChannel c f).free = h.free := rfl
@[simp] theorem Hall.modChannel_work (c : ChannelId) (f : ChannelRun → ChannelRun) : (h.modChannel c f).work = h.work := rfl

/-! ### modChannelSettings -/

@[simp] theorem Hall.modChannelSettings_settings (c : ChannelId) (f : ChannelSettings → ChannelSettings) :
    (h.modChannelSettings c f).settings = { h.settings with channels := vmod h.settings.channels c f } := rfl
@[simp] theorem Hall.modChannelSettings_fleet (c : ChannelId) (f : ChannelSettings → ChannelSettings) : (h.modChannelSettings c f).fleet = h.fleet := rfl
@[simp] theorem Hall.modChannelSettings_account (c : ChannelId) (f : ChannelSettings → ChannelSettings) : (h.modChannelSettings c f).account = h.account := rfl
@[simp] theorem Hall.modChannelSettings_clock (c : ChannelId) (f : ChannelSettings → ChannelSettings) : (h.modChannelSettings c f).clock = h.clock := rfl
@[simp] theorem Hall.modChannelSettings_channels (c : ChannelId) (f : ChannelSettings → ChannelSettings) : (h.modChannelSettings c f).channels = h.channels := rfl
@[simp] theorem Hall.modChannelSettings_waitLists (c : ChannelId) (f : ChannelSettings → ChannelSettings) : (h.modChannelSettings c f).waitLists = h.waitLists := rfl
@[simp] theorem Hall.modChannelSettings_booths (c : ChannelId) (f : ChannelSettings → ChannelSettings) : (h.modChannelSettings c f).booths = h.booths := rfl
@[simp] theorem Hall.modChannelSettings_consoles (c : ChannelId) (f : ChannelSettings → ChannelSettings) : (h.modChannelSettings c f).consoles = h.consoles := rfl
@[simp] theorem Hall.modChannelSettings_bus (c : ChannelId) (f : ChannelSettings → ChannelSettings) : (h.modChannelSettings c f).bus = h.bus := rfl
@[simp] theorem Hall.modChannelSettings_air (c : ChannelId) (f : ChannelSettings → ChannelSettings) : (h.modChannelSettings c f).air = h.air := rfl
@[simp] theorem Hall.modChannelSettings_link (c : ChannelId) (f : ChannelSettings → ChannelSettings) : (h.modChannelSettings c f).link = h.link := rfl
@[simp] theorem Hall.modChannelSettings_lowFired (c : ChannelId) (f : ChannelSettings → ChannelSettings) : (h.modChannelSettings c f).lowFired = h.lowFired := rfl
@[simp] theorem Hall.modChannelSettings_meters (c : ChannelId) (f : ChannelSettings → ChannelSettings) : (h.modChannelSettings c f).meters = h.meters := rfl
@[simp] theorem Hall.modChannelSettings_levels (c : ChannelId) (f : ChannelSettings → ChannelSettings) : (h.modChannelSettings c f).levels = h.levels := rfl
@[simp] theorem Hall.modChannelSettings_free (c : ChannelId) (f : ChannelSettings → ChannelSettings) : (h.modChannelSettings c f).free = h.free := rfl
@[simp] theorem Hall.modChannelSettings_work (c : ChannelId) (f : ChannelSettings → ChannelSettings) : (h.modChannelSettings c f).work = h.work := rfl

/-! ### modChannelDay -/

@[simp] theorem Hall.modChannelDay_settings (c : ChannelId) (f : ChannelDay → ChannelDay) : (h.modChannelDay c f).settings = h.settings := rfl
@[simp] theorem Hall.modChannelDay_fleet (c : ChannelId) (f : ChannelDay → ChannelDay) : (h.modChannelDay c f).fleet = h.fleet := rfl
@[simp] theorem Hall.modChannelDay_account (c : ChannelId) (f : ChannelDay → ChannelDay) :
    (h.modChannelDay c f).account = { h.account with channels := vmod h.account.channels c f } := rfl
@[simp] theorem Hall.modChannelDay_clock (c : ChannelId) (f : ChannelDay → ChannelDay) : (h.modChannelDay c f).clock = h.clock := rfl
@[simp] theorem Hall.modChannelDay_channels (c : ChannelId) (f : ChannelDay → ChannelDay) : (h.modChannelDay c f).channels = h.channels := rfl
@[simp] theorem Hall.modChannelDay_waitLists (c : ChannelId) (f : ChannelDay → ChannelDay) : (h.modChannelDay c f).waitLists = h.waitLists := rfl
@[simp] theorem Hall.modChannelDay_booths (c : ChannelId) (f : ChannelDay → ChannelDay) : (h.modChannelDay c f).booths = h.booths := rfl
@[simp] theorem Hall.modChannelDay_consoles (c : ChannelId) (f : ChannelDay → ChannelDay) : (h.modChannelDay c f).consoles = h.consoles := rfl
@[simp] theorem Hall.modChannelDay_bus (c : ChannelId) (f : ChannelDay → ChannelDay) : (h.modChannelDay c f).bus = h.bus := rfl
@[simp] theorem Hall.modChannelDay_air (c : ChannelId) (f : ChannelDay → ChannelDay) : (h.modChannelDay c f).air = h.air := rfl
@[simp] theorem Hall.modChannelDay_link (c : ChannelId) (f : ChannelDay → ChannelDay) : (h.modChannelDay c f).link = h.link := rfl
@[simp] theorem Hall.modChannelDay_lowFired (c : ChannelId) (f : ChannelDay → ChannelDay) : (h.modChannelDay c f).lowFired = h.lowFired := rfl
@[simp] theorem Hall.modChannelDay_meters (c : ChannelId) (f : ChannelDay → ChannelDay) : (h.modChannelDay c f).meters = h.meters := rfl
@[simp] theorem Hall.modChannelDay_levels (c : ChannelId) (f : ChannelDay → ChannelDay) : (h.modChannelDay c f).levels = h.levels := rfl
@[simp] theorem Hall.modChannelDay_free (c : ChannelId) (f : ChannelDay → ChannelDay) : (h.modChannelDay c f).free = h.free := rfl
@[simp] theorem Hall.modChannelDay_work (c : ChannelId) (f : ChannelDay → ChannelDay) : (h.modChannelDay c f).work = h.work := rfl

/-! ### modBooth -/

@[simp] theorem Hall.modBooth_settings (b : BoothId) (f : BoothRun → BoothRun) : (h.modBooth b f).settings = h.settings := rfl
@[simp] theorem Hall.modBooth_fleet (b : BoothId) (f : BoothRun → BoothRun) : (h.modBooth b f).fleet = h.fleet := rfl
@[simp] theorem Hall.modBooth_account (b : BoothId) (f : BoothRun → BoothRun) : (h.modBooth b f).account = h.account := rfl
@[simp] theorem Hall.modBooth_clock (b : BoothId) (f : BoothRun → BoothRun) : (h.modBooth b f).clock = h.clock := rfl
@[simp] theorem Hall.modBooth_channels (b : BoothId) (f : BoothRun → BoothRun) : (h.modBooth b f).channels = h.channels := rfl
@[simp] theorem Hall.modBooth_waitLists (b : BoothId) (f : BoothRun → BoothRun) : (h.modBooth b f).waitLists = h.waitLists := rfl
@[simp] theorem Hall.modBooth_booths (b : BoothId) (f : BoothRun → BoothRun) :
    (h.modBooth b f).booths = vmod h.booths b f := rfl
@[simp] theorem Hall.modBooth_consoles (b : BoothId) (f : BoothRun → BoothRun) : (h.modBooth b f).consoles = h.consoles := rfl
@[simp] theorem Hall.modBooth_bus (b : BoothId) (f : BoothRun → BoothRun) : (h.modBooth b f).bus = h.bus := rfl
@[simp] theorem Hall.modBooth_air (b : BoothId) (f : BoothRun → BoothRun) : (h.modBooth b f).air = h.air := rfl
@[simp] theorem Hall.modBooth_link (b : BoothId) (f : BoothRun → BoothRun) : (h.modBooth b f).link = h.link := rfl
@[simp] theorem Hall.modBooth_lowFired (b : BoothId) (f : BoothRun → BoothRun) : (h.modBooth b f).lowFired = h.lowFired := rfl
@[simp] theorem Hall.modBooth_meters (b : BoothId) (f : BoothRun → BoothRun) : (h.modBooth b f).meters = h.meters := rfl
@[simp] theorem Hall.modBooth_levels (b : BoothId) (f : BoothRun → BoothRun) : (h.modBooth b f).levels = h.levels := rfl
@[simp] theorem Hall.modBooth_free (b : BoothId) (f : BoothRun → BoothRun) : (h.modBooth b f).free = h.free := rfl
@[simp] theorem Hall.modBooth_work (b : BoothId) (f : BoothRun → BoothRun) : (h.modBooth b f).work = h.work := rfl

/-! ### modBoothSettings -/

@[simp] theorem Hall.modBoothSettings_settings (b : BoothId) (f : BoothSettings → BoothSettings) :
    (h.modBoothSettings b f).settings = { h.settings with booths := vmod h.settings.booths b f } := rfl
@[simp] theorem Hall.modBoothSettings_fleet (b : BoothId) (f : BoothSettings → BoothSettings) : (h.modBoothSettings b f).fleet = h.fleet := rfl
@[simp] theorem Hall.modBoothSettings_account (b : BoothId) (f : BoothSettings → BoothSettings) : (h.modBoothSettings b f).account = h.account := rfl
@[simp] theorem Hall.modBoothSettings_clock (b : BoothId) (f : BoothSettings → BoothSettings) : (h.modBoothSettings b f).clock = h.clock := rfl
@[simp] theorem Hall.modBoothSettings_channels (b : BoothId) (f : BoothSettings → BoothSettings) : (h.modBoothSettings b f).channels = h.channels := rfl
@[simp] theorem Hall.modBoothSettings_waitLists (b : BoothId) (f : BoothSettings → BoothSettings) : (h.modBoothSettings b f).waitLists = h.waitLists := rfl
@[simp] theorem Hall.modBoothSettings_booths (b : BoothId) (f : BoothSettings → BoothSettings) : (h.modBoothSettings b f).booths = h.booths := rfl
@[simp] theorem Hall.modBoothSettings_consoles (b : BoothId) (f : BoothSettings → BoothSettings) : (h.modBoothSettings b f).consoles = h.consoles := rfl
@[simp] theorem Hall.modBoothSettings_bus (b : BoothId) (f : BoothSettings → BoothSettings) : (h.modBoothSettings b f).bus = h.bus := rfl
@[simp] theorem Hall.modBoothSettings_air (b : BoothId) (f : BoothSettings → BoothSettings) : (h.modBoothSettings b f).air = h.air := rfl
@[simp] theorem Hall.modBoothSettings_link (b : BoothId) (f : BoothSettings → BoothSettings) : (h.modBoothSettings b f).link = h.link := rfl
@[simp] theorem Hall.modBoothSettings_lowFired (b : BoothId) (f : BoothSettings → BoothSettings) : (h.modBoothSettings b f).lowFired = h.lowFired := rfl
@[simp] theorem Hall.modBoothSettings_meters (b : BoothId) (f : BoothSettings → BoothSettings) : (h.modBoothSettings b f).meters = h.meters := rfl
@[simp] theorem Hall.modBoothSettings_levels (b : BoothId) (f : BoothSettings → BoothSettings) : (h.modBoothSettings b f).levels = h.levels := rfl
@[simp] theorem Hall.modBoothSettings_free (b : BoothId) (f : BoothSettings → BoothSettings) : (h.modBoothSettings b f).free = h.free := rfl
@[simp] theorem Hall.modBoothSettings_work (b : BoothId) (f : BoothSettings → BoothSettings) : (h.modBoothSettings b f).work = h.work := rfl

/-! ### modBoothDay -/

@[simp] theorem Hall.modBoothDay_settings (b : BoothId) (f : BoothDay → BoothDay) : (h.modBoothDay b f).settings = h.settings := rfl
@[simp] theorem Hall.modBoothDay_fleet (b : BoothId) (f : BoothDay → BoothDay) : (h.modBoothDay b f).fleet = h.fleet := rfl
@[simp] theorem Hall.modBoothDay_account (b : BoothId) (f : BoothDay → BoothDay) :
    (h.modBoothDay b f).account = { h.account with booths := vmod h.account.booths b f } := rfl
@[simp] theorem Hall.modBoothDay_clock (b : BoothId) (f : BoothDay → BoothDay) : (h.modBoothDay b f).clock = h.clock := rfl
@[simp] theorem Hall.modBoothDay_channels (b : BoothId) (f : BoothDay → BoothDay) : (h.modBoothDay b f).channels = h.channels := rfl
@[simp] theorem Hall.modBoothDay_waitLists (b : BoothId) (f : BoothDay → BoothDay) : (h.modBoothDay b f).waitLists = h.waitLists := rfl
@[simp] theorem Hall.modBoothDay_booths (b : BoothId) (f : BoothDay → BoothDay) : (h.modBoothDay b f).booths = h.booths := rfl
@[simp] theorem Hall.modBoothDay_consoles (b : BoothId) (f : BoothDay → BoothDay) : (h.modBoothDay b f).consoles = h.consoles := rfl
@[simp] theorem Hall.modBoothDay_bus (b : BoothId) (f : BoothDay → BoothDay) : (h.modBoothDay b f).bus = h.bus := rfl
@[simp] theorem Hall.modBoothDay_air (b : BoothId) (f : BoothDay → BoothDay) : (h.modBoothDay b f).air = h.air := rfl
@[simp] theorem Hall.modBoothDay_link (b : BoothId) (f : BoothDay → BoothDay) : (h.modBoothDay b f).link = h.link := rfl
@[simp] theorem Hall.modBoothDay_lowFired (b : BoothId) (f : BoothDay → BoothDay) : (h.modBoothDay b f).lowFired = h.lowFired := rfl
@[simp] theorem Hall.modBoothDay_meters (b : BoothId) (f : BoothDay → BoothDay) : (h.modBoothDay b f).meters = h.meters := rfl
@[simp] theorem Hall.modBoothDay_levels (b : BoothId) (f : BoothDay → BoothDay) : (h.modBoothDay b f).levels = h.levels := rfl
@[simp] theorem Hall.modBoothDay_free (b : BoothId) (f : BoothDay → BoothDay) : (h.modBoothDay b f).free = h.free := rfl
@[simp] theorem Hall.modBoothDay_work (b : BoothId) (f : BoothDay → BoothDay) : (h.modBoothDay b f).work = h.work := rfl

/-! ### modConsole -/

@[simp] theorem Hall.modConsole_settings (a : ConsoleId) (f : ConsoleRun → ConsoleRun) : (h.modConsole a f).settings = h.settings := rfl
@[simp] theorem Hall.modConsole_fleet (a : ConsoleId) (f : ConsoleRun → ConsoleRun) : (h.modConsole a f).fleet = h.fleet := rfl
@[simp] theorem Hall.modConsole_account (a : ConsoleId) (f : ConsoleRun → ConsoleRun) : (h.modConsole a f).account = h.account := rfl
@[simp] theorem Hall.modConsole_clock (a : ConsoleId) (f : ConsoleRun → ConsoleRun) : (h.modConsole a f).clock = h.clock := rfl
@[simp] theorem Hall.modConsole_channels (a : ConsoleId) (f : ConsoleRun → ConsoleRun) : (h.modConsole a f).channels = h.channels := rfl
@[simp] theorem Hall.modConsole_waitLists (a : ConsoleId) (f : ConsoleRun → ConsoleRun) : (h.modConsole a f).waitLists = h.waitLists := rfl
@[simp] theorem Hall.modConsole_booths (a : ConsoleId) (f : ConsoleRun → ConsoleRun) : (h.modConsole a f).booths = h.booths := rfl
@[simp] theorem Hall.modConsole_consoles (a : ConsoleId) (f : ConsoleRun → ConsoleRun) :
    (h.modConsole a f).consoles = vmod h.consoles a f := rfl
@[simp] theorem Hall.modConsole_bus (a : ConsoleId) (f : ConsoleRun → ConsoleRun) : (h.modConsole a f).bus = h.bus := rfl
@[simp] theorem Hall.modConsole_air (a : ConsoleId) (f : ConsoleRun → ConsoleRun) : (h.modConsole a f).air = h.air := rfl
@[simp] theorem Hall.modConsole_link (a : ConsoleId) (f : ConsoleRun → ConsoleRun) : (h.modConsole a f).link = h.link := rfl
@[simp] theorem Hall.modConsole_lowFired (a : ConsoleId) (f : ConsoleRun → ConsoleRun) : (h.modConsole a f).lowFired = h.lowFired := rfl
@[simp] theorem Hall.modConsole_meters (a : ConsoleId) (f : ConsoleRun → ConsoleRun) : (h.modConsole a f).meters = h.meters := rfl
@[simp] theorem Hall.modConsole_levels (a : ConsoleId) (f : ConsoleRun → ConsoleRun) : (h.modConsole a f).levels = h.levels := rfl
@[simp] theorem Hall.modConsole_free (a : ConsoleId) (f : ConsoleRun → ConsoleRun) : (h.modConsole a f).free = h.free := rfl
@[simp] theorem Hall.modConsole_work (a : ConsoleId) (f : ConsoleRun → ConsoleRun) : (h.modConsole a f).work = h.work := rfl

/-! ### addConsoleLive -/

@[simp] theorem Hall.addConsoleLive_settings (a : ConsoleId) (m : Nat) : (h.addConsoleLive a m).settings = h.settings := rfl
@[simp] theorem Hall.addConsoleLive_fleet (a : ConsoleId) (m : Nat) : (h.addConsoleLive a m).fleet = h.fleet := rfl
@[simp] theorem Hall.addConsoleLive_account (a : ConsoleId) (m : Nat) :
    (h.addConsoleLive a m).account = { h.account with consoleLive := vmod h.account.consoleLive a fun n => satCount (n + m) } := rfl
@[simp] theorem Hall.addConsoleLive_clock (a : ConsoleId) (m : Nat) : (h.addConsoleLive a m).clock = h.clock := rfl
@[simp] theorem Hall.addConsoleLive_channels (a : ConsoleId) (m : Nat) : (h.addConsoleLive a m).channels = h.channels := rfl
@[simp] theorem Hall.addConsoleLive_waitLists (a : ConsoleId) (m : Nat) : (h.addConsoleLive a m).waitLists = h.waitLists := rfl
@[simp] theorem Hall.addConsoleLive_booths (a : ConsoleId) (m : Nat) : (h.addConsoleLive a m).booths = h.booths := rfl
@[simp] theorem Hall.addConsoleLive_consoles (a : ConsoleId) (m : Nat) : (h.addConsoleLive a m).consoles = h.consoles := rfl
@[simp] theorem Hall.addConsoleLive_bus (a : ConsoleId) (m : Nat) : (h.addConsoleLive a m).bus = h.bus := rfl
@[simp] theorem Hall.addConsoleLive_air (a : ConsoleId) (m : Nat) : (h.addConsoleLive a m).air = h.air := rfl
@[simp] theorem Hall.addConsoleLive_link (a : ConsoleId) (m : Nat) : (h.addConsoleLive a m).link = h.link := rfl
@[simp] theorem Hall.addConsoleLive_lowFired (a : ConsoleId) (m : Nat) : (h.addConsoleLive a m).lowFired = h.lowFired := rfl
@[simp] theorem Hall.addConsoleLive_meters (a : ConsoleId) (m : Nat) : (h.addConsoleLive a m).meters = h.meters := rfl
@[simp] theorem Hall.addConsoleLive_levels (a : ConsoleId) (m : Nat) : (h.addConsoleLive a m).levels = h.levels := rfl
@[simp] theorem Hall.addConsoleLive_free (a : ConsoleId) (m : Nat) : (h.addConsoleLive a m).free = h.free := rfl
@[simp] theorem Hall.addConsoleLive_work (a : ConsoleId) (m : Nat) : (h.addConsoleLive a m).work = h.work := rfl

/-! ### modWaitList -/

@[simp] theorem Hall.modWaitList_settings (c : ChannelId) (f : List WaitEntry → List WaitEntry) : (h.modWaitList c f).settings = h.settings := rfl
@[simp] theorem Hall.modWaitList_fleet (c : ChannelId) (f : List WaitEntry → List WaitEntry) : (h.modWaitList c f).fleet = h.fleet := rfl
@[simp] theorem Hall.modWaitList_account (c : ChannelId) (f : List WaitEntry → List WaitEntry) : (h.modWaitList c f).account = h.account := rfl
@[simp] theorem Hall.modWaitList_clock (c : ChannelId) (f : List WaitEntry → List WaitEntry) : (h.modWaitList c f).clock = h.clock := rfl
@[simp] theorem Hall.modWaitList_channels (c : ChannelId) (f : List WaitEntry → List WaitEntry) : (h.modWaitList c f).channels = h.channels := rfl
@[simp] theorem Hall.modWaitList_waitLists (c : ChannelId) (f : List WaitEntry → List WaitEntry) :
    (h.modWaitList c f).waitLists = vmod h.waitLists c f := rfl
@[simp] theorem Hall.modWaitList_booths (c : ChannelId) (f : List WaitEntry → List WaitEntry) : (h.modWaitList c f).booths = h.booths := rfl
@[simp] theorem Hall.modWaitList_consoles (c : ChannelId) (f : List WaitEntry → List WaitEntry) : (h.modWaitList c f).consoles = h.consoles := rfl
@[simp] theorem Hall.modWaitList_bus (c : ChannelId) (f : List WaitEntry → List WaitEntry) : (h.modWaitList c f).bus = h.bus := rfl
@[simp] theorem Hall.modWaitList_air (c : ChannelId) (f : List WaitEntry → List WaitEntry) : (h.modWaitList c f).air = h.air := rfl
@[simp] theorem Hall.modWaitList_link (c : ChannelId) (f : List WaitEntry → List WaitEntry) : (h.modWaitList c f).link = h.link := rfl
@[simp] theorem Hall.modWaitList_lowFired (c : ChannelId) (f : List WaitEntry → List WaitEntry) : (h.modWaitList c f).lowFired = h.lowFired := rfl
@[simp] theorem Hall.modWaitList_meters (c : ChannelId) (f : List WaitEntry → List WaitEntry) : (h.modWaitList c f).meters = h.meters := rfl
@[simp] theorem Hall.modWaitList_levels (c : ChannelId) (f : List WaitEntry → List WaitEntry) : (h.modWaitList c f).levels = h.levels := rfl
@[simp] theorem Hall.modWaitList_free (c : ChannelId) (f : List WaitEntry → List WaitEntry) : (h.modWaitList c f).free = h.free := rfl
@[simp] theorem Hall.modWaitList_work (c : ChannelId) (f : List WaitEntry → List WaitEntry) : (h.modWaitList c f).work = h.work := rfl

/-! ### setCarrier -/

@[simp] theorem Hall.setCarrier_settings (k : CarrierId) (r : Carrier) : (h.setCarrier k r).settings = h.settings := rfl
@[simp] theorem Hall.setCarrier_fleet (k : CarrierId) (r : Carrier) : (h.setCarrier k r).fleet = h.fleet := rfl
@[simp] theorem Hall.setCarrier_account (k : CarrierId) (r : Carrier) : (h.setCarrier k r).account = h.account := rfl
@[simp] theorem Hall.setCarrier_clock (k : CarrierId) (r : Carrier) : (h.setCarrier k r).clock = h.clock := rfl
@[simp] theorem Hall.setCarrier_channels (k : CarrierId) (r : Carrier) : (h.setCarrier k r).channels = h.channels := rfl
@[simp] theorem Hall.setCarrier_waitLists (k : CarrierId) (r : Carrier) : (h.setCarrier k r).waitLists = h.waitLists := rfl
@[simp] theorem Hall.setCarrier_booths (k : CarrierId) (r : Carrier) : (h.setCarrier k r).booths = h.booths := rfl
@[simp] theorem Hall.setCarrier_consoles (k : CarrierId) (r : Carrier) : (h.setCarrier k r).consoles = h.consoles := rfl
@[simp] theorem Hall.setCarrier_bus (k : CarrierId) (r : Carrier) : (h.setCarrier k r).bus = h.bus := rfl
@[simp] theorem Hall.setCarrier_air (k : CarrierId) (r : Carrier) :
    (h.setCarrier k r).air = { h.air with carriers := vset h.air.carriers k r } := rfl
@[simp] theorem Hall.setCarrier_link (k : CarrierId) (r : Carrier) : (h.setCarrier k r).link = h.link := rfl
@[simp] theorem Hall.setCarrier_lowFired (k : CarrierId) (r : Carrier) : (h.setCarrier k r).lowFired = h.lowFired := rfl
@[simp] theorem Hall.setCarrier_meters (k : CarrierId) (r : Carrier) : (h.setCarrier k r).meters = h.meters := rfl
@[simp] theorem Hall.setCarrier_levels (k : CarrierId) (r : Carrier) : (h.setCarrier k r).levels = h.levels := rfl
@[simp] theorem Hall.setCarrier_free (k : CarrierId) (r : Carrier) : (h.setCarrier k r).free = h.free := rfl
@[simp] theorem Hall.setCarrier_work (k : CarrierId) (r : Carrier) : (h.setCarrier k r).work = h.work := rfl

/-! ### setWaiting -/

@[simp] theorem Hall.setWaiting_settings (l : List ChannelId) : (h.setWaiting l).settings = h.settings := rfl
@[simp] theorem Hall.setWaiting_fleet (l : List ChannelId) : (h.setWaiting l).fleet = h.fleet := rfl
@[simp] theorem Hall.setWaiting_account (l : List ChannelId) : (h.setWaiting l).account = h.account := rfl
@[simp] theorem Hall.setWaiting_clock (l : List ChannelId) : (h.setWaiting l).clock = h.clock := rfl
@[simp] theorem Hall.setWaiting_channels (l : List ChannelId) : (h.setWaiting l).channels = h.channels := rfl
@[simp] theorem Hall.setWaiting_waitLists (l : List ChannelId) : (h.setWaiting l).waitLists = h.waitLists := rfl
@[simp] theorem Hall.setWaiting_booths (l : List ChannelId) : (h.setWaiting l).booths = h.booths := rfl
@[simp] theorem Hall.setWaiting_consoles (l : List ChannelId) : (h.setWaiting l).consoles = h.consoles := rfl
@[simp] theorem Hall.setWaiting_bus (l : List ChannelId) : (h.setWaiting l).bus = h.bus := rfl
@[simp] theorem Hall.setWaiting_air (l : List ChannelId) :
    (h.setWaiting l).air = { h.air with waiting := l } := rfl
@[simp] theorem Hall.setWaiting_link (l : List ChannelId) : (h.setWaiting l).link = h.link := rfl
@[simp] theorem Hall.setWaiting_lowFired (l : List ChannelId) : (h.setWaiting l).lowFired = h.lowFired := rfl
@[simp] theorem Hall.setWaiting_meters (l : List ChannelId) : (h.setWaiting l).meters = h.meters := rfl
@[simp] theorem Hall.setWaiting_levels (l : List ChannelId) : (h.setWaiting l).levels = h.levels := rfl
@[simp] theorem Hall.setWaiting_free (l : List ChannelId) : (h.setWaiting l).free = h.free := rfl
@[simp] theorem Hall.setWaiting_work (l : List ChannelId) : (h.setWaiting l).work = h.work := rfl

/-! ### modMeter -/

@[simp] theorem Hall.modMeter_settings (m : MeterId) (f : MeterRun → MeterRun) : (h.modMeter m f).settings = h.settings := rfl
@[simp] theorem Hall.modMeter_fleet (m : MeterId) (f : MeterRun → MeterRun) : (h.modMeter m f).fleet = h.fleet := rfl
@[simp] theorem Hall.modMeter_account (m : MeterId) (f : MeterRun → MeterRun) : (h.modMeter m f).account = h.account := rfl
@[simp] theorem Hall.modMeter_clock (m : MeterId) (f : MeterRun → MeterRun) : (h.modMeter m f).clock = h.clock := rfl
@[simp] theorem Hall.modMeter_channels (m : MeterId) (f : MeterRun → MeterRun) : (h.modMeter m f).channels = h.channels := rfl
@[simp] theorem Hall.modMeter_waitLists (m : MeterId) (f : MeterRun → MeterRun) : (h.modMeter m f).waitLists = h.waitLists := rfl
@[simp] theorem Hall.modMeter_booths (m : MeterId) (f : MeterRun → MeterRun) : (h.modMeter m f).booths = h.booths := rfl
@[simp] theorem Hall.modMeter_consoles (m : MeterId) (f : MeterRun → MeterRun) : (h.modMeter m f).consoles = h.consoles := rfl
@[simp] theorem Hall.modMeter_bus (m : MeterId) (f : MeterRun → MeterRun) : (h.modMeter m f).bus = h.bus := rfl
@[simp] theorem Hall.modMeter_air (m : MeterId) (f : MeterRun → MeterRun) : (h.modMeter m f).air = h.air := rfl
@[simp] theorem Hall.modMeter_link (m : MeterId) (f : MeterRun → MeterRun) : (h.modMeter m f).link = h.link := rfl
@[simp] theorem Hall.modMeter_lowFired (m : MeterId) (f : MeterRun → MeterRun) : (h.modMeter m f).lowFired = h.lowFired := rfl
@[simp] theorem Hall.modMeter_meters (m : MeterId) (f : MeterRun → MeterRun) :
    (h.modMeter m f).meters = vmod h.meters m f := rfl
@[simp] theorem Hall.modMeter_levels (m : MeterId) (f : MeterRun → MeterRun) : (h.modMeter m f).levels = h.levels := rfl
@[simp] theorem Hall.modMeter_free (m : MeterId) (f : MeterRun → MeterRun) : (h.modMeter m f).free = h.free := rfl
@[simp] theorem Hall.modMeter_work (m : MeterId) (f : MeterRun → MeterRun) : (h.modMeter m f).work = h.work := rfl

/-! ### modSlot -/

@[simp] theorem Hall.modSlot_settings (e : EmitterId) (f : Slot → Slot) : (h.modSlot e f).settings = h.settings := rfl
@[simp] theorem Hall.modSlot_fleet (e : EmitterId) (f : Slot → Slot) : (h.modSlot e f).fleet = h.fleet := rfl
@[simp] theorem Hall.modSlot_account (e : EmitterId) (f : Slot → Slot) : (h.modSlot e f).account = h.account := rfl
@[simp] theorem Hall.modSlot_clock (e : EmitterId) (f : Slot → Slot) : (h.modSlot e f).clock = h.clock := rfl
@[simp] theorem Hall.modSlot_channels (e : EmitterId) (f : Slot → Slot) : (h.modSlot e f).channels = h.channels := rfl
@[simp] theorem Hall.modSlot_waitLists (e : EmitterId) (f : Slot → Slot) : (h.modSlot e f).waitLists = h.waitLists := rfl
@[simp] theorem Hall.modSlot_booths (e : EmitterId) (f : Slot → Slot) : (h.modSlot e f).booths = h.booths := rfl
@[simp] theorem Hall.modSlot_consoles (e : EmitterId) (f : Slot → Slot) : (h.modSlot e f).consoles = h.consoles := rfl
@[simp] theorem Hall.modSlot_bus (e : EmitterId) (f : Slot → Slot) : (h.modSlot e f).bus = h.bus := rfl
@[simp] theorem Hall.modSlot_air (e : EmitterId) (f : Slot → Slot) : (h.modSlot e f).air = h.air := rfl
@[simp] theorem Hall.modSlot_link (e : EmitterId) (f : Slot → Slot) :
    (h.modSlot e f).link = { h.link with slots := vmod h.link.slots e f } := rfl
@[simp] theorem Hall.modSlot_lowFired (e : EmitterId) (f : Slot → Slot) : (h.modSlot e f).lowFired = h.lowFired := rfl
@[simp] theorem Hall.modSlot_meters (e : EmitterId) (f : Slot → Slot) : (h.modSlot e f).meters = h.meters := rfl
@[simp] theorem Hall.modSlot_levels (e : EmitterId) (f : Slot → Slot) : (h.modSlot e f).levels = h.levels := rfl
@[simp] theorem Hall.modSlot_free (e : EmitterId) (f : Slot → Slot) : (h.modSlot e f).free = h.free := rfl
@[simp] theorem Hall.modSlot_work (e : EmitterId) (f : Slot → Slot) : (h.modSlot e f).work = h.work := rfl

/-! ### post -/

@[simp] theorem Hall.post_settings (cls : NoticeClass) (kind : NoticeKind) (subject value : Nat) : (h.post cls kind subject value).settings = h.settings := rfl
@[simp] theorem Hall.post_fleet (cls : NoticeClass) (kind : NoticeKind) (subject value : Nat) : (h.post cls kind subject value).fleet = h.fleet := rfl
@[simp] theorem Hall.post_account (cls : NoticeClass) (kind : NoticeKind) (subject value : Nat) : (h.post cls kind subject value).account = h.account := rfl
@[simp] theorem Hall.post_clock (cls : NoticeClass) (kind : NoticeKind) (subject value : Nat) : (h.post cls kind subject value).clock = h.clock := rfl
@[simp] theorem Hall.post_channels (cls : NoticeClass) (kind : NoticeKind) (subject value : Nat) : (h.post cls kind subject value).channels = h.channels := rfl
@[simp] theorem Hall.post_waitLists (cls : NoticeClass) (kind : NoticeKind) (subject value : Nat) : (h.post cls kind subject value).waitLists = h.waitLists := rfl
@[simp] theorem Hall.post_booths (cls : NoticeClass) (kind : NoticeKind) (subject value : Nat) : (h.post cls kind subject value).booths = h.booths := rfl
@[simp] theorem Hall.post_consoles (cls : NoticeClass) (kind : NoticeKind) (subject value : Nat) : (h.post cls kind subject value).consoles = h.consoles := rfl
@[simp] theorem Hall.post_bus (cls : NoticeClass) (kind : NoticeKind) (subject value : Nat) : (h.post cls kind subject value).bus = h.bus := rfl
@[simp] theorem Hall.post_air (cls : NoticeClass) (kind : NoticeKind) (subject value : Nat) : (h.post cls kind subject value).air = h.air := rfl
@[simp] theorem Hall.post_link (cls : NoticeClass) (kind : NoticeKind) (subject value : Nat) : (h.post cls kind subject value).link = h.link := rfl
@[simp] theorem Hall.post_lowFired (cls : NoticeClass) (kind : NoticeKind) (subject value : Nat) : (h.post cls kind subject value).lowFired = h.lowFired := rfl
@[simp] theorem Hall.post_meters (cls : NoticeClass) (kind : NoticeKind) (subject value : Nat) : (h.post cls kind subject value).meters = h.meters := rfl
@[simp] theorem Hall.post_levels (cls : NoticeClass) (kind : NoticeKind) (subject value : Nat) : (h.post cls kind subject value).levels = h.levels := rfl
@[simp] theorem Hall.post_free (cls : NoticeClass) (kind : NoticeKind) (subject value : Nat) : (h.post cls kind subject value).free = h.free := rfl
@[simp] theorem Hall.post_work (cls : NoticeClass) (kind : NoticeKind) (subject value : Nat) :
    (h.post cls kind subject value).work = { h.work with posts := h.work.posts ++ [⟨cls, kind, subject, h.now, value, false⟩] } := rfl

/-! ### logFault -/

@[simp] theorem Hall.logFault_settings (code : FaultCode) (subject : Nat) : (h.logFault code subject).settings = h.settings := rfl
@[simp] theorem Hall.logFault_fleet (code : FaultCode) (subject : Nat) : (h.logFault code subject).fleet = h.fleet := rfl
@[simp] theorem Hall.logFault_account (code : FaultCode) (subject : Nat) : (h.logFault code subject).account = h.account := rfl
@[simp] theorem Hall.logFault_clock (code : FaultCode) (subject : Nat) : (h.logFault code subject).clock = h.clock := rfl
@[simp] theorem Hall.logFault_channels (code : FaultCode) (subject : Nat) : (h.logFault code subject).channels = h.channels := rfl
@[simp] theorem Hall.logFault_waitLists (code : FaultCode) (subject : Nat) : (h.logFault code subject).waitLists = h.waitLists := rfl
@[simp] theorem Hall.logFault_booths (code : FaultCode) (subject : Nat) : (h.logFault code subject).booths = h.booths := rfl
@[simp] theorem Hall.logFault_consoles (code : FaultCode) (subject : Nat) : (h.logFault code subject).consoles = h.consoles := rfl
@[simp] theorem Hall.logFault_bus (code : FaultCode) (subject : Nat) : (h.logFault code subject).bus = h.bus := rfl
@[simp] theorem Hall.logFault_air (code : FaultCode) (subject : Nat) : (h.logFault code subject).air = h.air := rfl
@[simp] theorem Hall.logFault_link (code : FaultCode) (subject : Nat) : (h.logFault code subject).link = h.link := rfl
@[simp] theorem Hall.logFault_lowFired (code : FaultCode) (subject : Nat) : (h.logFault code subject).lowFired = h.lowFired := rfl
@[simp] theorem Hall.logFault_meters (code : FaultCode) (subject : Nat) : (h.logFault code subject).meters = h.meters := rfl
@[simp] theorem Hall.logFault_levels (code : FaultCode) (subject : Nat) : (h.logFault code subject).levels = h.levels := rfl
@[simp] theorem Hall.logFault_free (code : FaultCode) (subject : Nat) : (h.logFault code subject).free = h.free := rfl
@[simp] theorem Hall.logFault_work (code : FaultCode) (subject : Nat) :
    (h.logFault code subject).work = { h.work with faults := h.work.faults ++ [⟨h.now, code, subject⟩] } := rfl

/-! ### ask -/

@[simp] theorem Hall.ask_settings (a : AreaSet) : (h.ask a).settings = h.settings := rfl
@[simp] theorem Hall.ask_fleet (a : AreaSet) : (h.ask a).fleet = h.fleet := rfl
@[simp] theorem Hall.ask_account (a : AreaSet) : (h.ask a).account = h.account := rfl
@[simp] theorem Hall.ask_clock (a : AreaSet) : (h.ask a).clock = h.clock := rfl
@[simp] theorem Hall.ask_channels (a : AreaSet) : (h.ask a).channels = h.channels := rfl
@[simp] theorem Hall.ask_waitLists (a : AreaSet) : (h.ask a).waitLists = h.waitLists := rfl
@[simp] theorem Hall.ask_booths (a : AreaSet) : (h.ask a).booths = h.booths := rfl
@[simp] theorem Hall.ask_consoles (a : AreaSet) : (h.ask a).consoles = h.consoles := rfl
@[simp] theorem Hall.ask_bus (a : AreaSet) : (h.ask a).bus = h.bus := rfl
@[simp] theorem Hall.ask_air (a : AreaSet) : (h.ask a).air = h.air := rfl
@[simp] theorem Hall.ask_link (a : AreaSet) : (h.ask a).link = h.link := rfl
@[simp] theorem Hall.ask_lowFired (a : AreaSet) : (h.ask a).lowFired = h.lowFired := rfl
@[simp] theorem Hall.ask_meters (a : AreaSet) : (h.ask a).meters = h.meters := rfl
@[simp] theorem Hall.ask_levels (a : AreaSet) : (h.ask a).levels = h.levels := rfl
@[simp] theorem Hall.ask_free (a : AreaSet) : (h.ask a).free = h.free := rfl
@[simp] theorem Hall.ask_work (a : AreaSet) :
    (h.ask a).work = { h.work with asks := h.work.asks ++ [a] } := rfl

/-! ### touch -/

@[simp] theorem Hall.touch_settings (c : ChannelId) : (h.touch c).settings = h.settings := rfl
@[simp] theorem Hall.touch_fleet (c : ChannelId) : (h.touch c).fleet = h.fleet := rfl
@[simp] theorem Hall.touch_account (c : ChannelId) : (h.touch c).account = h.account := rfl
@[simp] theorem Hall.touch_clock (c : ChannelId) : (h.touch c).clock = h.clock := rfl
@[simp] theorem Hall.touch_channels (c : ChannelId) : (h.touch c).channels = h.channels := rfl
@[simp] theorem Hall.touch_waitLists (c : ChannelId) : (h.touch c).waitLists = h.waitLists := rfl
@[simp] theorem Hall.touch_booths (c : ChannelId) : (h.touch c).booths = h.booths := rfl
@[simp] theorem Hall.touch_consoles (c : ChannelId) : (h.touch c).consoles = h.consoles := rfl
@[simp] theorem Hall.touch_bus (c : ChannelId) : (h.touch c).bus = h.bus := rfl
@[simp] theorem Hall.touch_air (c : ChannelId) : (h.touch c).air = h.air := rfl
@[simp] theorem Hall.touch_link (c : ChannelId) : (h.touch c).link = h.link := rfl
@[simp] theorem Hall.touch_lowFired (c : ChannelId) : (h.touch c).lowFired = h.lowFired := rfl
@[simp] theorem Hall.touch_meters (c : ChannelId) : (h.touch c).meters = h.meters := rfl
@[simp] theorem Hall.touch_levels (c : ChannelId) : (h.touch c).levels = h.levels := rfl
@[simp] theorem Hall.touch_free (c : ChannelId) : (h.touch c).free = h.free := rfl
@[simp] theorem Hall.touch_work (c : ChannelId) :
    (h.touch c).work = { h.work with touched := if c ∈ h.work.touched then h.work.touched else h.work.touched ++ [c] } := rfl

/-! ### noteGrant -/

@[simp] theorem Hall.noteGrant_settings (a : ConsoleId) : (h.noteGrant a).settings = h.settings := rfl
@[simp] theorem Hall.noteGrant_fleet (a : ConsoleId) : (h.noteGrant a).fleet = h.fleet := rfl
@[simp] theorem Hall.noteGrant_account (a : ConsoleId) : (h.noteGrant a).account = h.account := rfl
@[simp] theorem Hall.noteGrant_clock (a : ConsoleId) : (h.noteGrant a).clock = h.clock := rfl
@[simp] theorem Hall.noteGrant_channels (a : ConsoleId) : (h.noteGrant a).channels = h.channels := rfl
@[simp] theorem Hall.noteGrant_waitLists (a : ConsoleId) : (h.noteGrant a).waitLists = h.waitLists := rfl
@[simp] theorem Hall.noteGrant_booths (a : ConsoleId) : (h.noteGrant a).booths = h.booths := rfl
@[simp] theorem Hall.noteGrant_consoles (a : ConsoleId) : (h.noteGrant a).consoles = h.consoles := rfl
@[simp] theorem Hall.noteGrant_bus (a : ConsoleId) : (h.noteGrant a).bus = h.bus := rfl
@[simp] theorem Hall.noteGrant_air (a : ConsoleId) : (h.noteGrant a).air = h.air := rfl
@[simp] theorem Hall.noteGrant_link (a : ConsoleId) : (h.noteGrant a).link = h.link := rfl
@[simp] theorem Hall.noteGrant_lowFired (a : ConsoleId) : (h.noteGrant a).lowFired = h.lowFired := rfl
@[simp] theorem Hall.noteGrant_meters (a : ConsoleId) : (h.noteGrant a).meters = h.meters := rfl
@[simp] theorem Hall.noteGrant_levels (a : ConsoleId) : (h.noteGrant a).levels = h.levels := rfl
@[simp] theorem Hall.noteGrant_free (a : ConsoleId) : (h.noteGrant a).free = h.free := rfl
@[simp] theorem Hall.noteGrant_work (a : ConsoleId) :
    (h.noteGrant a).work = { h.work with granted := h.work.granted ++ [a] } := rfl

/-! ### putReceiver -/

@[simp] theorem Hall.putReceiver_settings (r : Receiver) : (h.putReceiver r).settings = h.settings := rfl
@[simp] theorem Hall.putReceiver_account (r : Receiver) : (h.putReceiver r).account = h.account := rfl
@[simp] theorem Hall.putReceiver_clock (r : Receiver) : (h.putReceiver r).clock = h.clock := rfl
@[simp] theorem Hall.putReceiver_channels (r : Receiver) : (h.putReceiver r).channels = h.channels := rfl
@[simp] theorem Hall.putReceiver_waitLists (r : Receiver) : (h.putReceiver r).waitLists = h.waitLists := rfl
@[simp] theorem Hall.putReceiver_booths (r : Receiver) : (h.putReceiver r).booths = h.booths := rfl
@[simp] theorem Hall.putReceiver_consoles (r : Receiver) : (h.putReceiver r).consoles = h.consoles := rfl
@[simp] theorem Hall.putReceiver_bus (r : Receiver) : (h.putReceiver r).bus = h.bus := rfl
@[simp] theorem Hall.putReceiver_air (r : Receiver) : (h.putReceiver r).air = h.air := rfl
@[simp] theorem Hall.putReceiver_link (r : Receiver) : (h.putReceiver r).link = h.link := rfl
@[simp] theorem Hall.putReceiver_lowFired (r : Receiver) : (h.putReceiver r).lowFired = h.lowFired := rfl
@[simp] theorem Hall.putReceiver_meters (r : Receiver) : (h.putReceiver r).meters = h.meters := rfl
@[simp] theorem Hall.putReceiver_levels (r : Receiver) : (h.putReceiver r).levels = h.levels := rfl
@[simp] theorem Hall.putReceiver_free (r : Receiver) : (h.putReceiver r).free = h.free := rfl
@[simp] theorem Hall.putReceiver_work (r : Receiver) : (h.putReceiver r).work = h.work := rfl

/-! ### dropReceiver -/

@[simp] theorem Hall.dropReceiver_settings (s : Serial) : (h.dropReceiver s).settings = h.settings := rfl
@[simp] theorem Hall.dropReceiver_account (s : Serial) : (h.dropReceiver s).account = h.account := rfl
@[simp] theorem Hall.dropReceiver_clock (s : Serial) : (h.dropReceiver s).clock = h.clock := rfl
@[simp] theorem Hall.dropReceiver_channels (s : Serial) : (h.dropReceiver s).channels = h.channels := rfl
@[simp] theorem Hall.dropReceiver_waitLists (s : Serial) : (h.dropReceiver s).waitLists = h.waitLists := rfl
@[simp] theorem Hall.dropReceiver_booths (s : Serial) : (h.dropReceiver s).booths = h.booths := rfl
@[simp] theorem Hall.dropReceiver_consoles (s : Serial) : (h.dropReceiver s).consoles = h.consoles := rfl
@[simp] theorem Hall.dropReceiver_bus (s : Serial) : (h.dropReceiver s).bus = h.bus := rfl
@[simp] theorem Hall.dropReceiver_air (s : Serial) : (h.dropReceiver s).air = h.air := rfl
@[simp] theorem Hall.dropReceiver_link (s : Serial) : (h.dropReceiver s).link = h.link := rfl
@[simp] theorem Hall.dropReceiver_lowFired (s : Serial) : (h.dropReceiver s).lowFired = h.lowFired := rfl
@[simp] theorem Hall.dropReceiver_meters (s : Serial) : (h.dropReceiver s).meters = h.meters := rfl
@[simp] theorem Hall.dropReceiver_levels (s : Serial) : (h.dropReceiver s).levels = h.levels := rfl
@[simp] theorem Hall.dropReceiver_free (s : Serial) : (h.dropReceiver s).free = h.free := rfl
@[simp] theorem Hall.dropReceiver_work (s : Serial) : (h.dropReceiver s).work = h.work := rfl

/-! ### putHire -/

@[simp] theorem Hall.putHire_settings (r : Hire) : (h.putHire r).settings = h.settings := rfl
@[simp] theorem Hall.putHire_account (r : Hire) : (h.putHire r).account = h.account := rfl
@[simp] theorem Hall.putHire_clock (r : Hire) : (h.putHire r).clock = h.clock := rfl
@[simp] theorem Hall.putHire_channels (r : Hire) : (h.putHire r).channels = h.channels := rfl
@[simp] theorem Hall.putHire_waitLists (r : Hire) : (h.putHire r).waitLists = h.waitLists := rfl
@[simp] theorem Hall.putHire_booths (r : Hire) : (h.putHire r).booths = h.booths := rfl
@[simp] theorem Hall.putHire_consoles (r : Hire) : (h.putHire r).consoles = h.consoles := rfl
@[simp] theorem Hall.putHire_bus (r : Hire) : (h.putHire r).bus = h.bus := rfl
@[simp] theorem Hall.putHire_air (r : Hire) : (h.putHire r).air = h.air := rfl
@[simp] theorem Hall.putHire_link (r : Hire) : (h.putHire r).link = h.link := rfl
@[simp] theorem Hall.putHire_lowFired (r : Hire) : (h.putHire r).lowFired = h.lowFired := rfl
@[simp] theorem Hall.putHire_meters (r : Hire) : (h.putHire r).meters = h.meters := rfl
@[simp] theorem Hall.putHire_levels (r : Hire) : (h.putHire r).levels = h.levels := rfl
@[simp] theorem Hall.putHire_free (r : Hire) : (h.putHire r).free = h.free := rfl
@[simp] theorem Hall.putHire_work (r : Hire) : (h.putHire r).work = h.work := rfl

/-! ### dropHire -/

@[simp] theorem Hall.dropHire_settings (n : Nat) : (h.dropHire n).settings = h.settings := rfl
@[simp] theorem Hall.dropHire_account (n : Nat) : (h.dropHire n).account = h.account := rfl
@[simp] theorem Hall.dropHire_clock (n : Nat) : (h.dropHire n).clock = h.clock := rfl
@[simp] theorem Hall.dropHire_channels (n : Nat) : (h.dropHire n).channels = h.channels := rfl
@[simp] theorem Hall.dropHire_waitLists (n : Nat) : (h.dropHire n).waitLists = h.waitLists := rfl
@[simp] theorem Hall.dropHire_booths (n : Nat) : (h.dropHire n).booths = h.booths := rfl
@[simp] theorem Hall.dropHire_consoles (n : Nat) : (h.dropHire n).consoles = h.consoles := rfl
@[simp] theorem Hall.dropHire_bus (n : Nat) : (h.dropHire n).bus = h.bus := rfl
@[simp] theorem Hall.dropHire_air (n : Nat) : (h.dropHire n).air = h.air := rfl
@[simp] theorem Hall.dropHire_link (n : Nat) : (h.dropHire n).link = h.link := rfl
@[simp] theorem Hall.dropHire_lowFired (n : Nat) : (h.dropHire n).lowFired = h.lowFired := rfl
@[simp] theorem Hall.dropHire_meters (n : Nat) : (h.dropHire n).meters = h.meters := rfl
@[simp] theorem Hall.dropHire_levels (n : Nat) : (h.dropHire n).levels = h.levels := rfl
@[simp] theorem Hall.dropHire_free (n : Nat) : (h.dropHire n).free = h.free := rfl
@[simp] theorem Hall.dropHire_work (n : Nat) : (h.dropHire n).work = h.work := rfl

/-! ### putBadge -/

@[simp] theorem Hall.putBadge_settings (b : Badge) : (h.putBadge b).settings = h.settings := rfl
@[simp] theorem Hall.putBadge_account (b : Badge) : (h.putBadge b).account = h.account := rfl
@[simp] theorem Hall.putBadge_clock (b : Badge) : (h.putBadge b).clock = h.clock := rfl
@[simp] theorem Hall.putBadge_channels (b : Badge) : (h.putBadge b).channels = h.channels := rfl
@[simp] theorem Hall.putBadge_waitLists (b : Badge) : (h.putBadge b).waitLists = h.waitLists := rfl
@[simp] theorem Hall.putBadge_booths (b : Badge) : (h.putBadge b).booths = h.booths := rfl
@[simp] theorem Hall.putBadge_consoles (b : Badge) : (h.putBadge b).consoles = h.consoles := rfl
@[simp] theorem Hall.putBadge_bus (b : Badge) : (h.putBadge b).bus = h.bus := rfl
@[simp] theorem Hall.putBadge_air (b : Badge) : (h.putBadge b).air = h.air := rfl
@[simp] theorem Hall.putBadge_link (b : Badge) : (h.putBadge b).link = h.link := rfl
@[simp] theorem Hall.putBadge_lowFired (b : Badge) : (h.putBadge b).lowFired = h.lowFired := rfl
@[simp] theorem Hall.putBadge_meters (b : Badge) : (h.putBadge b).meters = h.meters := rfl
@[simp] theorem Hall.putBadge_levels (b : Badge) : (h.putBadge b).levels = h.levels := rfl
@[simp] theorem Hall.putBadge_free (b : Badge) : (h.putBadge b).free = h.free := rfl
@[simp] theorem Hall.putBadge_work (b : Badge) : (h.putBadge b).work = h.work := rfl

/-! ### The fleet tables -/

@[simp] theorem Hall.putReceiver_hires (r : Receiver) : (h.putReceiver r).fleet.hires = h.fleet.hires := rfl
@[simp] theorem Hall.putReceiver_badges (r : Receiver) : (h.putReceiver r).fleet.badges = h.fleet.badges := rfl
@[simp] theorem Hall.dropReceiver_receivers (s : Serial) :
    (h.dropReceiver s).fleet.receivers = h.fleet.receivers.filter fun x => x.serial != s := rfl
@[simp] theorem Hall.dropReceiver_hires (s : Serial) : (h.dropReceiver s).fleet.hires = h.fleet.hires := rfl
@[simp] theorem Hall.dropReceiver_badges (s : Serial) : (h.dropReceiver s).fleet.badges = h.fleet.badges := rfl
@[simp] theorem Hall.putHire_receivers (r : Hire) : (h.putHire r).fleet.receivers = h.fleet.receivers := rfl
@[simp] theorem Hall.putHire_badges (r : Hire) : (h.putHire r).fleet.badges = h.fleet.badges := rfl
@[simp] theorem Hall.dropHire_receivers (n : Nat) : (h.dropHire n).fleet.receivers = h.fleet.receivers := rfl
@[simp] theorem Hall.dropHire_hires (n : Nat) :
    (h.dropHire n).fleet.hires = h.fleet.hires.filter fun x => x.number != n := rfl
@[simp] theorem Hall.dropHire_badges (n : Nat) : (h.dropHire n).fleet.badges = h.fleet.badges := rfl
@[simp] theorem Hall.putBadge_receivers (b : Badge) : (h.putBadge b).fleet.receivers = h.fleet.receivers := rfl
@[simp] theorem Hall.putBadge_hires (b : Badge) : (h.putBadge b).fleet.hires = h.fleet.hires := rfl

/-! ### State.opened -/

variable (s : State)

@[simp] theorem State.opened_hall : s.opened.hall = s.hall := rfl
@[simp] theorem State.opened_notice : s.opened.notice = s.notice := rfl
@[simp] theorem State.opened_store : s.opened.store = s.store := rfl
@[simp] theorem State.opened_port : s.opened.port = s.port := rfl
@[simp] theorem State.opened_desks : s.opened.desks = s.desks := rfl
@[simp] theorem State.opened_listening : s.opened.listening = s.listening := rfl
@[simp] theorem State.opened_pfw : s.opened.pfw = s.pfw := rfl
@[simp] theorem State.opened_resetn : s.opened.resetn = s.resetn := rfl
@[simp] theorem State.opened_start : s.opened.start = s.start := rfl
@[simp] theorem State.opened_out : s.opened.out = [] := rfl
@[simp] theorem State.opened_pending : s.opened.pending = s.pending := rfl

end Sys2Proof.Machine
end

