-- ==== Sys2Proof/Laws/Store.lean ====
section
/-! SUPPORT. The store controller's list: a write asked for is there afterwards, and so is what waits on it. -/

namespace Sys2Proof.Machine

theorem AreaSet.subset_refl (a : AreaSet) : a.subset a = true := by
  rcases a with ⟨a, b, c, d⟩
  revert a b c d
  decide

theorem AreaSet.subset_trans {a b c : AreaSet} (h : a.subset b = true) (k : b.subset c = true) :
    a.subset c = true := by
  rcases a with ⟨_ | _, _ | _, _ | _, _ | _⟩ <;> rcases b with ⟨_ | _, _ | _, _ | _, _ | _⟩ <;>
    rcases c with ⟨_ | _, _ | _, _ | _, _ | _⟩ <;> revert h k <;> decide

/-- After a write was asked for, a write on the list takes its areas with every one of its waiters (R170). -/
theorem joinWrites_mem (areas : AreaSet) (ws : List Waiter) (l : List StoreWrite) :
    ∃ x ∈ joinWrites areas ws l, areas.subset x.areas = true ∧ ∀ w ∈ ws, w ∈ x.waiters := by
  induction l with
  | nil => exact ⟨⟨areas, ws⟩, by simp [joinWrites], AreaSet.subset_refl _, fun _ h => h⟩
  | cons y l ih =>
    unfold joinWrites
    split
    · rename_i hy
      exact ⟨_, List.mem_cons_self .., hy, fun w h => by simp [h]⟩
    · obtain ⟨x, hx, p⟩ := ih
      exact ⟨x, List.mem_cons_of_mem _ hx, p⟩

/-- A write on the list stays there when another is asked for, with all that waits on it. -/
theorem joinWrites_keeps (areas : AreaSet) (ws : List Waiter) {l : List StoreWrite} {x : StoreWrite} (hx : x ∈ l) :
    ∃ y ∈ joinWrites areas ws l, y.areas = x.areas ∧ ∀ w ∈ x.waiters, w ∈ y.waiters := by
  induction l with
  | nil => cases hx
  | cons z l ih =>
    unfold joinWrites
    split
    · cases hx with
      | head => exact ⟨_, List.mem_cons_self .., rfl, fun w h => by simp [h]⟩
      | tail _ h => exact ⟨x, List.mem_cons_of_mem _ h, rfl, fun _ h => h⟩
    · cases hx with
      | head => exact ⟨x, List.mem_cons_self .., rfl, fun _ h => h⟩
      | tail _ h =>
        obtain ⟨y, hy, p⟩ := ih h
        exact ⟨y, List.mem_cons_of_mem _ hy, p⟩

theorem askWrite_awaits (areas : AreaSet) (w : Waiter) (st : Store) : (askWrite areas [w] st).awaits areas w := by
  obtain ⟨x, hx, p, q⟩ := joinWrites_mem areas [w] st.writes
  exact .inr ⟨x, hx, p, q w (by simp)⟩

theorem askWrite_keeps {st : Store} {areas : AreaSet} {w : Waiter} (a : AreaSet) (ws : List Waiter)
    (h : st.awaits areas w) : (askWrite a ws st).awaits areas w := by
  rcases h with h | ⟨x, hx, p, q⟩
  · exact .inl h
  · obtain ⟨y, hy, e, k⟩ := joinWrites_keeps a ws hx
    exact .inr ⟨y, hy, e ▸ p, k w q⟩

theorem asks_keep {st : Store} {areas : AreaSet} {w : Waiter} (l : List AreaSet) (h : st.awaits areas w) :
    (l.foldl (fun st a => askWrite a [] st) st).awaits areas w := by
  induction l generalizing st with
  | nil => exact h
  | cons a l ih => exact ih (askWrite_keeps a [] h)

theorem beginWrite_keeps {st : Store} {areas : AreaSet} {w : Waiter} (h : Hall) (k : st.awaits areas w) :
    (beginWrite h st).awaits areas w := by
  unfold beginWrite
  split
  · rename_i x rest hc hw
    rcases k with ⟨c, e, _⟩ | ⟨y, hy, p, q⟩
    · rw [hc] at e; cases e
    · rw [hw] at hy
      cases hy with
      | head => exact .inl ⟨_, rfl, p, q⟩
      | tail _ hy => exact .inr ⟨y, hy, p, q⟩
  · exact k

/-- An event's own write is on the list or in progress at its end, with what waits on it (R170). -/
theorem placeWrites_awaits (areas : AreaSet) (w : Waiter) (asks : List AreaSet) (h : Hall) (st : Store) :
    (beginWrite h (placeWrites (some (areas, w)) asks st)).awaits areas w :=
  beginWrite_keeps h (askWrite_awaits areas w _)

/-- Asking for writes and beginning one changes neither the store's content nor its failures. -/
theorem asks_frame (l : List AreaSet) (st : Store) :
    let st' := l.foldl (fun st a => askWrite a [] st) st
    st'.held = st.held ∧ st'.failed = st.failed ∧ st'.rewrite = st.rewrite := by
  induction l generalizing st with
  | nil => exact ⟨rfl, rfl, rfl⟩
  | cons a l ih => exact ih (askWrite a [] st)

theorem beginWrite_frame (h : Hall) (st : Store) :
    (beginWrite h st).held = st.held ∧ (beginWrite h st).failed = st.failed ∧
      (beginWrite h st).rewrite = st.rewrite := by
  unfold beginWrite
  split <;> exact ⟨rfl, rfl, rfl⟩

theorem placeWrites_frame (own : Option (AreaSet × Waiter)) (asks : List AreaSet) (st : Store) :
    (placeWrites own asks st).held = st.held ∧ (placeWrites own asks st).failed = st.failed ∧
      (placeWrites own asks st).rewrite = st.rewrite := by
  cases own with
  | none => exact asks_frame asks st
  | some p => exact asks_frame asks st

theorem storeEnd_frame (own : Option (AreaSet × Waiter)) (asks : List AreaSet) (h : Hall) (st : Store) :
    let st' := beginWrite h (placeWrites own asks st)
    st'.held = st.held ∧ st'.failed = st.failed ∧ st'.rewrite = st.rewrite := by
  have a := beginWrite_frame h (placeWrites own asks st)
  have b := placeWrites_frame own asks st
  exact ⟨a.1.trans b.1, a.2.1.trans b.2.1, a.2.2.trans b.2.2⟩

end Sys2Proof.Machine
end

