-- ==== Sys2Proof/Laws/Events.lean ====
section
/-! SUPPORT. One event, from the line or the expiry that begins it to the state it leaves: a meaning's verdict is all
that a statement about its command needs. -/

namespace Sys2Proof.Machine

variable {s : State}

/-! ### The end of an event -/

theorem finish_none_hall (s : State) : (finish none s).hall = s.hall.rested := rfl

theorem finish_none_notice (s : State) : (finish none s).notice = noticeEnd s.hall s.store.failed s.notice := rfl

theorem markBusy_hall (s : State) (w : Waiter) : (markBusy s w).hall = s.hall := by cases w <;> rfl

theorem markBusy_notice (s : State) (w : Waiter) : (markBusy s w).notice = s.notice := by cases w <;> rfl

theorem finish_hall (own) (s : State) : (finish own s).hall = s.hall.rested := by
  cases own with
  | none => rfl
  | some p => exact markBusy_hall _ _

theorem finish_notice (own) (s : State) : (finish own s).notice = noticeEnd s.hall s.store.failed s.notice := by
  cases own with
  | none => rfl
  | some p => exact markBusy_notice _ _

theorem rested_work (h : Hall) : h.rested.work = EventWork.empty := rfl

/-- The end of an event leaves a sound state of a bounded notice unit. -/
theorem finish_sound (own) {s : State} (b : s.notice.bounded) : (finish own s).sound := by
  refine ⟨?_, ?_, ?_⟩
  · rw [finish_notice]; exact noticeEnd_bounded _ _ b
  · have e : s.hall.rested.settings = s.hall.settings := by
      unfold Hall.rested chooseExchange
      split <;> try rfl
      split <;> try rfl
      split <;> rfl
    simp only [State.attnAgrees, finish_notice, finish_hall, e]
    rfl
  · simp only [State.atRest, finish_hall, rested_work]

/-! ### Whether a command is taken -/

theorem hostLine_taken (tag f) (p : s.takesOrders) : hostLine tag f s = concludeHost tag (f s.opened) := by
  obtain ⟨a, b, c⟩ := p
  simp [hostLine, State.opened, a, b, c]

theorem deskLine_taken {d : DeskId} (tag f) (p : s.takesRequests d) :
    deskLine d tag f s = concludeDesk d tag (f s.opened) := by
  obtain ⟨a, b, c⟩ := p
  simp only [deskLine, State.opened, a, b, c]
  rfl

theorem event_taken (f) (p : s.resetn = false) : event f s = finish none { s.opened with hall := f s.hall } := by
  simp [event, State.opened, p]

theorem hostLine_reset (tag f) (p : s.resetn = true) : hostLine tag f s = s.opened := by
  simp [hostLine, State.opened, p]

theorem deskLine_reset (d tag f) (p : s.resetn = true) : deskLine d tag f s = s.opened := by
  simp [deskLine, State.opened, p]

theorem event_reset (f) (p : s.resetn = true) : event f s = s.opened := by
  simp [event, State.opened, p]

theorem hostLine_busy (tag f) (a : s.resetn = false) (b : s.listening = true) (c : s.port.busy = true) :
    hostLine tag f s = { s.opened with port := { s.port with overrun := true } } := by
  simp [hostLine, State.opened, a, b, c]

/-! ### What a verdict comes to -/

theorem endsWith_finish (own) (h : Hall) : s.endsWith h (finish own { s.opened with hall := h }) := by
  have f := storeEnd_frame own h.work.asks h s.store
  cases own with
  | none => exact ⟨rfl, rfl, rfl, rfl, rfl, rfl, rfl, f.1, f.2.1, f.2.2⟩
  | some p =>
    obtain ⟨a, w⟩ := p
    cases w <;> exact ⟨rfl, rfl, rfl, rfl, rfl, rfl, rfl, f.1, f.2.1, f.2.2⟩

/-- A host order's verdict given at once. -/
theorem answersNow_of {i tag r h f} (p : s.takesOrders) (e : exec i s = .next (hostLine tag f s))
    (v : f s.opened = .now r { s.opened with hall := h }) : s.answersNow i tag r h := by
  refine ⟨_, e, ?_⟩
  rw [hostLine_taken tag f p, v]
  exact ⟨endsWith_finish none h, rfl, rfl, rfl, rfl⟩

/-- A host order's verdict that waits on a write. -/
theorem answerWaits_of {i tag areas r h f} (p : s.takesOrders) (e : exec i s = .next (hostLine tag f s))
    (v : f s.opened = .wait areas r { s.opened with hall := h }) : s.answerWaits i tag areas r h := by
  refine ⟨_, e, ?_⟩
  rw [hostLine_taken tag f p, v]
  exact ⟨endsWith_finish _ h, rfl, rfl, rfl, rfl, placeWrites_awaits _ _ _ _ _⟩

/-- A desk request's verdict given at once. -/
theorem deskAnswersNow_of {d i tag r h f} (p : s.takesRequests d) (e : exec i s = .next (deskLine d tag f s))
    (v : f s.opened = .now r { s.opened with hall := h }) : s.deskAnswersNow d i tag r h := by
  refine ⟨_, e, ?_⟩
  rw [deskLine_taken tag f p, v]
  exact ⟨endsWith_finish none h, rfl, rfl, rfl, rfl⟩

/-- A desk request's verdict that waits on a write. -/
theorem deskAnswerWaits_of {d i tag areas r h f} (p : s.takesRequests d) (e : exec i s = .next (deskLine d tag f s))
    (v : f s.opened = .wait areas r { s.opened with hall := h }) : s.deskAnswerWaits d i tag areas r h := by
  refine ⟨_, e, ?_⟩
  rw [deskLine_taken tag f p, v]
  exact ⟨endsWith_finish _ h, rfl, rfl, rfl, rfl, placeWrites_awaits _ _ _ _ _⟩

/-- A refusal given at once changes nothing. -/
theorem refused_of {i tag c f} (p : s.takesOrders) (e : exec i s = .next (hostLine tag f s))
    (v : f s.opened = refuse c s.opened) : s.answersNow i tag (.er c) s.hall := answersNow_of p e v

/-- An event that is taken. -/
theorem takesEvent_of {i f} (p : s.resetn = false) (e : exec i s = .next (event f s)) : s.takesEvent i (f s.hall) := by
  refine ⟨_, e, ?_⟩
  rw [event_taken f p]
  exact ⟨endsWith_finish none _, rfl, rfl, rfl, rfl⟩

/-- An event whose blocks ask for nothing leaves the store as it stands, while the port makes a write or none waits. -/
theorem asks_nothing {h t} (a : s.asks none h t) (e : h.work.asks = []) (p : s.store.current ≠ none ∨ s.store.writes = []) :
    t.store = s.store := by
  rw [a, e]
  show beginWrite h s.store = s.store
  unfold beginWrite
  split
  · next c w => simp [c, w] at p
  · rfl

end Sys2Proof.Machine
end

