-- ==== Sys2Proof/Laws/Tables.lean ====
section
/-! SUPPORT. Reading a table after it was set, changed or computed anew. -/

namespace Sys2Proof

variable {α : Type} {n : Nat}

@[simp] theorem vset_val_same (v : Vector α n) (i : Fin n) (x : α) : (vset v i x)[i.val] = x := by
  simp [vset]

theorem vset_same (v : Vector α n) (i : Fin n) (x : α) : (vset v i x)[i] = x := vset_val_same v i x

theorem vset_other (v : Vector α n) {i j : Fin n} (x : α) (h : i ≠ j) : (vset v i x)[j] = v[j] := by
  have : i.val ≠ j.val := fun e => h (Fin.ext e)
  simp [vset, this]

theorem vset_get (v : Vector α n) (i j : Fin n) (x : α) : (vset v i x)[j] = if i = j then x else v[j] := by
  by_cases h : i = j
  · subst h; simp
  · rw [if_neg h, vset_other v x h]

@[simp] theorem vmod_val_same (v : Vector α n) (i : Fin n) (f : α → α) : (vmod v i f)[i.val] = f v[i.val] :=
  vset_val_same v i _

theorem vmod_same (v : Vector α n) (i : Fin n) (f : α → α) : (vmod v i f)[i] = f v[i] := vset_same v i _

theorem vmod_other (v : Vector α n) {i j : Fin n} (f : α → α) (h : i ≠ j) : (vmod v i f)[j] = v[j] :=
  vset_other v _ h

theorem vmod_get (v : Vector α n) (i j : Fin n) (f : α → α) : (vmod v i f)[j] = if i = j then f v[j] else v[j] := by
  by_cases h : i = j
  · subst h; simp
  · rw [if_neg h, vmod_other v f h]

@[simp] theorem vtab_val_get (f : Fin n → α) (i : Fin n) : (vtab f)[i.val] = f i := by
  simp [vtab]

theorem vtab_get (f : Fin n → α) (i : Fin n) : (vtab f)[i] = f i := vtab_val_get f i

/-- Two tables with equal entries are equal. -/
theorem table_ext {v w : Vector α n} (h : ∀ i : Fin n, v[i] = w[i]) : v = w := by
  apply Vector.ext
  intro i hi
  exact h ⟨i, hi⟩

/-- A field that a change of one entry keeps is kept in every entry. -/
theorem vmod_keeps {β : Type} (p : α → β) (v : Vector α n) (i j : Fin n) (f : α → α) (h : ∀ x, p (f x) = p x) :
    p (vmod v i f)[j] = p v[j] := by
  rw [vmod_get]
  split
  · exact h _
  · rfl

@[simp] theorem mem_ids (i : Fin n) : i ∈ ids n := by
  simp [ids]

end Sys2Proof
end

