-- ==== Sys2Proof/Laws/Frame.lean ====
section
/-! SUPPORT. What the reporting operations leave alone: meters, spells, the carrier allocator, the channel plan's
re-evaluation, and the relay never touch settings, hire records, the interlock, or the accounts other than the minutes
they count. -/

namespace Sys2Proof.Machine

theorem Hall.Kept.refl (h : Hall) : h.Kept h := by
  constructor <;> first | rfl | (intro; rfl)

theorem Hall.Kept.trans {h k l : Hall} (p : h.Kept k) (q : k.Kept l) : h.Kept l := by
  cases p; cases q
  constructor <;> first | (intro x; simp_all) | simp_all

theorem Hall.Kept.foldl {α : Type} (f : Hall → α → Hall) (hf : ∀ (h : Hall) (x : α), h.Kept (f h x)) (l : List α) (h : Hall) :
    h.Kept (l.foldl f h) := by
  induction l generalizing h with
  | nil => exact .refl h
  | cons x xs ih => exact (hf h x).trans (ih _)

variable (h : Hall)

theorem kept_post (cls kind subject value) : h.Kept (h.post cls kind subject value) := by
  constructor <;> first | rfl | (intro; rfl)

theorem kept_logFault (code subject) : h.Kept (h.logFault code subject) := by
  constructor <;> first | rfl | (intro; rfl)

theorem kept_ask (a) : h.Kept (h.ask a) := by
  constructor <;> first | rfl | (intro; rfl)

theorem kept_touched (l) : h.Kept { h with work := { h.work with touched := l } } := by
  constructor <;> first | rfl | (intro; rfl)

theorem kept_modMeter (m f) : h.Kept (h.modMeter m f) := by
  constructor <;> first | rfl | (intro; rfl)

theorem kept_levels (l) : h.Kept { h with levels := l } := by
  constructor <;> first | rfl | (intro; rfl)

theorem kept_free (n) : h.Kept { h with free := n } := by
  constructor <;> first | rfl | (intro; rfl)

theorem kept_air (a) : h.Kept { h with air := a } := by
  constructor <;> first | rfl | (intro; rfl)

theorem kept_link (l) : h.Kept { h with link := l } := by
  constructor <;> first | rfl | (intro; rfl)

theorem kept_setCarrier (k r) : h.Kept (h.setCarrier k r) := kept_air h _

theorem kept_setWaiting (l) : h.Kept (h.setWaiting l) := kept_air h _

theorem kept_modChannelDay (c f) : h.Kept (h.modChannelDay c f) := by
  constructor <;> first | rfl | (intro; rfl)

/-- A channel's stamps and service state set. -/
theorem kept_modChannel (c : ChannelId) (f : ChannelRun → ChannelRun) (h1 : ∀ r, (f r).feeder = r.feeder)
    (h2 : ∀ r, (f r).demand = r.demand) (h3 : ∀ r, (f r).peak = r.peak) : h.Kept (h.modChannel c f) := by
  constructor <;> first
    | rfl
    | exact fun j => vmod_keeps ChannelRun.feeder _ _ _ _ h1
    | exact fun j => vmod_keeps ChannelRun.demand _ _ _ _ h2
    | exact fun j => vmod_keeps ChannelRun.peak _ _ _ _ h3
    | (intro; rfl)

/-- A booth's fallback fields set. -/
theorem kept_modBooth (b : BoothId) (f : BoothRun → BoothRun) (h1 : ∀ r, (f r).owner = r.owner)
    (h2 : ∀ r, (f r).queue = r.queue) (h3 : ∀ r, (f r).unowned = r.unowned) : h.Kept (h.modBooth b f) := by
  constructor <;> first
    | rfl
    | exact fun j => vmod_keeps BoothRun.owner _ _ _ _ h1
    | exact fun j => vmod_keeps BoothRun.queue _ _ _ _ h2
    | exact fun j => vmod_keeps BoothRun.unowned _ _ _ _ h3
    | (intro; rfl)

/-- A booth's fallback minutes set. -/
theorem kept_modBoothDay (b : BoothId) (f : BoothDay → BoothDay) (h1 : ∀ d, (f d).live = d.live)
    (h2 : ∀ d, (f d).handovers = d.handovers) : h.Kept (h.modBoothDay b f) := by
  constructor <;> first
    | rfl
    | exact fun j => vmod_keeps BoothDay.live _ _ _ _ h1
    | exact fun j => vmod_keeps BoothDay.handovers _ _ _ _ h2
    | (intro; rfl)

/-! ### Meters -/

theorem kept_presetTest (m) : h.Kept (presetTest m h) := by
  unfold presetTest
  dsimp only
  split
  · exact (kept_post h _ _ _ _).trans (kept_modMeter _ _ _)
  · exact .refl h

theorem kept_fullTest (m) : h.Kept (fullTest m h) := by
  unfold fullTest
  dsimp only
  split
  · exact ((kept_post h _ _ _ _).trans (kept_modMeter _ _ _)).trans (kept_free _ _)
  · exact .refl h

theorem kept_raiseCount (m) : h.Kept (raiseCount m h) := by
  unfold raiseCount
  split
  · exact ((kept_modMeter h _ _).trans (kept_presetTest _ _)).trans (kept_fullTest _ _)
  · exact .refl h

theorem kept_meterEvent (e) : h.Kept (meterEvent e h) := by
  refine Hall.Kept.foldl _ (fun k m => ?_) _ _
  unfold offerEvent
  dsimp only
  split
  · split
    · exact kept_raiseCount k m
    · exact kept_modMeter k _ _
  · exact .refl k

theorem kept_meterLevel (k v) : h.Kept (meterLevel k v h) := by
  refine (kept_levels h _).trans (Hall.Kept.foldl _ (fun g m => ?_) _ _)
  unfold offerLevel
  dsimp only
  split
  · exact kept_modMeter g _ _
  · exact .refl g

theorem kept_meterLevelChange (k v) : h.Kept (meterLevelChange k v h) := by
  unfold meterLevelChange
  split
  · exact .refl h
  · exact kept_meterLevel h _ _

/-! ### Spells -/

theorem kept_spells (c) : h.Kept (h.spells c) := by
  unfold Hall.spells
  have p : h.Kept ((h.modChannel c _).modChannelDay c _) :=
    (kept_modChannel h c (fun r => { r with
      outageSince := (spell h.channels[c].outageSince (h.lacks c) h.account.channels[c].outage h.now).2
      servedSince := (spell h.channels[c].servedSince (h.serves c) h.account.channels[c].onAir h.now).2
      fillSince := (spell h.channels[c].fillSince (h.fills c) h.account.channels[c].fill h.now).2 })
      (by intro _; rfl) (by intro _; rfl) (by intro _; rfl)).trans
      (kept_modChannelDay _ c (fun _ => ⟨(spell h.channels[c].outageSince (h.lacks c) h.account.channels[c].outage h.now).1,
        (spell h.channels[c].servedSince (h.serves c) h.account.channels[c].onAir h.now).1,
        (spell h.channels[c].fillSince (h.fills c) h.account.channels[c].fill h.now).1⟩))
  dsimp only
  split
  · exact p
  · exact p.trans (kept_ask _ _)

theorem kept_handUnserved : h.Kept h.handUnserved := kept_meterLevelChange h _ _

theorem kept_spellsAll : h.Kept h.spellsAll :=
  (Hall.Kept.foldl _ (fun k c => kept_spells k c) _ _).trans (kept_handUnserved _)

theorem kept_reviewChannel (c) : h.Kept (reviewChannel h c) := (kept_spells h c).trans (kept_handUnserved _)

/-! ### The carrier allocator -/

theorem kept_joinWait (c) : h.Kept (joinWait c h) :=
  ((kept_setWaiting h _).trans (kept_post _ _ _ _ _)).trans (kept_meterEvent _ _)

theorem kept_giveCarrier (k c) : h.Kept (giveCarrier k c h) := kept_setCarrier h _ _

theorem kept_postEvict (k e) : h.Kept (postEvict k e h) := (kept_post h _ _ _ _).trans (kept_meterEvent _ _)

theorem kept_offer {c : ChannelId} {k : Hall} (e : offer c h = some k) : h.Kept k := by
  unfold offer at e
  split at e
  · obtain rfl := Option.some.inj e; exact kept_giveCarrier h _ _
  · split at e
    · obtain rfl := Option.some.inj e; exact kept_giveCarrier h _ _
    · split at e
      · obtain rfl := Option.some.inj e; exact (kept_postEvict h _ _).trans (kept_giveCarrier _ _ _)
      · split at e
        · obtain rfl := Option.some.inj e; exact ((kept_postEvict h _ _).trans (kept_giveCarrier _ _ _)).trans (kept_joinWait _ _)
        · cases e

theorem kept_requestCarrier (c) : h.Kept (requestCarrier c h) := by
  unfold requestCarrier
  split
  · exact kept_offer h ‹_›
  · exact kept_joinWait h c

theorem kept_serveList (n : Nat) : h.Kept (serveList n h) := by
  induction n generalizing h with
  | zero => exact .refl h
  | succ n ih =>
    unfold serveList
    split
    · exact .refl h
    · split
      · exact ((kept_setWaiting h _).trans (kept_offer _ ‹_›)).trans (ih _)
      · exact .refl h

theorem kept_raiseGeneration : h.Kept (raiseGeneration h) := by
  unfold raiseGeneration
  split
  · exact .refl h
  · exact kept_link h _

theorem kept_handInUse : h.Kept (handInUse h) := (kept_air h _).trans (kept_meterLevelChange _ _ _)

theorem kept_allocReport (before) : h.Kept (allocReport before h) :=
  ((Hall.Kept.foldl _ kept_reviewChannel _ _).trans (kept_raiseGeneration _)).trans (kept_handInUse _)

theorem kept_allocEvent (act : Hall → Hall) (ha : h.Kept (act h)) : h.Kept (allocEvent act h) :=
  (ha.trans (kept_serveList _ _)).trans (kept_allocReport _ _)

theorem kept_resumeCarrier (k) : h.Kept (resumeCarrier k h) := by
  unfold resumeCarrier
  split
  · exact kept_setCarrier h _ _
  · exact .refl h

theorem kept_beginHold (k) : h.Kept (beginHold k h) := by
  unfold beginHold
  split
  · split
    · exact kept_setCarrier h _ _
    · exact kept_setCarrier h _ _
  · exact .refl h

theorem kept_leaveWait (c) : h.Kept (leaveWait c h) := kept_setWaiting h _

theorem kept_serviceReport (c v) : h.Kept (serviceReport c v h) := by
  unfold serviceReport
  split
  · split
    · exact .refl h
    · exact kept_requestCarrier h c
  · exact kept_leaveWait h c
  · exact kept_resumeCarrier h _
  · exact kept_resumeCarrier h _
  · split
    · exact .refl h
    · exact kept_beginHold h _
  · exact (kept_setCarrier h _ _).trans (kept_leaveWait _ _)

theorem kept_pinnedReport (c) : h.Kept (pinnedReport c h) := by
  unfold pinnedReport
  split
  · exact (kept_leaveWait h c).trans (kept_requestCarrier _ _)
  · exact kept_resumeCarrier h _

theorem kept_unpinnedReport (c) : h.Kept (unpinnedReport c h) := by
  unfold unpinnedReport
  split
  · split
    · exact kept_setCarrier h _ _
    · exact .refl h
  · exact .refl h

theorem kept_buildCarriers : h.Kept (buildCarriers h) :=
  (((kept_setWaiting h _).trans (Hall.Kept.foldl _ (fun k _ => kept_setCarrier k _ _) _ _)).trans
    (Hall.Kept.foldl _ (fun k c => kept_requestCarrier k c) _ _)).trans
    (Hall.Kept.foldl _ (fun k c => kept_requestCarrier k c) _ _)

/-! ### Relay and the channel plan -/

theorem kept_endFallbackSpell (b) : h.Kept (endFallbackSpell b h) := by
  unfold endFallbackSpell
  split
  · exact ((kept_modBooth h b _ (by intro _; rfl) (by intro _; rfl) (by intro _; rfl)).trans
      (kept_modBoothDay _ b _ (by intro _; rfl) (by intro _; rfl))).trans (kept_ask _ _)
  · exact .refl h

theorem kept_openFallbackSpell (b) : h.Kept (openFallbackSpell b h) := by
  unfold openFallbackSpell
  split
  · exact kept_modBooth h b _ (by intro _; rfl) (by intro _; rfl) (by intro _; rfl)
  · exact .refl h

theorem kept_resolveBooth (b) : h.Kept (resolveBooth h b) := by
  unfold resolveBooth
  split
  · exact (((kept_modBooth h b _ (by intro _; rfl) (by intro _; rfl) (by intro _; rfl)).trans (kept_post _ _ _ _ _)).trans
      (kept_meterEvent _ _)).trans (kept_openFallbackSpell _ _)
  · exact ((kept_modBooth h b _ (by intro _; rfl) (by intro _; rfl) (by intro _; rfl)).trans (kept_post _ _ _ _ _)).trans
      (kept_endFallbackSpell _ _)
  · exact kept_modBooth h b _ (by intro _; rfl) (by intro _; rfl) (by intro _; rfl)
  · exact .refl h

theorem kept_resolveAll : h.Kept (resolveAll h) := Hall.Kept.foldl _ kept_resolveBooth _ _

theorem kept_resolveListing (c) : h.Kept (resolveListing c h) := Hall.Kept.foldl _ kept_resolveBooth _ _

theorem kept_reevaluate (c) : h.Kept (reevaluate h c) := by
  unfold reevaluate
  dsimp only
  split
  · exact kept_reviewChannel h c
  · exact (((kept_modChannel h c _ (by intro _; rfl) (by intro _; rfl) (by intro _; rfl)).trans
      (kept_reviewChannel _ c)).trans (kept_allocEvent _ _ (kept_serviceReport _ _ _))).trans (kept_resolveListing _ _)

theorem kept_reportFeeders : h.Kept (reportFeeders h) :=
  (kept_touched h _).trans (Hall.Kept.foldl _ kept_reevaluate _ _)

/-- The end of a booth controller event changes nothing the interlock holds. -/
theorem kept_settle : h.Kept (settle h) :=
  ((kept_reportFeeders h).trans (kept_resolveAll _)).trans (kept_meterLevelChange _ _ _)

/-! ### The settlement record -/

/-- Placing a record changes the account and posts, and nothing else (R141, R142). -/
theorem placeRecord_frame (r : Settlement) : (placeRecord r h).1 =
    { h with account := (placeRecord r h).1.account, work := (placeRecord r h).1.work } := by
  unfold placeRecord unitemise Hall.post
  dsimp only
  split
  · rfl
  · split <;> first | rfl | (split <;> rfl)

/-- Placing a record does what R141 and R142 say of it. -/
theorem placeRecord_records (r : Settlement) :
    h.records (placeRecord r h).1 r (placeRecord r h).2.1 (placeRecord r h).2.2 := by
  unfold Hall.records ifElse
  by_cases full : h.account.seq = maxCount
  · simp [placeRecord, unitemise, full]
  · by_cases room : h.account.queue.length < 256
    · by_cases high : h.account.queue.length = 223 <;> simp [placeRecord, Hall.post, Hall.now, full, room, high]
    · simp [placeRecord, unitemise, full, room]

end Sys2Proof.Machine
end

