-- ==== Sys2Proof/Laws/PerInstr.lean ====
section
/-! SUPPORT. Statements made for every command as syntax, one lemma for each constructor. -/

namespace Sys2Proof.Laws.WellFormedTag

/-- A well-formed command carries a tag of 1 to 4 digits, or none at all (R157). -/
def Statement (i : Instr) : Prop := i.wellFormed = true → i.tag?.all tagForm = true

theorem of_wellFormed (i : Instr) : Statement i := fun h => (Bool.and_eq_true_iff.mp h).1

theorem setChannel (tag : Tag) (a : SetChannelArgs) : Statement (.setChannel tag a) := of_wellFormed _
theorem setBooth (tag : Tag) (a : SetBoothArgs) : Statement (.setBooth tag a) := of_wellFormed _
theorem setConsole (tag : Tag) (addr : Arg Nat) (booth : Arg (Option Nat)) : Statement (.setConsole tag addr booth) := of_wellFormed _
theorem setRelayList (tag : Tag) (booth : Arg Nat) (list : Arg (List Nat)) : Statement (.setRelayList tag booth list) := of_wellFormed _
theorem setTariff (tag : Tag) (a : SetTariffArgs) : Statement (.setTariff tag a) := of_wellFormed _
theorem setTariffReading (tag : Tag) (tar : Arg Nat) : Statement (.setTariffReading tag tar) := of_wellFormed _
theorem setFleet (tag : Tag) (a : SetFleetArgs) : Statement (.setFleet tag a) := of_wellFormed _
theorem setCentre (tag : Tag) (centre : Arg Nat) (label : Arg Text) : Statement (.setCentre tag centre label) := of_wellFormed _
theorem setHall (tag : Tag) (a : SetHallArgs) : Statement (.setHall tag a) := of_wellFormed _
theorem setMeter (tag : Tag) (a : SetMeterArgs) : Statement (.setMeter tag a) := of_wellFormed _
theorem setClock (tag : Tag) (min : Arg Nat) : Statement (.setClock tag min) := of_wellFormed _
theorem openDay (tag : Tag) (day : Arg Nat) : Statement (.openDay tag day) := of_wellFormed _
theorem closeDay (tag : Tag) : Statement (.closeDay tag) := of_wellFormed _
theorem openSession (tag : Tag) (centre : Arg Nat) : Statement (.openSession tag centre) := of_wellFormed _
theorem suspendSession (tag : Tag) : Statement (.suspendSession tag) := of_wellFormed _
theorem resumeSession (tag : Tag) : Statement (.resumeSession tag) := of_wellFormed _
theorem endSession (tag : Tag) : Statement (.endSession tag) := of_wellFormed _
theorem declareLost (tag : Tag) (ser : Arg Nat) : Statement (.declareLost tag ser) := of_wellFormed _
theorem markFaulty (tag : Tag) (ser : Arg Nat) : Statement (.markFaulty tag ser) := of_wellFormed _
theorem markRepaired (tag : Tag) (ser : Arg Nat) : Statement (.markRepaired tag ser) := of_wellFormed _
theorem removeReceiver (tag : Tag) (ser : Arg Nat) : Statement (.removeReceiver tag ser) := of_wellFormed _
theorem clearDebt (tag : Tag) (badge : Arg Nat) : Statement (.clearDebt tag badge) := of_wellFormed _
theorem readmitConsole (tag : Tag) (addr : Arg Nat) : Statement (.readmitConsole tag addr) := of_wellFormed _
theorem forceRelease (tag : Tag) (addr : Arg Nat) : Statement (.forceRelease tag addr) := of_wellFormed _
theorem restart (tag : Tag) : Statement (.restart tag) := of_wellFormed _
theorem restartHold (tag : Tag) (valued : Bool) : Statement (.restartHold tag valued) := of_wellFormed _
theorem readChannel (tag : Tag) (ch : Arg Nat) : Statement (.readChannel tag ch) := of_wellFormed _
theorem readBooth (tag : Tag) (booth : Arg Nat) : Statement (.readBooth tag booth) := of_wellFormed _
theorem readConsole (tag : Tag) (addr : Arg Nat) : Statement (.readConsole tag addr) := of_wellFormed _
theorem readCarriers (tag : Tag) (car : Arg Nat) : Statement (.readCarriers tag car) := of_wellFormed _
theorem readEmitters (tag : Tag) : Statement (.readEmitters tag) := of_wellFormed _
theorem readReceiver (tag : Tag) (ser : Arg Nat) (win : Arg Nat) : Statement (.readReceiver tag ser win) := of_wellFormed _
theorem readHire (tag : Tag) (hire : Arg Nat) : Statement (.readHire tag hire) := of_wellFormed _
theorem readBadge (tag : Tag) (badge : Arg Nat) : Statement (.readBadge tag badge) := of_wellFormed _
theorem readCentres (tag : Tag) : Statement (.readCentres tag) := of_wellFormed _
theorem readDay (tag : Tag) (ch : Arg Nat) (booth : Arg Nat) (cons : Arg Nat) : Statement (.readDay tag ch booth cons) := of_wellFormed _
theorem readSessions (tag : Tag) (idx : Arg Nat) : Statement (.readSessions tag idx) := of_wellFormed _
theorem readMeter (tag : Tag) (met : Arg Nat) : Statement (.readMeter tag met) := of_wellFormed _
theorem readStatus (tag : Tag) : Statement (.readStatus tag) := of_wellFormed _
theorem readFaults (tag : Tag) : Statement (.readFaults tag) := of_wellFormed _
theorem readStart (tag : Tag) : Statement (.readStart tag) := of_wellFormed _
theorem fetchNotices (tag : Tag) : Statement (.fetchNotices tag) := of_wellFormed _
theorem ackCondition (tag : Tag) (name : Arg ConditionName) (addr : Arg Nat) : Statement (.ackCondition tag name addr) := of_wellFormed _
theorem clearFaults (tag : Tag) : Statement (.clearFaults tag) := of_wellFormed _
theorem peekSettlements (tag : Tag) (n : Arg Nat) : Statement (.peekSettlements tag n) := of_wellFormed _
theorem releaseSettlements (tag : Tag) (seq : Arg Nat) : Statement (.releaseSettlements tag seq) := of_wellFormed _
theorem clearMeter (tag : Tag) (met : Arg Nat) : Statement (.clearMeter tag met) := of_wellFormed _
theorem lineRefused (line : Text) : Statement (.lineRefused line) := of_wellFormed _
theorem lineDiscarded : Statement .lineDiscarded := of_wellFormed _
theorem issue (desk : DeskId) (tag : Tag) (ser badge : Serial) (tar : TariffId) (ch : ChannelId) (bat : Nat) : Statement (.issue desk tag ser badge tar ch bat) := of_wellFormed _
theorem language (desk : DeskId) (tag : Tag) (ser : Serial) (ch : ChannelId) : Statement (.language desk tag ser ch) := of_wellFormed _
theorem returnRcv (desk : DeskId) (tag : Tag) (ser : Serial) (cond : ReturnCond) (bat : Nat) : Statement (.returnRcv desk tag ser cond bat) := of_wellFormed _
theorem query (desk : DeskId) (tag : Tag) (ser : Serial) : Statement (.query desk tag ser) := of_wellFormed _
theorem deskLineRefused (desk : DeskId) (line : Text) : Statement (.deskLineRefused desk line) := of_wellFormed _
theorem deskLineDiscarded (desk : DeskId) : Statement (.deskLineDiscarded desk) := of_wellFormed _
theorem pollAnswer (addr : Nat) (check : Bool) (keys : Keys) : Statement (.pollAnswer addr check keys) := of_wellFormed _
theorem answerWindowClose : Statement .answerWindowClose := of_wellFormed _
theorem probeAnswer (addr : Nat) (check : Bool) (keys : Keys) : Statement (.probeAnswer addr check keys) := of_wellFormed _
theorem probeTimerExpiry (con : ConsoleId) : Statement (.probeTimerExpiry con) := of_wellFormed _
theorem goodRunExpiry (con : ConsoleId) : Statement (.goodRunExpiry con) := of_wellFormed _
theorem engagedFlashExpiry (con : ConsoleId) : Statement (.engagedFlashExpiry con) := of_wellFormed _
theorem handoverTimerExpiry (con : ConsoleId) : Statement (.handoverTimerExpiry con) := of_wellFormed _
theorem shiftReminder (con : ConsoleId) : Statement (.shiftReminder con) := of_wellFormed _
theorem holdExpiry (car : CarrierId) : Statement (.holdExpiry car) := of_wellFormed _
theorem directorySend : Statement .directorySend := of_wellFormed _
theorem emitterAnswer (slot : Nat) (report : EmitterReport) : Statement (.emitterAnswer slot report) := of_wellFormed _
theorem dueMinuteExpiry (hire : Nat) : Statement (.dueMinuteExpiry hire) := of_wellFormed _
theorem windowClose (met : MeterId) : Statement (.windowClose met) := of_wellFormed _
theorem hallMinuteRise : Statement .hallMinuteRise := of_wellFormed _
theorem writeCompletion (notTaken : AreaSet) : Statement (.writeCompletion notTaken) := of_wellFormed _
theorem areaRewrite (area : Area) : Statement (.areaRewrite area) := of_wellFormed _
theorem pfwnAssertion : Statement .pfwnAssertion := of_wellFormed _
theorem pfwnRelease : Statement .pfwnRelease := of_wellFormed _
theorem resetnAssertion : Statement .resetnAssertion := of_wellFormed _
theorem startUp (cause : StartCause) (damaged : AreaSet) : Statement (.startUp cause damaged) := of_wellFormed _

end Sys2Proof.Laws.WellFormedTag
end

