-- ==== Sys2Proof/Tests/Slice0.lean ====
section
/-! SUPPORT. Our own tests: the forms the line rules refuse, worked cases of the spec, one step at a time, and for every
statement with hypotheses a state and operands that meet them. The tests are checked one after another: checked side by
side, each holds a thread of its own while it waits, and together they fill the memory of the check. -/

namespace Sys2Proof.Tests

set_option Elab.async false

open Sys2Proof.Machine

/-- The state a command leaves. -/
def after (i : Instr) (s : State) : State :=
  match exec i s with
  | .next t => t
  | _ => s

/-! ### WellFormed -/

theorem test_form_accepts : (Instr.setCentre ['1'] (.val 3) (.val ['A', ' ', 'b'])).wellFormed = true := by decide
theorem test_form_refuses_empty_tag : (Instr.readStatus []).wellFormed = false := by decide
theorem test_form_refuses_long_tag : (Instr.readStatus ['1', '2', '3', '4', '5']).wellFormed = false := by decide
theorem test_form_refuses_letter_tag : (Instr.readStatus ['x']).wellFormed = false := by decide
theorem test_form_refuses_quote_in_text :
    (Instr.setCentre ['1'] (.val 3) (.val ['a', '"'])).wellFormed = false := by decide
theorem test_form_refuses_decimal_place :
    (Instr.setHall ['1'] ⟨.absent, .val ⟨8, [10]⟩, .absent, .absent, .absent, .absent⟩).wellFormed = false := by decide
theorem test_form_refuses_cr_in_line : (Instr.lineRefused ['1', '\r']).wellFormed = false := by decide
theorem test_form_refuses_cr_in_desk_line : (Instr.deskLineRefused 0 ['\r']).wellFormed = false := by decide

/-! ### Small states -/

/-- The machine after its first start-up's write has completed, but for that write. -/
def on : State := { State.reset with listening := true }

/-- The same with other blocks. -/
def withHall (h : Hall) : State := { on with hall := h }

/-- The same with a store that holds nothing and makes no write. -/
def idleStore (h : Hall) : State :=
  { withHall h with store := ⟨⟨none, none, none, none⟩, none, [], .none, ⟨none, none, none, none⟩⟩ }

/-- An OPEN day 5 at minute 540, the clock set. -/
def dayHall : Hall :=
  { Hall.reset with
    account := { Hall.reset.account with day := ⟨true, 5, 0, 0, 0, 1⟩ }
    clock := ⟨540, false, 0, 0⟩ }

/-- Tariff class 2 of the worked cases of section 7.8. -/
def class2 : Tariff := ⟨true, 200, 60, 150, 10, 1500, 0, 0, 5000, true⟩

/-- Settings with channels 7 and 8, booth 3 on channel 7, console 12 in booth 3, tariff class 2, and window 1. -/
def shopSettings : Settings :=
  let s := Settings.default
  { s with
    channels := vset (vset s.channels 7 ⟨true, ['D', 'E', 'U'], [], false, false⟩) 8 ⟨true, ['F', 'R', 'A'], [], true, false⟩
    booths := vset s.booths 2 ⟨true, some 7, none, .handover, 100, 30, 5, []⟩
    consoleBooth := vset (vset s.consoleBooth 11 (some 2)) 12 (some 2)
    tariffs := vset s.tariffs 1 class2
    windows := vset s.windows 0 ⟨true, 131072, 4294901760, [], 6500, 2⟩ }

/-- A receiver of window 1. -/
def rcv (n : Nat) (v : ReceiverState) : Receiver := ⟨BitVec.ofNat 32 n, 0, v, 0, none⟩

/-- Open hire 1: receiver 131501, badge 77, desk 1, class 2, channel 7, due at minute 600, 12 unserved minutes. -/
def hire1 : Hire := ⟨1, 131501, 77, 0, 1, 540, some 600, 7, 0, 12, 5000, false, false⟩

/-- A hall that lends: receivers in STOCK, ISSUED, LOST and FAULTY, one open hire, and a badge in debt. -/
def shop : Hall :=
  { dayHall with
    settings := shopSettings
    fleet := ⟨[rcv 131500 .stock, rcv 131501 (.issued 1), rcv 131502 .lost, rcv 131503 .faulty], [hire1],
      [⟨77, [1], 0⟩, ⟨91, [], 30⟩]⟩
    channels := vmod (vset dayHall.channels 8 ⟨.fill, none, 0, 0, none, none, none⟩) 7
      fun r => { r with service := .silent, demand := 1 } }

/-- No key pressed. -/
def keys0 : Keys := ⟨false, false, false, false, false, false⟩

/-- TALK alone pressed. -/
def talkKey : Keys := { keys0 with talk := true }

/-- `shop` with console 12 in a state, its keys accepted and a candidate standing. -/
def speak (v : ConsoleState) (old k : Keys) (h : Hall) : Hall :=
  { h with
    consoles := vset h.consoles 11 { ConsoleRun.blank with state := v, accepted := some old, candidate := some k }
    bus := ⟨some ⟨.poll, 11, LampSet.allOff, false⟩, some 11⟩ }

/-- `h` with console 12 LIVE on channel 7 in booth 3. -/
def speaking (h : Hall) : Hall :=
  { h with
    channels := vmod h.channels 7 fun r => { r with service := .live, feeder := some 11 }
    booths := vmod h.booths 2 fun r => { r with owner := some 11 }
    consoles := vmod h.consoles 11 fun r => { r with state := .live, contStart := some 500, nextShift := some 530 } }

/-- `h` with console 13 REQUESTING in the queue of booth 3, its handover timer running. -/
def queued (h : Hall) : Hall :=
  { h with
    booths := vmod h.booths 2 fun r => { r with owner := some 11, queue := [12] }
    consoles := vset h.consoles 12 { ConsoleRun.blank with state := .requesting, handoverExpiry := some 3 } }

/-- `h` with its timebase at tenth 100. -/
def late (h : Hall) : Hall := { h with clock := { h.clock with ticks := 200 } }

/-- Console 12 LIVE on channel 7 with `k` standing as candidate, console 13 in the queue behind it with output `o` (A names
channel 7, B channel 8), console 21 of booth 5 waiting on channel 7's list. -/
def crowded (v : ConsoleState) (k : Keys) (o : Output) : Hall :=
  let h := queued (speaking (speak v keys0 k shop))
  { h with
    settings := { h.settings with booths := vmod h.settings.booths 2 fun r => { r with outB := some 8, relayList := [9, 10] } }
    consoles := vmod (vmod h.consoles 11 fun r => { r with state := v }) 12 fun r => { r with output := o }
    waitLists := vset h.waitLists 7 [⟨20, 4⟩] }

/-- Console 12 REQUESTING as booth 3's owner on channel 7's list, with `k` standing as candidate, console 13 behind it. -/
def waiting (k : Keys) : Hall :=
  let h := queued (speak .requesting keys0 k shop)
  { h with
    channels := vmod h.channels 7 fun r => { r with feeder := some 40 }
    consoles := vmod h.consoles 11 fun r => { r with handoverExpiry := some 5 }
    waitLists := vset h.waitLists 7 [⟨11, 2⟩, ⟨20, 4⟩] }

/-- The same booth in OVERRIDE mode with an empty queue, its owner in the state it has, and console 13 IDLE with output
`o`. -/
def contested (h : Hall) (o : Output) : Hall :=
  { h with
    settings := { h.settings with booths := vmod h.settings.booths 2 fun r => { r with mode := .override, outB := some 8 } }
    booths := vmod h.booths 2 fun r => { r with queue := [] }
    consoles := vset h.consoles 12 { ConsoleRun.blank with
      state := .idle, output := o, accepted := some keys0, candidate := some talkKey }
    bus := ⟨some ⟨.poll, 12, LampSet.allOff, false⟩, some 12⟩ }

/-- `shop` with carrier 1 as `r`, the others 2 to 15 as `v`, and channels waiting. -/
def air (r v : Carrier) (w : List ChannelId) : Hall :=
  { shop with air := { shop.air with
      carriers := vtab fun k => if k = 0 then .onAir 0 0 else if k = 1 then r else v
      waiting := w } }

/-- A probe of console 12 in FAULT is in progress. -/
def probing (good : Nat) : Hall :=
  { shop with
    consoles := vset shop.consoles 11 { ConsoleRun.blank with state := .fault, good := good }
    bus := ⟨some ⟨.probe, 11, LampSet.allOff, false⟩, none⟩ }

/-! ### Worked cases of the spec -/

/-- Case 1 of section 7.8: the stages. -/
theorem test_case1_figures : figures class2 540 797 12 5000 false = ⟨257, 12, 235, 4, 800, 800, 4200, 0⟩ := by decide

/-- Case 1: the shares over sessions of centres 3 and 5. -/
theorem test_case1_shares :
    apportion [⟨1, 3, 530, some 630⟩, ⟨2, 5, 645, some 780⟩] 540 797 800 = [(0, 99), (3, 280), (5, 421)] := by
  decide +kernel

/-- Case 2: the cap of three started days. -/
theorem test_case2_charge : (figures class2 200 3200 0 5000 false).charge = 4500 := by decide

/-- Case 3: a hire of no minutes is its interval's centre's. -/
theorem test_case3_shares : apportion [⟨3, 7, 690, none⟩] 700 700 200 = [(7, 200)] := by decide +kernel

/-- Case 4: the remainder of equal counts goes to the lowest-numbered centre. -/
theorem test_case4_shares :
    apportion [⟨1, 2, 600, some 630⟩, ⟨2, 4, 631, none⟩] 629 632 100 = [(0, 34), (2, 33), (4, 33)] := by decide +kernel

/-- Section 10.8, minutes 645 and 650: a third SHIFT_DUE of one console replaces the second. -/
theorem test_shift_due_coalesces :
    let due (m v : Nat) : Notice := ⟨.booth, .shiftDue, 13, m, v, false⟩
    deliver (deliver [due 640 30] (due 645 35)) (due 650 40) = [due 640 30, ⟨.booth, .shiftDue, 13, 650, 40, true⟩] := by
  decide

/-- Section 4.8: a fourth edge is refused with DEPTH, a way back with LOOP. -/
theorem test_relay_graph :
    let none_ : BoothSettings := BoothSettings.default
    let g : Vector BoothSettings 16 := vset (vset (vset (vset (Vector.replicate 16 none_) 0 { none_ with outA := some 2 })
      2 { none_ with outA := some 5, outB := some 6, relayList := [2] }) 5 { none_ with outA := some 10, relayList := [5] })
      9 { none_ with outA := some 15, relayList := [10] }
    relayCheck g = none ∧ relayCheck (vset g 11 { none_ with relayList := [15] }) = some .depth ∧
      relayCheck (vset g 0 { none_ with outA := some 2, relayList := [10] }) = some .loop := by decide +kernel

/-- A start-up of a store without content leaves the state after reset (R174). -/
theorem test_first_start_up : after (.startUp .powerUp .all) State.reset = State.reset := by decide +kernel

/-- The example of section 2.5, polls 1 and 2: a key is accepted on its second good answer. -/
theorem test_debounce :
    let s := withHall { speak .idle keys0 talkKey shop with
      consoles := vset shop.consoles 11 { ConsoleRun.blank with state := .idle, accepted := some keys0 } }
    (after (.pollAnswer 12 true talkKey) s).hall.consoles[(11 : ConsoleId)].candidate = some talkKey ∧
      (after (.pollAnswer 12 true talkKey) (withHall (speak .idle keys0 talkKey shop))).hall.consoles[(11 : ConsoleId)].state
        = .live := by decide +kernel

/-- RETURN of the hire of case 1 answers its charge and refund, under its own tag, without N and A. -/
theorem test_return_answer :
    let s := withHall { shop with clock := ⟨797, false, 0, 0⟩, account := { shop.account with
      session := .suspended 2 5, lastSession := 2, log := [⟨1, 3, 530, some 630⟩, ⟨2, 5, 645, some 780⟩] } }
    let t := after (.returnRcv 0 ['7'] 131501 .ok 80) s
    (t.store.writes.map fun w => w.waiters) = [[.desk 0 ['7'] (.ok (.returned ⟨800, 4200, 0, 1, false⟩) [])]] ∧
      (t.hall.account.queue.map fun r => r.shares) = [[(0, 99), (3, 280), (5, 421)]] := by decide +kernel

/-- R142: the record of a close is placed at its end, so QUEUE_HIGH stands behind the meter event's notice. -/
theorem test_queue_high_is_last :
    let r : Settlement := foundRecord shop 0 1
    let set : MeterSettings := ⟨true, .returned, .any, 5, 0, false, false, 1, false⟩
    let h := { shop with
      account := { shop.account with queue := List.replicate 223 r, seq := 223 }
      settings := { shop.settings with meters := vset shop.settings.meters 0 set } }
    ((after (.returnRcv 0 ['7'] 131501 .ok 80) (withHall h)).notice.queue.map fun n => (n.kind, n.value)) =
        [(.meterPreset, 1), (.queueHigh, 224)] ∧
      ((after (.returnRcv 0 ['7'] 131502 .ok 80) (withHall h)).notice.queue.map fun n => (n.kind, n.subject)) =
        [(.meterPreset, 1), (.queueHigh, 224)] := by decide +kernel

/-- An order is answered with its tag, its code, N and A (R160). -/
theorem test_answer_line :
    ((after (.readChannel ['4', '2'] (.val 32)) on).out.map fun a => a.result) = [.er .range] := by decide +kernel

/-! ### The hypotheses of the statements are met -/

theorem test_on_ready : on.ready := ⟨⟨rfl, rfl, rfl⟩, rfl, rfl⟩
theorem test_on_ready_desk (d : DeskId) : d = 0 → on.readyAt d := by rintro rfl; exact ⟨⟨rfl, rfl, rfl⟩, rfl, rfl⟩
theorem test_ready (h : Hall) (e : h.work = EventWork.empty) : (withHall h).ready := ⟨⟨rfl, rfl, rfl⟩, rfl, e⟩
theorem test_shop_ready : (withHall shop).ready ∧ (withHall shop).readyAt 0 :=
  ⟨⟨⟨rfl, rfl, rfl⟩, rfl, rfl⟩, ⟨rfl, rfl, rfl⟩, rfl, rfl⟩

/-- StepRunsFront, TimePasses. -/
theorem test_meets_queue : { on with pending := [.readStatus ['1'], .directorySend] }.pending =
    .readStatus ['1'] :: [.directorySend] ∧ on.pending = [] ∧ on.resetn = false := ⟨rfl, rfl, rfl⟩

/-- StepKeepsSound, AttnOutput: `shop`'s state is sound, and its next step is taken. -/
theorem test_meets_sound :
    let s : State := { withHall shop with pending := [.readStatus ['1']] }
    s.sound ∧ ∃ t, step s = .next t :=
  ⟨⟨⟨by decide, by decide⟩, by unfold State.attnAgrees; decide +kernel, rfl⟩, _, rfl⟩

/-- StepKeepsTablesOrdered. -/
theorem test_meets_ordered : (idleStore shop).tablesOrdered ∧ ∃ t, step (idleStore shop) = .next t := by
  refine ⟨⟨⟨by decide +kernel, by decide +kernel, by decide +kernel⟩, ?_, ?_⟩, _, rfl⟩
  · intro f e; cases e
  · intro c f e; cases e

/-- StepKeepsAccountsLawful, ChargeSettledAndShared: a log of one closed and one open interval. -/
def lawful : Account :=
  { dayHall.account with
    session := .running 2 5
    lastSession := 2
    log := [⟨1, 3, 500, some 520⟩, ⟨2, 5, 530, none⟩] }

theorem test_meets_log : logOrdered lawful.log ∧ 510 ≤ 540 := by
  refine ⟨⟨?_, ?_⟩, by decide⟩
  · simp [lawful]
  · simp [lawful]

theorem test_meets_accounts :
    let s := idleStore { dayHall with account := lawful }
    s.accountsLawful ∧ ∃ t, step s = .next t := by
  refine ⟨⟨⟨by decide, by decide, by decide, by decide, test_meets_log.1, by decide, by decide, ?_, ?_⟩, ?_, ?_, ?_⟩, _,
    rfl⟩
  · simp [lawful, idleStore, withHall]
  · simp [lawful, idleStore, withHall]
  · simp [lawful, idleStore, withHall, dayHall, Hall.now]
  · intro a e; cases e
  · intro c a e; cases e

/-- A hall whose carriers are lawful: carrier 1 ON_AIR for channel 7, carrier 2 HOLDING for channel 8, channel 9 waiting. -/
theorem test_meets_air :
    let h := { air (.onAir 7 500) .free [9] with
      air := { shop.air with
        carriers := vset (vset shop.air.carriers 1 (.onAir 7 500)) 2 (.holding 8 500 40)
        waiting := [9, 10] } }
    h.AirLawful ∧ ∃ t, step (withHall h) = .next t :=
  ⟨⟨⟨_, rfl⟩, by decide +kernel, by decide +kernel, by decide +kernel⟩, _, rfl⟩

/-- StepKeepsCarriersLawful, CarrierOffers, CarrierReports, DisableChannel: the carriers of `shop` are lawful. -/
theorem test_meets_shop_air : shop.AirLawful := ⟨⟨_, rfl⟩, by decide +kernel, by decide +kernel, by decide +kernel⟩

/-- StepKeepsFleetLawful, StartUp: the fleet of `shop` is lawful, a hire out, a badge in debt. -/
theorem test_meets_shop_fleet : shop.fleet.Lawful := by
  refine ⟨⟨by decide +kernel, by decide +kernel, by decide +kernel⟩, by decide +kernel, by decide +kernel, ?_, ?_,
    by decide +kernel⟩
  · simp [shop, rcv, ReceiverState.hire?, hire1]
  · intro b hb
    have : b = ⟨77, [1], 0⟩ ∨ b = ⟨91, [], 30⟩ := by simpa [shop] using hb
    rcases this with rfl | rfl <;> refine ⟨by decide, by decide, fun n => ?_⟩ <;> simp [shop, hire1, eq_comm]

theorem test_meets_fleet : (idleStore shop).fleetLawful ∧ ∃ t, step (idleStore shop) = .next t := by
  refine ⟨⟨test_meets_shop_fleet, by decide +kernel, ?_, ?_⟩, _, rfl⟩
  · intro f e; cases e
  · intro c f e; cases e

/-- ConditionsFollowCauses: STORE_FAULT and CLOCK_STALE stand raised with their causes, and a command is no exception. -/
theorem test_meets_conditions : on.conditionsMet ∧ (∃ t, step on = .next t) ∧ (∃ t, exec .directorySend on = .next t) ∧
    on.notice.conds.get .clockStale 0 ≠ .clear := by
  refine ⟨?_, ⟨_, rfl⟩, ⟨_, rfl⟩, by decide⟩
  intro name a
  cases name <;> simp only [State.cause] <;> revert a <;> decide +kernel

/-- ChangesWrittenThrough: a command that changes the account, and is no start-up. -/
theorem test_meets_change : (∃ t, exec (.openDay ['1'] (.val 5)) on = .next t) ∧
    (after (.openDay ['1'] (.val 5)) on).hall.account.day ≠ on.hall.account.day := ⟨⟨_, rfl⟩, by decide +kernel⟩

/-- CommandsNotTaken, each clause. -/
theorem test_meets_lines : { on with resetn := true }.resetn = true ∧ (Instr.readStatus ['1']).isInput = false ∧
    (Instr.readStatus ['1']).isOrder = true ∧ { on with port := ⟨true, false, []⟩ }.port.busy = true ∧
    (Instr.query 0 ['1'] 3).desk? = some 0 ∧
    { on with desks := vset on.desks 0 ⟨true, false, []⟩ }.desks[(0 : DeskId)].busy = true ∧
    (Instr.readStatus ['1']).tag?.isSome = true ∧ State.reset.listening = false := by decide +kernel

/-- The answer to a line of the control port, and of desk 1, where one is sent. -/
def reply (i : Instr) (checksum : Bool) : Option (Tag × Result) :=
  let h := { shop with settings := { shop.settings with hall := { shop.settings.hall with checksum := checksum } } }
  ((after i (withHall h)).out.map fun a => (a.tag, a.result)).head?

/-- RefusedLines: the lines of each test of R158, at its boundaries; a passing line is the command of its own row. -/
theorem test_meets_refused_lines :
    let line (t : String) : Option (Tag × Result) := reply (.lineRefused t.toList) false
    let er (tag : String) (c : AnswerCode) : Option (Tag × Result) := some (tag.toList, .er c)
    let long (n : Nat) : Text := "1 SET CENTRE CENTRE=1 LABEL=".toList ++ List.replicate n 'x'
    on.takesOrders ∧ line "READ STATUS" = er "0" .syntaxError ∧ line "12345 READ STATUS" = er "0" .syntaxError ∧
      reply (.lineRefused (long 93)) false = er "1" .syntaxError ∧ reply (.lineRefused (long 92)) false = none ∧
      line "12 READ STATUS*1" = er "12" .syntaxError ∧ line "12 SET CENTRE LABEL=\"a" = er "12" .syntaxError ∧
      line "12 READ2 STATUS" = er "12" .syntaxError ∧ line "12 READ STATUS*00" = er "12" .check ∧
      reply (.lineRefused "12 READ STATUS".toList) true = er "12" .check ∧ line "12 SING" = er "12" .unknown ∧
      line "12 READ CHANNEL ADDR=1" = er "12" .syntaxError ∧ line "12 READ CHANNEL CH=1 CH=2" = er "12" .syntaxError ∧
      line "12 READ STATUS" = none ∧ line "12 SET CENTRE CENTRE=1 LABEL=" = none ∧ line "\n" = none :=
  ⟨⟨rfl, rfl, rfl⟩, by decide +kernel⟩

/-- RefusedLines: a name alone, of an argument taken so and not, ahead of the checksum (R157, R158); an unknown verb. -/
theorem test_name_alone :
    let line (t : String) : Option (Tag × Result) := reply (.lineRefused t.toList) false
    let er (tag : String) (c : AnswerCode) : Option (Tag × Result) := some (tag.toList, .er c)
    line "12 READ CHANNEL CH" = er "12" .syntaxError ∧ line "12 READ CHANNEL CH*00" = er "12" .syntaxError ∧
      line "12 RESTART HOLD*00" = er "12" .check ∧ line "12 SET CHANNEL CH=8 FORCE" = none ∧
      line "12 A B C" = er "12" .unknown ∧ line "12 A B C D" = er "12" .syntaxError ∧
      reply (.deskLineRefused 0 "7 QUERY SER*00".toList) false = er "7" .syntaxError := by decide +kernel

/-- RefusedLines of a desk link: the verb, a value missing or malformed, a number out of its range, and a line that passes. -/
theorem test_meets_refused_desk_lines :
    let line (t : String) : Option (Tag × Result) := reply (.deskLineRefused 0 t.toList) false
    let er (tag : String) (c : AnswerCode) : Option (Tag × Result) := some (tag.toList, .er c)
    on.takesRequests 0 ∧ line "7 READ STATUS" = er "7" .unknown ∧ line "7 QUERY" = er "7" .syntaxError ∧
      line "7 RETURN SER=1 COND=BAD BAT=3" = er "7" .syntaxError ∧ line "7 LANGUAGE SER=1" = er "7" .syntaxError ∧
      line "7 ISSUE SER=1 BADGE=2 TAR=0 CH=3 BAT=4" = er "7" .range ∧
      line "7 ISSUE SER=1 BADGE=2 TAR=9 CH=3 BAT=4" = er "7" .range ∧ line "7 LANGUAGE SER=1 CH=32" = er "7" .range ∧
      line "7 QUERY SER=4294967296" = er "7" .range ∧ line "7 QUERY SER=4294967295" = none :=
  ⟨⟨rfl, rfl, rfl⟩, by decide +kernel⟩

/-- RefusedChangesNothing. -/
theorem test_meets_refusal : (Instr.readChannel ['1'] (.val 32)).tag?.isSome = true ∧
    ∃ t, exec (.readChannel ['1'] (.val 32)) on = .next t ∧ ∃ a ∈ t.out, a.result = .er .range :=
  ⟨rfl, _, rfl, _, List.mem_singleton.2 rfl, rfl⟩

/-- PowerFailRefuses. -/
theorem test_meets_power_fail :
    let s : State := { withHall shop with pfw := true }
    s.pfw = true ∧ (Instr.closeDay ['1']).refusedByPfw = true ∧ (Instr.closeDay ['1']).desk? = none ∧ s.takesOrders ∧
      s.takesRequests 0 ∧ (Instr.language 0 ['1'] 131501 8).refusedByPfw = true ∧ s.hall.dayOpen = true :=
  ⟨rfl, rfl, rfl, ⟨rfl, rfl, rfl⟩, ⟨rfl, rfl, rfl⟩, rfl, rfl⟩

/-- ReadingsByKeyAndRange: the first number out of each range. -/
theorem test_meets_ranges : on.takesOrders ∧ 31 < 32 ∧ 16 < 17 ∧ 48 < 49 ∧ 15 < 16 ∧ 8 < 9 ∧ maxCount < 4294967296 ∧
    65535 < 65536 ∧ 64 < 65 := ⟨⟨rfl, rfl, rfl⟩, by decide⟩

/-- ReadingsByKeyAndRange: two arguments, in range, out of it and malformed (log entry 10). -/
theorem test_meets_two_arguments : (Arg.val 1 ≠ .absent ∧ Arg.val 49 ≠ .absent ∧ (Arg.bad : Arg Nat) ≠ .absent) ∧
    reply (.readDay ['1'] (.val 1) .absent (.val 49)) false = some (['1'], .er .syntaxError) ∧
    reply (.readReceiver ['1'] .bad (.val 1)) false = some (['1'], .er .syntaxError) := by decide +kernel

/-- The SET orders' operands: numbers in range, well formed. -/
theorem test_meets_set :
    (SetTariffArgs.malformed ⟨.val 2, .absent, .val 300, .val 60, .absent, .absent, .absent, .absent, .absent, .absent,
      .absent⟩) = false ∧
    (SetTariffArgs.isReading ⟨.val 2, .absent, .val 300, .val 60, .absent, .absent, .absent, .absent, .absent, .absent,
      .absent⟩) = false ∧
    (SetFleetArgs.malformed ⟨.val 1, .val true, .val 0, .absent, .absent, .absent, .absent⟩) = false ∧
    (SetHallArgs.malformed ⟨.val 7, .absent, .absent, .absent, .absent, .absent⟩) = false ∧
    (SetMeterArgs.malformed ⟨.val 6, .val true, .val .carrierWait, .val .any, .val 10, .val 3, .absent, .absent, .val 2,
      .absent⟩) = false ∧ (qualifierOf .any).isSome = true ∧
    (SetBoothArgs.malformed ⟨.val 3, .val true, .val (some 7), .val none, .absent, .absent, .absent, .absent⟩) = false ∧
    (outputChannel (some 7)).isSome = true ∧ (outputChannel none).isSome = true := by decide +kernel

/-- The SET and the other orders' RANGE and SYNTAX tests, at the boundaries of their ranges; two where both would do. -/
theorem test_meets_out_of_range :
    let code (i : Instr) : Option Result := (reply i false).map fun x => x.2
    let booth (b : Arg Nat) (o : Arg (Option Nat)) (hto : Arg Decimal) : Instr :=
      .setBooth ['1'] ⟨b, .absent, o, .absent, .absent, hto, .absent, .absent⟩
    let meter (m : Arg Nat) (q : Arg QualWord) : Instr :=
      .setMeter ['1'] ⟨m, .absent, .absent, q, .absent, .absent, .absent, .absent, .absent, .absent⟩
    let fleet (w base : Arg Nat) : Instr := .setFleet ['1'] ⟨w, .absent, base, .absent, .absent, .absent, .absent⟩
    let range : Option Result := some (.er .range)
    let wrong : Option Result := some (.er .syntaxError)
    code (booth (.val 17) .absent .absent) = range ∧ code (booth .absent .absent .absent) = range ∧
      code (booth .bad (.val (some 32)) .absent) = range ∧ code (booth .bad .absent .absent) = wrong ∧
      code (booth (.val 16) .absent (.val ⟨2, [0, 0]⟩)) = wrong ∧ code (meter (.val 9) .absent) = range ∧
      code (meter .bad (.val (.desk 5))) = range ∧ code (meter .bad .absent) = wrong ∧
      code (fleet (.val 0) .absent) = range ∧ code (fleet (.val 8) (.val 4294967296)) = wrong ∧
      code (.setConsole ['1'] (.val 49) .bad) = range ∧ code (.setConsole ['1'] (.val 48) .bad) = wrong ∧
      code (.setRelayList ['1'] (.val 3) (.val [7, 32])) = range ∧ code (.setRelayList ['1'] (.val 3) .absent) = wrong ∧
      code (.setClock ['1'] (.val 4294967296)) = wrong ∧ code (.openDay ['1'] (.val 10000)) = range ∧
      code (.releaseSettlements ['1'] .bad) = wrong ∧ code (.declareLost ['1'] (.val 4294967296)) = range ∧
      code (.clearDebt ['1'] .absent) = range := by decide +kernel

/-- A SET TARIFF beyond its ranges marks what it took, one at its bounds marks nothing (R120, R160). -/
theorem test_clamped :
    let a : SetTariffArgs := ⟨.val 2, .absent, .absent, .val 0, .absent, .val 241, .absent, .val 10080, .absent, .absent, .absent⟩
    let h := { shop with account := { shop.account with day := ⟨false, 5, 0, 0, 0, 1⟩ } }
    (after (.setTariff ['1'] a) (withHall h)).store.writes.map (fun w => w.waiters) =
        [[.host ['1'] (.ok (.tariff { class2 with len := 1, grace := 240, limit := 10080 })
          [.units "LEN" 1, .units "GRACE" 240])]] ∧
      clamped "SHIFTR" 0 30 (.val 30) = [] ∧ clamped "SHIFTR" 0 30 (.val 31) = [.units "SHIFTR" 30] ∧
      clampedTenths "HTO" 20 600 (.val ⟨1, [9]⟩) = [.tenths "HTO" 20] ∧
      clampedTenths "HTO" 20 600 (.val ⟨60, []⟩) = [] := by decide +kernel

/-- RelayListAndGraph: a list without channel 0. -/
theorem test_meets_relay_list : ∀ c ∈ ([7, 8] : List ChannelId), c ≠ 0 := by decide

/-- SetChannelTests, SetChannel, DisableChannel: channel 8 relabelled, channel 7 disabled once no booth names it. -/
theorem test_meets_set_channel :
    let label : SetChannelArgs := ⟨.val 8, .absent, .absent, .val ['F', 'r'], .absent, .absent, .absent⟩
    let disable : SetChannelArgs := ⟨.val 8, .val false, .absent, .absent, .absent, .absent, .val ()⟩
    on.takesOrders ∧ 31 < 32 ∧ label.malformed = false ∧ firstFailing (channelTests false shop 8 label) = none ∧ disable.malformed = false ∧
      firstFailing (channelTests false shop 8 disable) = none ∧ shop.settings.channels[(8 : ChannelId)].enabled = true ∧
      shop.fleet.ordered ∧ shop.account.channels[(8 : ChannelId)].outage ≤ 4294967295 ∧
      shop.channels[(8 : ChannelId)].service = shop.serviceOf 8 := by
  refine ⟨⟨rfl, rfl, rfl⟩, by decide, by decide +kernel, by decide +kernel, by decide +kernel, by decide +kernel,
    by decide +kernel, test_meets_shop_fleet.ordered, by decide +kernel, by decide +kernel⟩

/-- OpenDay: a CLOSED day, a channel in FILL, a console LIVE, a booth in fallback; SetClock: a minute ahead. -/
theorem test_meets_open_day :
    let h := { speaking (speak .live keys0 talkKey shop) with
      account := { shop.account with day := ⟨false, 4, 0, 0, 0, 1⟩ }
      booths := vmod shop.booths 2 fun r => { r with owner := some 11, fallback := some 9 } }
    (withHall h).ready ∧ h.account.day.isOpen = false ∧ ¬(5 ≤ h.account.day.number ∧ h.account.day.number ≠ 9999) ∧
      h.channels[(8 : ChannelId)].service = .fill ∧ h.consoles[(11 : ConsoleId)].state.onChannel = true ∧
      h.booths[(2 : BoothId)].fallback ≠ none ∧ h.clock.minute < 600 ∧ 600 ≤ maxCount :=
  ⟨⟨⟨rfl, rfl, rfl⟩, rfl, rfl⟩, by decide +kernel⟩

/-- ChargeSettledAndShared: three centres of equal minutes, the lowest taking the remainder, and hires of no minutes within
an interval and outside every one. -/
theorem test_meets_shares :
    let m (k : CentreId) : Nat := centreMinutes lawful.log 510 540 k
    (m 0, m 3, m 5) = (10, 10, 10) ∧ (∀ j, m j ≤ m 0) ∧ apportion lawful.log 510 540 100 = [(0, 34), (3, 33), (5, 33)] ∧
      apportion lawful.log 510 540 0 = [(0, 0)] ∧ apportion lawful.log 530 530 100 = [(5, 100)] ∧
      apportion lawful.log 520 520 100 = [(0, 100)] := by decide +kernel

/-- ReleaseSettlements: a queue of which a part, nothing and all is removed, and a number above the counter. -/
theorem test_meets_release :
    let r := foundRecord shop 0 1
    let h := { shop with account := { shop.account with queue := [{ r with seq := 4 }, { r with seq := 5 }], seq := 5 } }
    (withHall h).takesOrders ∧ (withHall h).atRest ∧
      ([3, 4, 5].map fun n => (h.account.queue.filter fun x => x.seq ≤ n).length) = [0, 1, 2] ∧ h.account.seq < 6 ∧
      (h.account.queue.Pairwise fun x y => x.seq < y.seq) :=
  ⟨⟨rfl, rfl, rfl⟩, rfl, by decide +kernel⟩

/-- ChargeStages, ChargeSettledAndShared, IssueAccepted. -/
theorem test_meets_charge : 0 < class2.len ∧ 5000 ≤ 99999999 ∧ shop.fleet.hires.length ≤ 4096 := by decide

/-- IssueAccepted: a receiver in STOCK, and one of the fleet without a record; IssueRefused: a foreign one. -/
theorem test_meets_issue :
    shop.receiver 131500 = some (rcv 131500 .stock) ∧ shop.account.day.isOpen = true ∧
    shop.settings.hall.minBattery ≤ min 60 100 ∧ shop.settings.tariffs[(1 : TariffId)].defined = true ∧
    shop.settings.channels[(7 : ChannelId)].enabled = true ∧ shop.badge 78 = none ∧ shop.fleet.badges.length < 4096 ∧
    shop.receiver 131504 = none ∧ shop.windowOf 131504 = some 0 ∧ shop.receiver 5 = none ∧ shop.windowOf 5 = none := by
  decide +kernel

/-- LanguageMoves, ReturnCloses, DeclareLost: receiver 131501 is out on hire 1; ReturnFinds: 131502 is LOST. -/
theorem test_meets_return :
    shop.hireOf 131501 = some hire1 ∧ shop.receiver 131501 = some (rcv 131501 (.issued 1)) ∧ shop.hire 1 = some hire1 ∧
    hire1.serial = 131501 ∧ shop.receiver 131502 = some (rcv 131502 .lost) ∧
    shop.receiver 131503 = some (rcv 131503 .faulty) ∧ (List.replicate 4096 (rcv 1 .stock)).length = 4096 := by
  decide +kernel

/-- DueMinute: hire 1 at its due minute, and before it. -/
theorem test_meets_due :
    let h : Hall := { shop with clock := ⟨600, false, 0, 0⟩ }
    (withHall h).resetn = false ∧ (withHall h).atRest ∧ h.hire 1 = some hire1 ∧ 600 ≤ h.now ∧ shop.now < 600 :=
  ⟨rfl, rfl, by decide +kernel, by decide, by decide⟩

/-- PollDebounce, KeyPresses: a poll of console 12 with TALK standing as candidate, the console IDLE. -/
theorem test_meets_poll :
    let h := speak .idle keys0 talkKey shop
    (withHall h).exchanges .poll 11 ∧ h.consoles[(11 : ConsoleId)].state.polled = true ∧ talkKey.decodes = true ∧
      h.boothOf 11 = some 2 ∧ h.target 11 = some 7 ∧ h.booths[(2 : BoothId)].owner = none ∧
      h.channels[(7 : ChannelId)].feeder = none ∧ talkKey = { keys0 with talk := true } :=
  ⟨⟨rfl, rfl, _, rfl⟩, by decide +kernel⟩

/-- KeyPresses: the console LIVE on its channel with nobody waiting, and REQUESTING in the queue; an owner before it. -/
theorem test_meets_press :
    let live := speaking (speak .live keys0 talkKey shop)
    let wait := { queued (speak .requesting keys0 talkKey shop) with
      booths := vmod shop.booths 2 fun r => { r with owner := some 12, queue := [11] } }
    let other := { speak .idle keys0 talkKey shop with
      booths := vmod shop.booths 2 fun r => { r with owner := some 12 } }
    (withHall live).exchanges .poll 11 ∧ (withHall wait).exchanges .poll 11 ∧ (withHall other).exchanges .poll 11 ∧
      live.feeds 11 = some 7 ∧ live.booths[(2 : BoothId)].queue = [] ∧ live.waitLists[(7 : ChannelId)] = [] ∧
      (11 : ConsoleId) ∈ wait.booths[(2 : BoothId)].queue ∧ other.booths[(2 : BoothId)].owner = some 12 ∧
      other.settings.booths[(2 : BoothId)].mode ≠ .override :=
  ⟨⟨rfl, rfl, _, rfl⟩, ⟨rfl, rfl, _, rfl⟩, ⟨rfl, rfl, _, rfl⟩, by decide +kernel⟩

/-- KeyPresses: the owner of an OVERRIDE booth LIVE on the target channel. -/
theorem test_meets_override :
    let base := speaking (speak .idle keys0 talkKey shop)
    let h := { base with
      settings := { base.settings with booths := vmod base.settings.booths 2 fun r => { r with mode := .override } }
      channels := vmod base.channels 7 fun r => { r with feeder := some 12 }
      booths := vmod base.booths 2 fun r => { r with owner := some 12 }
      consoles := vset (vmod base.consoles 11 fun r => { r with state := .idle }) 12
        { ConsoleRun.blank with state := .live } }
    (withHall h).exchanges .poll 11 ∧ h.consoles[(11 : ConsoleId)].state = .idle ∧
      h.consoles[(12 : ConsoleId)].state.onChannel = true ∧ h.feeds 12 = some 7 ∧ h.target 11 = some 7 ∧
      h.booths[(2 : BoothId)].owner = some 12 ∧ h.settings.booths[(2 : BoothId)].mode = .override :=
  ⟨⟨rfl, rfl, _, rfl⟩, by decide +kernel⟩

/-- BusAnswers, each clause: the second bad answer standing, a probe after one good answer, a QUARANTINED console. -/
theorem test_meets_bus :
    let h := { speak .idle keys0 talkKey shop with
      consoles := vset shop.consoles 11 { ConsoleRun.blank with state := .idle, bad := 2, isolation := 7 } }
    let q := { shop with consoles := vset shop.consoles 11 { ConsoleRun.blank with state := .quarantined } }
    (withHall h).exchanges .poll 11 ∧ (withHall (probing 1)).exchanges .probe 11 ∧ (withHall q).takesOrders ∧
      2 ≤ h.consoles[(11 : ConsoleId)].bad ∧ (probing 1).consoles[(11 : ConsoleId)].state = .fault ∧
      q.consoles[(11 : ConsoleId)].state = .quarantined :=
  ⟨⟨rfl, rfl, _, rfl⟩, ⟨rfl, rfl, _, rfl⟩, ⟨rfl, rfl, rfl⟩, by decide +kernel⟩

/-- ConsoleTimers: each expiry due at tenth 100 and not due at tenth 0, a queued wait, a LIVE console with its reminder due,
and with a wait behind it. -/
theorem test_meets_timers :
    let h := { shop with consoles := vset shop.consoles 11 { ConsoleRun.blank with
      state := .idle, probeTimer := some 100, goodExpiry := some 540, engagedFlash := some 20 } }
    let w := late (queued shop)
    let l := speaking (speak .live keys0 talkKey shop)
    let v := { l with waitLists := vset l.waitLists 7 [⟨20, 4⟩] }
    (withHall h).resetn = false ∧ (withHall h).atRest ∧ (withHall w).atRest ∧ (withHall l).takesOrders ∧
      100 ≤ (late h).tenths ∧ 20 ≤ (late h).tenths ∧ ¬ 20 ≤ h.tenths ∧
      h.consoles[(11 : ConsoleId)].goodExpiry = some 540 ∧ 540 ≤ h.now ∧
      w.consoles[(12 : ConsoleId)].handoverExpiry = some 3 ∧ 3 ≤ w.tenths ∧ ¬ 3 ≤ (queued shop).tenths ∧
      w.boothOf 12 = some 2 ∧ (12 : ConsoleId) ∈ w.booths[(2 : BoothId)].queue ∧
      l.consoles[(11 : ConsoleId)].nextShift = some 530 ∧ 530 ≤ l.now ∧ l.feeds 11 = some 7 ∧
      v.waitLists[(7 : ChannelId)] = ⟨20, 4⟩ :: [] ∧
      (after (.handoverTimerExpiry 12) (withHall w)).hall.consoles[(12 : ConsoleId)].state = .idle ∧
      (after (.handoverTimerExpiry 12) (withHall (queued shop))).hall.consoles[(12 : ConsoleId)].state = .requesting :=
  ⟨rfl, rfl, rfl, ⟨rfl, rfl, rfl⟩, by decide +kernel⟩

/-- BusChooses: two probes due, none due and consoles polled on either side of the last, and a bus that is taken. -/
theorem test_meets_bus_choice :
    let fault : ConsoleRun := { ConsoleRun.blank with state := .fault, probeDue := true }
    let h := { shop with consoles := vset (vset shop.consoles 11 fault) 12 fault }
    let idle := { shop with consoles := vmod shop.consoles 11 fun r => { r with state := .idle } }
    h.bus.current = none ∧ h.consoles[(11 : ConsoleId)].probeDue = true ∧ h.consoles[(12 : ConsoleId)].probeDue = true ∧
      (h.rested.bus.current.map fun x => (x.kind, x.console)) = some (.probe, 11) ∧
      ({ idle with bus := ⟨none, some 11⟩ }.rested.bus.lastPolled) = some 11 ∧
      ({ idle with bus := ⟨none, some 3⟩ }.rested.bus.lastPolled) = some 11 ∧
      (probing 1).bus.current ≠ none := by decide +kernel

/-- FloorPassesOn, HandoverAndOverride, OutputRelayAndDisable: a console that speaks, with a queue and a list behind it, the
queue's head bound for the same channel and for another. -/
theorem test_meets_floor : (∀ o, (crowded .live talkKey o).floorOf 11 2 7) ∧ (crowded .muted talkKey .a).floorOf 11 2 7 ∧
    (crowded .live talkKey .a).booths[(2 : BoothId)].queue = 12 :: [] ∧
    (crowded .live talkKey .a).target 12 = some 7 ∧ (crowded .live talkKey .b).target 12 = some 8 := by
  refine ⟨fun o => ?_, ?_, by decide +kernel⟩
  · cases o <;> constructor <;> decide +kernel
  · constructor <;> decide +kernel

/-- FloorPassesOn, HandoverAndOverride, OutputRelayAndDisable: an owner that waits on a channel's list. -/
theorem test_meets_wait : (waiting talkKey).waitOf 11 2 7 := by constructor <;> decide +kernel

/-- The same: the key each clause presses stands as candidate; a timer due, a third bad answer, an order taken. -/
theorem test_meets_floor_events :
    let h := crowded .live talkKey .a
    let bad := { h with consoles := vmod h.consoles 11 fun r => { r with bad := 2 } }
    (withHall h).accepts 11 keys0 talkKey ∧ (withHall (waiting talkKey)).accepts 11 keys0 talkKey ∧
      (withHall (crowded .live { keys0 with handover := true } .a)).accepts 11 keys0 { keys0 with handover := true } ∧
      (withHall (crowded .live { keys0 with outB := true } .a)).accepts 11 keys0 { keys0 with outB := true } ∧
      (withHall (crowded .live { keys0 with relayNext := true } .a)).accepts 11 keys0 { keys0 with relayNext := true } ∧
      (withHall bad).exchanges .poll 11 ∧ (withHall h).takesOrders ∧ (withHall h).atRest ∧
      (late (waiting talkKey)).consoles[(11 : ConsoleId)].handoverExpiry = some 5 ∧ 5 ≤ (late (waiting talkKey)).tenths ∧
      2 ≤ bad.consoles[(11 : ConsoleId)].bad := by
  refine ⟨⟨⟨rfl, rfl, _, rfl⟩, by decide +kernel⟩, ⟨⟨rfl, rfl, _, rfl⟩, by decide +kernel⟩,
    ⟨⟨rfl, rfl, _, rfl⟩, by decide +kernel⟩, ⟨⟨rfl, rfl, _, rfl⟩, by decide +kernel⟩,
    ⟨⟨rfl, rfl, _, rfl⟩, by decide +kernel⟩, ⟨rfl, rfl, _, rfl⟩, ⟨rfl, rfl, rfl⟩, rfl, by decide +kernel⟩

/-- FloorPassesOn, BusAnswers: a bad poll answer by each of its faults, the address, the check and the keys. -/
theorem test_meets_bad_answer :
    ∀ x ∈ [(13, true, keys0), (12, false, keys0), (12, true, { keys0 with outA := true, outB := true })],
      ¬ (x.1 = numOf (11 : ConsoleId) ∧ x.2.1 = true ∧ x.2.2.decodes = true) := by decide

/-- SetClock: the stamps of a LIVE console and of a meter's window at a forward move, and at the present minute. -/
theorem test_meets_clock_move :
    let h := { speaking shop with
      consoles := vmod (speaking shop).consoles 11 fun r => { r with liveSince := some 510, goodStart := some 535 }
      meters := vset shop.meters 0 ⟨0, 0, false, false, false, some 545⟩ }
    let k (m : Nat) : Hall := takeSetClock m h
    let r (m : Nat) : ConsoleRun := (k m).consoles[(11 : ConsoleId)]
    h.clock.minute = 540 ∧ ((r 550).liveSince, (r 550).contStart, (r 550).nextShift, (r 550).goodStart) =
        (some 550, some 510, some 540, some 545) ∧
      (k 550).meters[(0 : MeterId)].next = some 555 ∧ (k 550).account.consoleLive[(11 : ConsoleId)] = 30 ∧
      (k 540).consoles = h.consoles ∧ (k 540).account = h.account := by decide +kernel

/-- HandoverAndOverride: the four outcomes of an OVERRIDE request of console 13: its owner speaking or waiting on channel 7,
the target 7 or 8. -/
theorem test_meets_contest (o : Output) :
    let live := contested { crowded .live talkKey .a with
      waitLists := vset (Vector.replicate 32 []) 7 [⟨20, 4⟩] } o
    let wait := contested (waiting talkKey) o
    live.floorOf 11 2 7 ∧ wait.waitOf 11 2 7 ∧ (withHall live).accepts 12 keys0 talkKey ∧
      live.settings.booths[(2 : BoothId)].mode = .override ∧ live.booths[(2 : BoothId)].owner = some 11 ∧
      live.target 12 = some (if o = .a then 7 else 8) ∧ wait.target 12 = some (if o = .a then 7 else 8) ∧
      (∀ x : ChannelId, ∀ e ∈ wait.waitLists[x], e.console ≠ 12) := by
  cases o <;> refine ⟨by constructor <;> decide +kernel, by constructor <;> decide +kernel,
    ⟨⟨rfl, rfl, _, rfl⟩, by decide +kernel⟩, by decide +kernel, by decide +kernel, by decide +kernel, by decide +kernel,
    by decide +kernel⟩

/-- OutputRelayAndDisable: an output free and one taken, a relay list with and without an owner, a booth that an order may
disable. -/
theorem test_meets_output :
    let h := crowded .live talkKey .a
    let taken := { h with channels := vmod h.channels 8 fun r => { r with feeder := some 40 } }
    let alone := { h with booths := vset h.booths 2 BoothRun.blank }
    let a : SetBoothArgs := ⟨.val 3, .val false, .absent, .absent, .absent, .absent, .absent, .absent⟩
    h.consoles[(11 : ConsoleId)].output = .a ∧ h.channels[(8 : ChannelId)].feeder = none ∧
      taken.channels[(8 : ChannelId)].feeder ≠ none ∧ h.settings.booths[(2 : BoothId)].relayList ≠ [] ∧
      h.booths[(2 : BoothId)].owner ≠ none ∧ alone.booths[(2 : BoothId)].owner = none ∧
      shop.settings.booths[(2 : BoothId)].relayList = [] ∧ a.malformed = false ∧
      firstFailing (boothTests false shop 2 a) = none ∧ shop.settings.booths[(2 : BoothId)].enabled = true ∧
      (∀ x ∈ h.booths[(2 : BoothId)].queue, ∀ c : ChannelId, ∀ e ∈ h.waitLists[c], e.console ≠ x) := by decide +kernel

/-- RelayFallback: a source that is lost, found again and changed, and a channel whose service state changes. -/
theorem test_meets_fallback :
    let h (source fallback : Option ChannelId) : Hall := { shop with
      booths := vset shop.booths 2 { BoothRun.blank with unowned := source, fallback := fallback } }
    let feed := { crowded .live talkKey .a with channels := vmod shop.channels 9 fun r => { r with feeder := some 40 } }
    let on9 := { feed with settings := { feed.settings with
      channels := vmod feed.settings.channels 9 fun r => { r with enabled := true } } }
    (h (some 9) none).fallbackDue 2 = some 9 ∧ (h none (some 9)).fallbackDue 2 = none ∧
      (h (some 10) (some 9)).fallbackDue 2 = some 10 ∧ (h none none).fallbackDue 2 = none ∧
      on9.channels[(9 : ChannelId)].service ≠ on9.serviceOf 9 ∧
      (9 : ChannelId) ∈ on9.settings.booths[(2 : BoothId)].relayList := by decide +kernel

/-- CarrierOffers: a FREE carrier, a HOLDING one, a FILL holder, a LIVE holder of lower demand, and none of them. -/
theorem test_meets_offers :
    let live (n : Nat) : Hall := { air (.onAir 9 500) .free [] with
      channels := vmod (vmod shop.channels 9 fun r => { r with service := .live }) 7 fun r => { r with demand := n } }
    let full (h : Hall) : List ChannelId := (requestCarrier 7 h).air.waiting
    let only (h : Hall) : Hall := { h with air := { h.air with
      carriers := vtab fun k => if k = 0 then .onAir 0 0 else if k = 1 then .onAir 9 500 else .onAir (Fin.ofNat 32 (8 + k.val)) 500 } }
    shop.AirLawful ∧ freeCarrier shop = some 1 ∧
      holdingCarrier (air (.holding 8 500 40) (.onAir 9 500) []) = some 1 ∧
      fillHolder (air (.onAir 8 500) (.onAir 9 500) []) = some (1, 8) ∧
      liveHolder 7 (live 6) = some (1, 9) ∧ liveHolder 7 (live 5) = none ∧
      full (only (live 6)) = [9] ∧ full (only (live 5)) = [7] :=
  ⟨test_meets_shop_air, by decide +kernel⟩

/-- CarrierReports: channel 7 newly LIVE without a carrier; HOLDING and LIVE again; SILENT with its carrier ON_AIR, alone and
with channel 9 waiting; disabled; and SET CHANNEL with PIN=ON and PIN=OFF. -/
theorem test_meets_reports :
    let fed (r : Carrier) : Hall := { air r .free [] with
      channels := vmod shop.channels 7 fun x => { x with feeder := some 11 } }
    let left (r : Carrier) : Hall := { air r .free [] with
      channels := vmod shop.channels 7 fun x => { x with service := .live } }
    let off (r : Carrier) : Hall := { air r .free [] with
      channels := vmod shop.channels 10 fun x => { x with service := .silent } }
    let pin (on : Bool) : SetChannelArgs := ⟨.val 7, .absent, .absent, .absent, .absent, .val on, .absent⟩
    (fed .free).serviceOf 7 = .live ∧ (fed .free).channels[(7 : ChannelId)].service = .silent ∧
      (reevaluate (fed .free) 7).air.carriers[(1 : CarrierId)] = .onAir 7 540 ∧
      (reevaluate (fed (.holding 7 500 40)) 7).air.carriers[(1 : CarrierId)] = .onAir 7 500 ∧
      (reevaluate (left (.onAir 7 500)) 7).air.carriers[(1 : CarrierId)] = .holding 7 500 80 ∧
      (off (.onAir 10 500)).serviceOf 10 = .off ∧
      (reevaluate (off (.onAir 10 500)) 10).air.carriers[(1 : CarrierId)] = .free ∧
      firstFailing (channelTests false shop 7 (pin true)) = none ∧
      firstFailing (channelTests false shop 7 (pin false)) = none ∧
      shop.channels[(7 : ChannelId)].service = shop.serviceOf 7 := by decide +kernel

/-- UNSERVED_CHANNELS is handed at each change (R10, R149): channel 7, served, falls SILENT and its carrier goes to the
waiting channel 9, so the level meter sees the count rise and fall. -/
theorem test_unserved_is_handed_at_each_change :
    let set : MeterSettings := ⟨true, .unservedChannels, .any, 10, 9, false, false, 0, false⟩
    let h : Hall := { air (.onAir 7 500) (.onAir 8 500) [9] with
      settings := { shop.settings with
        channels := vset shop.settings.channels 9 ⟨true, ['E', 'S', 'P'], [], false, false⟩
        meters := vset shop.settings.meters 0 set }
      account := { shop.account with session := .running 1 3, lastSession := 1, log := [⟨1, 3, 530, none⟩] }
      link := { shop.link with slots := vset shop.link.slots 0 ⟨.ok, 0, true⟩ }
      levels := { shop.levels with unserved := 3 }
      channels := vmod (vmod shop.channels 7 fun r => { r with service := .live, servedSince := some 530 }) 9
        fun r => { r with service := .live } }
    ((reevaluate h 7).meters[(0 : MeterId)].tally, (reevaluate h 7).levels.unserved) = (4, 3) := by decide +kernel

/-- CarriersAndEmitters: carrier 3 HOLDING, alone, and as the only one to become FREE with a channel waiting. -/
theorem test_meets_carriers :
    let hold (w : List ChannelId) (fill : Carrier) : Hall := { shop with
      air := { shop.air with carriers := vset (vtab fun _ => fill) 3 (.holding 8 500 40), waiting := w } }
    (withHall (hold [] .free)).atRest ∧ (hold [] .free).air.carriers[(3 : CarrierId)] = .holding 8 500 40 ∧
      (hold [] .free).air.waiting = [] ∧ (hold [7] (.onAir 9 500)).air.waiting = [7] ∧
      (∀ l : CarrierId, l ≠ 0 → (hold [7] (.onAir 9 500)).air.carriers[l] ≠ .free) ∧
      shop.link.slots[(0 : EmitterId)].state ≠ .ok ∧ 40 ≤ (late (hold [] .free)).tenths ∧ (hold [] .free).tenths < 40 :=
  ⟨rfl, by decide +kernel⟩

/-- MeterWindows: a meter that counts, one that tallies, a window that closes with its preset reached. -/
theorem test_meets_meters :
    let set (thr : Nat) : MeterSettings := ⟨true, .carrierWait, .any, 10, thr, false, true, 2, false⟩
    let h (thr : Nat) : Hall := { dayHall with
      settings := { dayHall.settings with meters := vset dayHall.settings.meters 5 (set thr) }
      meters := vset dayHall.meters 5 ⟨1, 4, false, false, false, some 540⟩ }
    let e : MeterEvent := channelEvent .carrierWait 11
    (withHall (h 3)).atRest ∧ (h 0).settings.meters[(5 : MeterId)].source = e.kind ∧
      e.qualifies (h 0).settings.meters[(5 : MeterId)].qualifier = true ∧
      (h 3).meters[(5 : MeterId)].next = some 540 ∧ 540 ≤ (h 3).now ∧
      (after (.windowClose 5) (withHall (h 3))).hall.meters[(5 : MeterId)] = ⟨2, 0, true, true, false, some 550⟩ :=
  ⟨rfl, by decide +kernel⟩

/-- MeterWindows, HandoverAndOverride: an event counted at the last rise, which reaches preset and saturation together; a
saturated count; a level handed to a meter on it; a HANDOVER press tallied. -/
theorem test_meets_rises :
    let set (src : MeterSource) (thr : Nat) : MeterSettings := ⟨true, src, .any, 10, thr, false, false, 4294967295, false⟩
    let h (src : MeterSource) (thr count : Nat) : Hall := { crowded .live talkKey .a with
      settings := { shop.settings with meters := vset shop.settings.meters 5 (set src thr) }
      meters := vset shop.meters 5 ⟨count, 4, false, false, false, none⟩ }
    let k (count : Nat) : Hall := meterEvent (channelEvent .carrierWait 11) (h .carrierWait 0 count)
    ((k 4294967294).work.posts.map fun n => (n.kind, n.subject)) = [(.meterPreset, 6), (.meterFull, 6)] ∧
      (k 4294967294).meters[(5 : MeterId)] = ⟨4294967295, 4, false, true, true, none⟩ ∧
      (k 4294967295).work.posts = [] ∧ MeterSource.openHires.isLevel = true ∧
      (meterLevel .openHires 9 (h .openHires 1 0)).meters[(5 : MeterId)].tally = 9 ∧
      (meterLevel .openHires 3 (h .openHires 1 0)).meters[(5 : MeterId)].tally = 4 ∧
      (handoverPress 11 (h .handover 2 0)).meters[(5 : MeterId)].tally = 5 ∧
      (handoverPress 11 (h .handover 0 0)).meters[(5 : MeterId)].count = 1 := by decide +kernel

/-- NoticesDeliveredAndFetched: each clause of delivery at its boundary. -/
theorem test_meets_delivery :
    let n : Notice := ⟨.booth, .shiftDue, 13, 650, 40, false⟩
    let x : Notice := ⟨.hire, .overdue, 1, 600, 0, false⟩
    2 ≤ (([n, x, n] : List Notice).filter fun y => n.sameSubject y).length ∧
      ((List.replicate 31 x).filter fun y => n.sameSubject y).length < 2 ∧ (List.replicate 31 x).length < 32 ∧
      32 ≤ (List.replicate 32 x).length := by decide

/-- NoticesDeliveredAndFetched: conditions that have met their causes, STORE_FAULT ENDED, HALL_DARK clear, CLOCK_STALE ACTIVE. -/
theorem test_meets_acknowledge :
    let s : State := { on with
      store := { on.store with failed := .none }
      notice := { on.notice with conds := { on.notice.conds with storeFault := .ended } } }
    s.takesOrders ∧ s.atRest ∧ s.notice.conds.get .storeFault 0 = .ended ∧ s.notice.conds.get .clockStale 0 = .active ∧
      s.notice.conds.get .hallDark 0 = .clear ∧
      (reply (.ackCondition ['1'] (.val .storeFault) (.val 1)) false).map (fun x => x.2) = some (.er .syntaxError) ∧
      (reply (.ackCondition ['1'] (.val .quarantine) (.val 49)) false).map (fun x => x.2) = some (.er .range) ∧
      s.notice.conds = syncConditions s.hall s.store.failed s.notice.conds :=
  ⟨⟨rfl, rfl, rfl⟩, rfl, rfl, rfl, rfl, by decide +kernel, by decide +kernel, by decide +kernel⟩

/-- `on` with a write of SETTINGS in progress on which answers to the host and to desk 1 wait, and another behind it. -/
def writing (h : Hall) : State :=
  let s := idleStore h
  { s with
    port := ⟨true, false, []⟩
    store := { s.store with
      current := some ⟨onlySettings, contentOf h onlySettings, [.host ['4'] (.ok .plain []), .desk 0 ['5'] (.er .state)]⟩
      writes := [⟨onlyFleet, []⟩] } }

/-- StoreEvents, PowerInputs: a write with its waiters, and a rewrite's time reached and not reached. -/
theorem test_meets_store :
    let s := { (idleStore shop).store with rewrite := ⟨some 10, none, none, none⟩ }
    (writing shop).resetn = false ∧ (writing shop).atRest ∧ (∃ w, (writing shop).store.current = some w ∧
        Waiter.host ['4'] (.ok .plain []) ∈ w.waiters ∧ Waiter.desk 0 ['5'] (.er .state) ∈ w.waiters) ∧
      s.rewrite.get .settings = some 10 ∧ 10 ≤ (late shop).tenths ∧ shop.tenths < 10 ∧ s.current = none ∧ s.writes = [] :=
  ⟨rfl, rfl, ⟨_, rfl, by decide +kernel⟩, by decide +kernel⟩

/-- SETTINGS in the write in progress, FLEET on the list, ACCOUNT failed and to be rewritten, CLOCK in the store, or not
written since a start-up. -/
def partWritten (stale : Bool) : State :=
  let s := writing { shop with clock := { shop.clock with stale := stale } }
  { s with store := { s.store with
    held := ⟨none, none, none, if stale then none else some 540⟩
    failed := .single .account
    rewrite := ⟨none, none, some 20, none⟩ } }

/-- ChangesWrittenThrough, ResetState: an area in each of the cases, at a step. -/
theorem test_meets_written_through (stale : Bool) :
    (partWritten stale).writtenThrough ∧ ∃ t, step (partWritten stale) = .next t := by
  refine ⟨fun _ a => ?_, _, rfl⟩
  have other : ∀ a, onlySettings.has a = false → ∀ c, (partWritten stale).store.current = some c → c.areas.has a = false := by
    rintro a h c ⟨⟩
    exact h
  cases a
  · exact .inl (.inr ⟨_, rfl, rfl, rfl⟩)
  · exact .inl (.inl ⟨_, List.mem_singleton.mpr rfl, rfl⟩)
  · exact .inr (.inl ⟨other _ rfl, .inr ⟨rfl, nofun⟩⟩)
  · cases stale
    · exact .inr (.inl ⟨other _ rfl, .inl rfl⟩)
    · exact .inr (.inr ⟨rfl, rfl⟩)

/-- R170: an answer that waits on a write is sent before the failure it completes with raises STORE_FAULT; the next write
begins then. -/
theorem test_answer_before_store_fault :
    let s := { writing shop with notice := { (writing shop).notice with conds := Conditions.none } }
    let t := after (.writeCompletion onlySettings) s
    (t.out.map fun a => a.addressee) = [.host 0 false, .desk 0] ∧ t.notice.conds.storeFault = .active ∧
      (t.store.current.map fun w => w.areas) = some onlyFleet := by decide +kernel

/-- R170: the writes of one event take their places in the order asked for; SET CLOCK's FLEET, of a hire that falls due,
before the CLOCK its answer waits on. -/
theorem test_own_write_is_last :
    ((after (.setClock ['1'] (.val 600)) { writing shop with port := ⟨false, false, []⟩ }).store.writes.map
      fun w => w.areas) = [onlyFleet, onlyClock] := by decide +kernel

/-- R171: power lost during a write of SETTINGS leaves that area bad at the power-up, and no other. -/
theorem test_cut_short :
    let s := { writing shop with store := { (writing shop).store with
      held := ⟨some shopSettings, some shop.fleet, some shop.account, some 540⟩ } }
    (after (.startUp .powerUp .none) s).start.good = ⟨false, true, true, true⟩ ∧
      (after (.startUp .resetnRelease .none) { s with resetn := true }).start.good = ⟨true, true, true, true⟩ := by
  decide +kernel

/-- PowerInputs, StartUp. -/
theorem test_meets_inputs : on.pfw = false ∧ on.resetn = false ∧ on.atRest ∧ { on with pfw := true }.pfw = true ∧
    (StartCause.resetnRelease = .resetnRelease → { on with resetn := true }.resetn = true) ∧
    (StartCause.powerUp = .resetnRelease → on.resetn = true) ∧
    (∀ x ∈ shop.fleet.hires, x.overdue = true ∨ ∀ d, x.due = some d → 540 < d) := by
  refine ⟨rfl, rfl, rfl, rfl, fun _ => rfl, nofun, ?_⟩
  simp [shop, hire1]

/-- RestartOrders: the pinned channels 8 and 9 take carriers 1 and 2, and open live, fallback and fill spells count up to
the restart minute. -/
theorem test_restart_carriers :
    let pin (c : ChannelSettings) : ChannelSettings := { c with enabled := true, pinned := true }
    let h := { speaking shop with
      settings := { shop.settings with channels := vmod (vmod shop.settings.channels 8 pin) 9 pin }
      channels := vmod (speaking shop).channels 8 fun r => { r with fillSince := some 510 }
      consoles := vmod (speaking shop).consoles 11 fun r => { r with liveSince := some 500 }
      booths := vmod (speaking shop).booths 2 fun r => { r with fallback := some 10, fallbackSince := some 520 } }
    let t := after (.restart ['1']) (withHall h)
    ((ids 16).map fun k => t.hall.air.carriers[k]) =
        [.onAir 0 540, .onAir 8 540, .onAir 9 540] ++ List.replicate 13 .free ∧
      t.hall.account.consoleLive[(11 : ConsoleId)] = 40 ∧ t.hall.account.booths[(2 : BoothId)] = ⟨0, 40, 20⟩ ∧
      t.hall.account.channels[(8 : ChannelId)].fill = 30 := by decide +kernel

/-- RestartOrders: no expiry stands due. -/
theorem test_meets_restart :
    (∀ x ∈ shop.fleet.hires, x.overdue = false → ∀ d, x.due = some d → shop.now < d) ∧
      (∀ m : MeterId, 1 ≤ shop.settings.meters[m].window) ∧ (∀ a : ConsoleId, shop.consoles[a].goodExpiry = none ∧
        shop.consoles[a].handoverExpiry = none ∧ shop.consoles[a].probeTimer = none ∧
        shop.consoles[a].engagedFlash = none) ∧ shop.dueExpiries = [] := by
  refine ⟨?_, by decide +kernel, by decide +kernel, by decide +kernel⟩
  simp [shop, hire1, Hall.now, dayHall]

end Sys2Proof.Tests
end

/-! PROOFS. The charge of a hire (spec/07_tariffs_and_the_charge_computation.md): stages 1 to 8 (R124 to R126), then
stage 9. Stage 9 rests on one reading of a lawful log: every minute m belongs to exactly one centre, `centreAt log m`,
so that m_k is the number of minutes of [I, T) with that centre (R127). -/

namespace Sys2Proof.ChargeProofs

open Machine

/-! ### Stages 1 to 7 -/

/-- `divUp n d` is the least number of parts of size `d` that cover `n`. -/
theorem divUp_le_iff {d : Nat} (hd : 0 < d) (n m : Nat) : divUp n d ≤ m ↔ n ≤ m * d := by
  unfold divUp
  rw [Nat.div_le_iff_le_mul_add_pred hd, Nat.mul_comm d m]
  omega

theorem max_one_divUp_1440 (d : Nat) : max 1 (divUp d 1440) = if d = 0 then 1 else (d + 1439) / 1440 := by
  unfold divUp
  split <;> omega

theorem satMoney_le (n : Nat) : satMoney n ≤ 99999999 := Nat.min_le_right n maxMoney

theorem capped_le (cap elapsed gross : Nat) : capped cap elapsed gross ≤ gross := by
  unfold capped
  split
  · exact Nat.le_refl gross
  · exact Nat.min_le_left gross _

theorem capped_eq (cap elapsed gross : Nat) :
    capped cap elapsed gross = if cap = 0 then gross
      else min gross (min (cap * (if elapsed = 0 then 1 else (elapsed + 1439) / 1440)) 99999999) := by
  rw [← max_one_divUp_1440]
  rfl

/-- Settles O33: each stage is the model's own, and the interval count is `divUp`, the least number of whole
intervals that covers the billable minutes. -/
theorem chargeStages : Obligations.ChargeStages := by
  intro f i t u deposit overdue hlen g under
  have hunder : under = capped f.cap g.elapsed g.gross := (capped_eq f.cap g.elapsed g.gross).symm
  have hleast (n : Nat) : g.intervals ≤ n ↔ g.billable ≤ n * f.len := divUp_le_iff hlen g.billable n
  refine ⟨rfl, rfl, Nat.sub_sub g.elapsed g.unserved f.grace, ⟨(hleast _).1 (Nat.le_refl _), fun n => (hleast n).2⟩, rfl,
    ?_⟩
  rw [hunder]
  rfl

/-! ### Stage 8 -/

theorem figures_charge_le (f : Tariff) (i t u deposit : Nat) (overdue : Bool) :
    (figures f i t u deposit overdue).charge ≤ 99999999 := by
  cases overdue
  · exact Nat.le_trans (capped_le _ _ _) (satMoney_le _)
  · exact satMoney_le _

theorem figures_refund (f : Tariff) (i t u deposit : Nat) (overdue : Bool) :
    (figures f i t u deposit overdue).refund = deposit - (figures f i t u deposit overdue).charge := rfl

theorem figures_outstanding (f : Tariff) (i t u deposit : Nat) (overdue : Bool) :
    (figures f i t u deposit overdue).outstanding = (figures f i t u deposit overdue).charge - deposit := rfl

/-! ### The centre of a minute -/

section OneCentre

variable {log : List Interval}

/-- The intervals of a lawful log do not overlap, so the first that contains a minute is the only one. -/
theorem filter_contains_eq_find (hlog : logOrdered log) (m : Nat) :
    log.filter (contains m) = (log.find? (contains m)).toList := by
  obtain ⟨-, hpair⟩ := hlog
  induction log with
  | nil => rfl
  | cons v vs ih =>
    obtain ⟨hv, hvs⟩ := List.pairwise_cons.1 hpair
    by_cases hc : contains m v
    · have hrest : ∀ w ∈ vs, ¬ contains m w = true := by
        intro w hw hcw
        obtain ⟨e, he, hle⟩ := hv w hw
        simp only [contains, he, Option.all_some, Bool.and_eq_true, decide_eq_true_eq] at hc hcw
        omega
      simp [hc, List.filter_eq_nil_iff.2 hrest]
    · simp [hc, ih hvs]

/-- The intervals of centre `k` that contain minute `m`: one where `m` belongs to `k`, none otherwise. -/
theorem countP_contains_centre (hlog : logOrdered log) {k : CentreId} (hk : k ≠ 0) (m : Nat) :
    (log.filter fun v => v.centre == k).countP (contains m) = if centreAt log m = k then 1 else 0 := by
  have hcount : (log.filter fun v => v.centre == k).countP (contains m)
      = ((log.filter (contains m)).filter fun v => v.centre == k).length := by
    rw [List.countP_eq_length_filter, List.filter_comm]
  rw [hcount, filter_contains_eq_find hlog]
  unfold centreAt
  cases log.find? (contains m) with
  | none => simp [hk.symm]
  | some v => by_cases h : v.centre = k <;> simp [h]

end OneCentre

/-- Minute `m` is counted to centre `k`: it lies in an interval of `k`, or `k` is 0 and it lies in none (R127). -/
def countsTo (log : List Interval) (k : CentreId) (m : Nat) : Bool :=
  (log.any fun v => v.centre == k && contains m v) || (k == 0 && !log.any (contains m))

theorem countsTo_eq {log : List Interval} (hlog : logOrdered log) (k : CentreId) (m : Nat) :
    countsTo log k m = decide (centreAt log m = k) := by
  have hany (p : Interval → Bool) : (log.any fun v => p v && contains m v) = (log.find? (contains m)).toList.any p := by
    rw [← filter_contains_eq_find hlog, List.any_filter]
    simp only [Bool.and_comm]
  have hnone : log.any (contains m) = (log.find? (contains m)).toList.any fun _ => true := by
    rw [← hany]
    simp
  unfold countsTo centreAt
  rw [hany, hnone]
  cases log.find? (contains m) with
  | none => simp [eq_comm, beq_eq_decide]
  | some v => simp [beq_eq_decide]

theorem centreAt_eq {log : List Interval} {m : Nat} {k : CentreId} (hin : ∀ v ∈ log, contains m v = true → v.centre = k)
    (hout : (∀ v ∈ log, contains m v = false) → k = 0) : centreAt log m = k := by
  unfold centreAt
  cases hf : log.find? (contains m) with
  | none => exact (hout fun v hv => by simpa using List.find?_eq_none.1 hf v hv).symm
  | some v => exact hin v (List.mem_of_find?_eq_some hf) (List.find?_some hf)

/-! ### Counting minutes -/

/-- The minutes of [i, t) that belong to centre `k`. -/
def minutesAt (log : List Interval) (i t : Nat) (k : CentreId) : Nat :=
  ((Finset.Ico i t).filter fun m => centreAt log m = k).card

theorem common_eq_sum (i t : Nat) (v : Interval) :
    common i t v = ∑ m ∈ Finset.Ico i t, if contains m v then 1 else 0 := by
  have hset : (Finset.Ico i t).filter (fun m => contains m v = true)
      = Finset.Ico (max v.start i) (min (v.finish.getD t) t) := by
    ext m
    cases hf : v.finish <;>
      simp only [contains, hf, Finset.mem_filter, Finset.mem_Ico, Option.all_none, Option.all_some, Option.getD_none,
        Option.getD_some, Bool.and_true, Bool.and_eq_true, decide_eq_true_eq] <;> omega
  rw [← Finset.card_filter, hset, Nat.card_Ico]
  rfl

/-- Minutes in common with each interval of a list, summed: each minute counts once for every interval it lies in. -/
theorem sum_common_eq (log : List Interval) (i t : Nat) :
    (log.map (common i t)).sum = ∑ m ∈ Finset.Ico i t, log.countP (contains m) := by
  induction log with
  | nil => simp
  | cons v vs ih =>
    simp only [List.map_cons, List.sum_cons, List.countP_cons, Finset.sum_add_distrib, ih, common_eq_sum]
    exact Nat.add_comm _ _

theorem sum_ids {n : Nat} (f : Fin n → Nat) : ((ids n).map f).sum = ∑ k, f k := (Fin.sum_univ_def f).symm

theorem nodup_ids {n : Nat} : (ids n).Nodup := List.nodup_finRange n

theorem sum_minutesAt (log : List Interval) (i t : Nat) : ∑ k, minutesAt log i t k = t - i := by
  rw [← Nat.card_Ico i t]
  exact (Finset.card_eq_sum_card_fiberwise fun _ _ => Finset.mem_coe.2 (Finset.mem_univ _)).symm

section LawfulLog

variable {log : List Interval} {i t : Nat}

theorem sessionMinutes_eq (hlog : logOrdered log) {k : CentreId} (hk : k ≠ 0) :
    sessionMinutes log i t k = minutesAt log i t k := by
  unfold sessionMinutes minutesAt
  simp only [sum_common_eq, countP_contains_centre hlog hk, Finset.card_filter]

theorem loggedMinutes_eq (hlog : logOrdered log) :
    loggedMinutes log i t = ∑ k ∈ Finset.univ.erase 0, minutesAt log i t k := by
  have hset : ((ids 16).filter fun k => k != 0).toFinset = Finset.univ.erase 0 := by
    ext k
    simp
  unfold loggedMinutes
  rw [← List.sum_toFinset _ (nodup_ids.filter _), hset]
  exact Finset.sum_congr rfl fun k hk => sessionMinutes_eq hlog (Finset.ne_of_mem_erase hk)

/-- m_k of R127: centre 0's count, taken as what the other centres leave of the span, is its own minutes too. -/
theorem centreMinutes_eq (hlog : logOrdered log) (k : CentreId) : centreMinutes log i t k = minutesAt log i t k := by
  unfold centreMinutes
  split
  · next hk =>
    subst hk
    have hsum := Finset.add_sum_erase Finset.univ (minutesAt log i t) (Finset.mem_univ 0)
    rw [sum_minutesAt, ← loggedMinutes_eq hlog] at hsum
    omega
  · next hk => exact sessionMinutes_eq hlog hk

theorem sum_centreMinutes (hlog : logOrdered log) : ((ids 16).map (centreMinutes log i t)).sum = t - i := by
  rw [sum_ids, ← sum_minutesAt log i t]
  exact Finset.sum_congr rfl fun k _ => centreMinutes_eq hlog k

theorem centreMinutes_eq_length (hlog : logOrdered log) (k : CentreId) :
    centreMinutes log i t k = ((List.range t).filter fun m => i ≤ m && countsTo log k m).length := by
  have hset : ((List.range t).filter fun m => i ≤ m && countsTo log k m).toFinset
      = (Finset.Ico i t).filter fun m => centreAt log m = k := by
    ext m
    simp only [countsTo_eq hlog, List.mem_toFinset, List.mem_filter, List.mem_range, Bool.and_eq_true,
      decide_eq_true_eq, Finset.mem_filter, Finset.mem_Ico]
    tauto
  rw [centreMinutes_eq hlog, minutesAt, ← hset, List.toFinset_card_of_nodup (List.nodup_range.filter _)]

end LawfulLog

/-! ### The rounded shares and the remainder (R128) -/

section Rounding

variable {α : Type} (l : List α) (m : α → Nat) (charge d : Nat)

theorem sum_rounded_mul_le : (l.map fun k => charge * m k / d).sum * d ≤ charge * (l.map m).sum := by
  induction l with
  | nil => simp
  | cons k ks ih =>
    have hk : charge * m k / d * d ≤ charge * m k := Nat.div_mul_le_self _ _
    simp only [List.map_cons, List.sum_cons, Nat.add_mul, Nat.mul_add]
    omega

/-- Rounding one share down loses less than 1, and nothing where the weight is 0. -/
theorem mul_sum_le_sum_rounded (hd : 0 < d) :
    charge * (l.map m).sum
      ≤ (l.map fun k => charge * m k / d).sum * d + (d - 1) * (l.filter fun k => 0 < m k).length := by
  induction l with
  | nil => simp
  | cons k ks ih =>
    have hk : charge * m k = charge * m k / d * d + charge * m k % d := (Nat.div_add_mod' _ _).symm
    have hmod : charge * m k % d < d := Nat.mod_lt _ hd
    simp only [List.map_cons, List.sum_cons, Nat.add_mul, Nat.mul_add]
    by_cases hpos : 0 < m k
    · simp only [List.filter_cons, hpos, decide_true, if_true, List.length_cons, Nat.mul_add, Nat.mul_one]
      omega
    · have hzero : m k = 0 := Nat.eq_zero_of_not_pos hpos
      simp [hzero, ih]

/-- The remainder is below the number of entries of positive weight. -/
theorem remainder_lt (hd : 0 < d) (hsum : (l.map m).sum = d) :
    charge - (l.map fun k => charge * m k / d).sum < (l.filter fun k => 0 < m k).length := by
  have hub := mul_sum_le_sum_rounded l m charge d hd
  have hpos : 0 < (l.filter fun k => 0 < m k).length := by
    obtain ⟨_, hx, hx0⟩ := List.sum_pos_iff_exists_pos_nat.1 (Nat.lt_of_lt_of_eq hd hsum.symm)
    obtain ⟨k, hk, rfl⟩ := List.mem_map.1 hx
    exact List.length_pos_of_mem (List.mem_filter.2 ⟨hk, decide_eq_true hx0⟩)
  have hlt := Nat.mul_lt_mul_of_pos_right (Nat.sub_one_lt (Nat.ne_of_gt hd)) hpos
  rw [hsum] at hub
  have hscaled : charge * d
      < ((l.map fun k => charge * m k / d).sum + (l.filter fun k => 0 < m k).length) * d := by
    rw [Nat.add_mul, Nat.mul_comm (List.length _) d]
    omega
  have := Nat.lt_of_mul_lt_mul_right hscaled
  omega

end Rounding

/-- What the rounded shares leave of the charge (R128). -/
def remainderOf (log : List Interval) (i t charge : Nat) : Nat :=
  charge - ((ids 16).map (roundedShare log i t charge)).sum

theorem shareOf_eq (log : List Interval) (i t charge : Nat) (k : CentreId) :
    shareOf log i t charge k
      = roundedShare log i t charge k + if k = mainCentre log i t then remainderOf log i t charge else 0 := rfl

section LawfulLog

variable {log : List Interval} {i t : Nat}

theorem remainderOf_lt (hlog : logOrdered log) (hit : i < t) (charge : Nat) :
    remainderOf log i t charge < ((ids 16).filter fun k => 0 < centreMinutes log i t k).length :=
  remainder_lt _ _ charge _ (Nat.sub_pos_of_lt hit) (sum_centreMinutes hlog)

theorem sum_roundedShare_le (hlog : logOrdered log) (charge : Nat) :
    ((ids 16).map (roundedShare log i t charge)).sum ≤ charge := by
  obtain hzero | hpos := Nat.eq_zero_or_pos (t - i)
  · simp [sum_ids, roundedShare, hzero]
  · have hle := sum_rounded_mul_le (ids 16) (centreMinutes log i t) charge (t - i)
    rw [sum_centreMinutes hlog] at hle
    exact Nat.le_of_mul_le_mul_right hle hpos

theorem sum_shareOf (hlog : logOrdered log) (charge : Nat) : ((ids 16).map (shareOf log i t charge)).sum = charge := by
  have hle := sum_roundedShare_le (i := i) (t := t) hlog charge
  rw [sum_ids] at hle ⊢
  simp only [shareOf_eq, Finset.sum_add_distrib, Finset.sum_ite_eq', Finset.mem_univ, if_true, remainderOf, sum_ids]
  omega

end LawfulLog

/-! ### The main centre -/

/-- In an ascending list, `pick` takes the largest by `f`, the lowest of equals. -/
theorem pick_largest {n : Nat} (f : Fin n → Nat) {l : List (Fin n)} {k : Fin n} (hasc : l.Pairwise (· < ·)) (hk : k ∈ l)
    (hmax : ∀ j, f j ≤ f k) (hlow : ∀ j, j < k → f j < f k) : pick (fun a b => f b < f a) l = some k := by
  induction l with
  | nil => cases hk
  | cons x xs ih =>
    obtain ⟨hx, hxs⟩ := List.pairwise_cons.1 hasc
    unfold pick
    obtain rfl | hmem := List.mem_cons.1 hk
    · cases hp : pick (fun a b => f b < f a) xs with
      | none => rfl
      | some y => simp [Nat.not_lt.2 (hmax y)]
    · simp [ih hxs hmem, hlow x (hx k hmem)]

theorem ids_ascending (n : Nat) : (ids n).Pairwise (· < ·) := List.pairwise_lt_finRange n

theorem mainCentre_of_lt {log : List Interval} {i t : Nat} {k : CentreId} (hit : i < t)
    (hmax : ∀ j, centreMinutes log i t j ≤ centreMinutes log i t k)
    (hlow : ∀ j, j < k → centreMinutes log i t j < centreMinutes log i t k) : mainCentre log i t = k := by
  rw [mainCentre, if_neg (Nat.sub_ne_zero_of_lt hit), largestCentre,
    pick_largest (centreMinutes log i t) (ids_ascending 16) (mem_ids k) hmax hlow]
  rfl

theorem mainCentre_self (log : List Interval) (i : Nat) : mainCentre log i i = centreAt log i := by
  simp [mainCentre]

/-! ### The shares list -/

section Shares

variable (log : List Interval) (i t : Nat) {charge : Nat}

theorem apportion_zero : apportion log i t 0 = [(mainCentre log i t, 0)] := rfl

theorem apportion_of_ne_zero (hc : charge ≠ 0) :
    apportion log i t charge
      = ((ids 16).filter fun k => shareOf log i t charge k ≠ 0).map fun k => (k, shareOf log i t charge k) := by
  rw [apportion, if_neg hc, ← List.filterMap_eq_map, ← List.filterMap_eq_filter, List.filterMap_filterMap]
  congr
  funext k
  by_cases h : shareOf log i t charge k = 0 <;> simp [h, Option.guard]

theorem mem_apportion (hc : charge ≠ 0) (j : CentreId) (a : Nat) :
    (j, a) ∈ apportion log i t charge ↔ a ≠ 0 ∧ a = shareOf log i t charge j := by
  rw [apportion_of_ne_zero log i t hc]
  constructor
  · intro h
    obtain ⟨k, hk, heq⟩ := List.mem_map.1 h
    cases heq
    exact ⟨of_decide_eq_true (List.mem_filter.1 hk).2, rfl⟩
  · rintro ⟨ha, rfl⟩
    exact List.mem_map.2 ⟨j, List.mem_filter.2 ⟨mem_ids j, decide_eq_true ha⟩, rfl⟩

theorem apportion_ascending (charge : Nat) : (apportion log i t charge).Pairwise fun p q => p.1 < q.1 := by
  by_cases hc : charge = 0
  · subst hc
    exact List.pairwise_singleton _ _
  · rw [apportion_of_ne_zero log i t hc, List.pairwise_map]
    exact (ids_ascending 16).filter _

theorem sum_map_filter_ne_zero {α : Type} (l : List α) (f : α → Nat) :
    ((l.filter fun k => f k ≠ 0).map f).sum = (l.map f).sum := by
  induction l with
  | nil => rfl
  | cons k ks ih =>
    simp only [ne_eq, decide_not] at ih
    by_cases h : f k = 0 <;> simp [h, ih]

theorem sum_apportion {log : List Interval} (hlog : logOrdered log) (charge : Nat) :
    ((apportion log i t charge).map fun p => p.2).sum = charge := by
  by_cases hc : charge = 0
  · subst hc
    rfl
  · rw [apportion_of_ne_zero log i t hc, List.map_map]
    exact (sum_map_filter_ne_zero _ _).trans (sum_shareOf hlog charge)

/-- A hire of no minutes is wholly its main centre's. -/
theorem apportion_self (charge : Nat) : apportion log i i charge = [(centreAt log i, charge)] := by
  have hshare (k : CentreId) : shareOf log i i charge k = if k = centreAt log i then charge else 0 := by
    simp [shareOf_eq, remainderOf, roundedShare, mainCentre_self, sum_ids]
  by_cases hc : charge = 0
  · subst hc
    rw [apportion_zero, mainCentre_self]
  · have honly : ((ids 16).filter fun k => shareOf log i i charge k ≠ 0) = [centreAt log i] := by
      have hbeq : (fun k => decide (shareOf log i i charge k ≠ 0)) = (· == centreAt log i) := by
        funext k
        simp [hshare, hc, beq_eq_decide]
      rw [hbeq, List.filter_beq, List.count_eq_one_of_mem nodup_ids (mem_ids _), List.replicate_one]
    rw [apportion_of_ne_zero log i i hc, honly, List.map_singleton, hshare, if_pos rfl]

end Shares

/-- Settles O34: a lawful log gives each minute one centre, so the minutes sum to the span; the rounded shares then lose
less than one cent for each centre with minutes, and the main centre takes what they leave. -/
theorem chargeSettledAndShared : Obligations.ChargeSettledAndShared := by
  constructor
  · intro f i t u deposit overdue hdep g
    have hcharge : g.charge ≤ 99999999 := figures_charge_le f i t u deposit overdue
    have hrefund : g.refund = deposit - g.charge := figures_refund f i t u deposit overdue
    have hout : g.outstanding = g.charge - deposit := figures_outstanding f i t u deposit overdue
    omega
  · intro log i t charge hlog hit shares holds counts minutes part remainder
    have hminutes (k : CentreId) : centreMinutes log i t k = minutes k := centreMinutes_eq_length hlog k
    clear_value minutes
    obtain rfl : centreMinutes log i t = minutes := funext hminutes
    refine ⟨hminutes, sum_centreMinutes hlog, fun hlt => ⟨remainderOf_lt hlog hlt charge, fun k hmax hlow => ?_⟩, ?_,
      sum_apportion i t hlog charge, apportion_ascending log i t charge, ?_, ?_⟩
    · have hmain : mainCentre log i t = k := mainCentre_of_lt hlt hmax hlow
      refine ⟨?_, fun hc j a => ?_⟩
      · rintro rfl
        rw [← hmain]
        exact apportion_zero log i t
      · rw [← hmain]
        exact mem_apportion log i t hc j a
    · rintro rfl k hin hout
      rw [← centreAt_eq hin hout]
      exact apportion_self log i charge
    · rintro hc ⟨j, a⟩ hp
      exact ((mem_apportion log i t hc j a).1 hp).1
    · rintro rfl
      exact ⟨mainCentre log i t, apportion_zero log i t⟩

end Sys2Proof.ChargeProofs

-- ==== Proofs: Meaning ====
section
/-! PROOFS. What a command can do, said once: the order's or request's verdict, the event's effect on the blocks, and
what each verdict leaves of the state. Every invariant is a case split over these. -/

namespace Sys2Proof.StepProofs

open Machine

/-! ### The three kinds of command -/

/-- The tag and the meaning of a host order. -/
def orderMeaning : Instr → Option (Tag × (State → Verdict))
  | .setChannel tag a => some (tag, setChannel a)
  | .setBooth tag a => some (tag, setBooth a)
  | .setConsole tag addr booth => some (tag, setConsole addr booth)
  | .setRelayList tag booth list => some (tag, setRelayList booth list)
  | .setTariff tag a => some (tag, setTariff a)
  | .setTariffReading tag tar => some (tag, tariffReading tar)
  | .setFleet tag a => some (tag, setFleet a)
  | .setCentre tag centre label => some (tag, setCentre centre label)
  | .setHall tag a => some (tag, setHall a)
  | .setMeter tag a => some (tag, setMeter a)
  | .setClock tag min => some (tag, setClock min)
  | .openDay tag day => some (tag, openDay day)
  | .closeDay tag => some (tag, closeDay)
  | .openSession tag centre => some (tag, openSession centre)
  | .suspendSession tag => some (tag, suspendSession)
  | .resumeSession tag => some (tag, resumeSession)
  | .endSession tag => some (tag, endSession)
  | .declareLost tag ser => some (tag, declareLost ser)
  | .markFaulty tag ser => some (tag, markFaulty ser)
  | .markRepaired tag ser => some (tag, markRepaired ser)
  | .removeReceiver tag ser => some (tag, removeReceiver ser)
  | .clearDebt tag badge => some (tag, clearDebt badge)
  | .readmitConsole tag addr => some (tag, readmitConsole addr)
  | .forceRelease tag addr => some (tag, forceRelease addr)
  | .restart tag => some (tag, restart)
  | .restartHold tag valued => some (tag, restartHold valued)
  | .readChannel tag ch => some (tag,
      hallReading fun h => (rangeOnly (needId (idFrom0 32) ch)).map fun c => .channel (h.readChannel c))
  | .readBooth tag booth => some (tag,
      hallReading fun h => (rangeOnly (needId (idFrom1 16) booth)).map fun b => .booth (h.readBooth b))
  | .readConsole tag addr => some (tag,
      hallReading fun h => (rangeOnly (needId (idFrom1 48) addr)).map fun a => .console (h.readConsole a))
  | .readCarriers tag car => some (tag, hallReading (carriersAnswer car))
  | .readEmitters tag => some (tag, hallReading fun h => .ok (.emitters ⟨h.link.slots, h.dark, h.link.sentGen⟩))
  | .readReceiver tag ser win => some (tag, hallReading (receiverAnswer ser win))
  | .readHire tag hire => some (tag, hallReading (hireAnswer hire))
  | .readBadge tag badge => some (tag, hallReading (badgeAnswer badge))
  | .readCentres tag => some (tag,
      hallReading fun h => .ok (.centres h.settings.labels h.account.balances h.account.day.total))
  | .readDay tag ch booth cons => some (tag, hallReading (dayAnswer ch booth cons))
  | .readSessions tag idx => some (tag, hallReading (sessionsAnswer idx))
  | .readMeter tag met => some (tag,
      hallReading fun h => (rangeOnly (needId (idFrom1 8) met)).map fun m => .meter (h.readMeter m))
  | .readStatus tag => some (tag, reading fun s => .ok (.status s.readStatus))
  | .readFaults tag => some (tag, reading fun s => .ok (.faults s.notice.log))
  | .readStart tag => some (tag,
      reading fun s => .ok (.start ⟨s.start, s.hall.account.day.powerUps, s.hall.clock.stale⟩))
  | .fetchNotices tag => some (tag, fetchNotices)
  | .ackCondition tag name addr => some (tag, ackCondition name addr)
  | .clearFaults tag => some (tag, clearFaults)
  | .peekSettlements tag n => some (tag, peekSettlements n)
  | .releaseSettlements tag seq => some (tag, releaseSettlements seq)
  | .clearMeter tag met => some (tag, clearMeter met)
  | _ => none

/-- The desk, the tag and the meaning of a desk request. -/
def requestMeaning : Instr → Option (DeskId × Tag × (State → Verdict))
  | .issue desk tag ser badge tar ch bat => some (desk, tag, issue desk ser badge tar ch bat)
  | .language desk tag ser ch => some (desk, tag, changeLanguage desk ser ch)
  | .returnRcv desk tag ser cond bat => some (desk, tag, returnReceiver desk ser cond bat)
  | .query desk tag ser => some (desk, tag, query ser)
  | _ => none

/-- The blocks' own meaning of an event that answers nobody. -/
def eventMeaning : Instr → Option (Hall → Hall)
  | .pollAnswer addr check keys => some (takePollAnswer addr check keys)
  | .answerWindowClose => some takeWindowEnd
  | .probeAnswer addr check keys => some (takeProbeAnswer addr check keys)
  | .probeTimerExpiry con => some (expireProbe con)
  | .goodRunExpiry con => some (takeGoodRun con)
  | .engagedFlashExpiry con => some (endFlash con)
  | .handoverTimerExpiry con => some (expireHandover con)
  | .shiftReminder con => some (takeShiftReminder con)
  | .holdExpiry car => some (expireHold car)
  | .directorySend => some takeDirectorySend
  | .emitterAnswer slot report => some (takeEmitterAnswer slot report)
  | .dueMinuteExpiry hire => some (takeDue hire)
  | .windowClose met => some (takeWindowClose met)
  | .hallMinuteRise => some riseMinute
  | _ => none

theorem exec_order {i : Instr} {tag : Tag} {f : State → Verdict} (m : orderMeaning i = some (tag, f)) (s : State) :
    exec i s = .next (hostLine tag f s) := by
  cases i <;> cases m <;> rfl

theorem exec_request {i : Instr} {d : DeskId} {tag : Tag} {f : State → Verdict}
    (m : requestMeaning i = some (d, tag, f)) (s : State) : exec i s = .next (deskLine d tag f s) := by
  cases i <;> cases m <;> rfl

theorem exec_event {i : Instr} {f : Hall → Hall} (m : eventMeaning i = some f) (s : State) :
    exec i s = .next (event f s) := by
  cases i <;> cases m <;> rfl

theorem orderMeaning_tag {i : Instr} {tag : Tag} (t : i.tag? = some tag) (d : i.desk? = none) :
    ∃ f, orderMeaning i = some (tag, f) := by
  cases i <;> cases t <;> first | exact ⟨_, rfl⟩ | cases d

theorem requestMeaning_tag {i : Instr} {tag : Tag} {d : DeskId} (t : i.tag? = some tag) (k : i.desk? = some d) :
    ∃ f, requestMeaning i = some (d, tag, f) := by
  cases i <;> cases k <;> cases t <;> exact ⟨_, rfl⟩

/-! ### Verdicts -/

/-- The state a verdict leaves. -/
def state : Verdict → State
  | .now _ s => s
  | .wait _ _ s => s

/-- The areas a verdict's own answer waits on; none where it is given at once. -/
def ownAreas : Verdict → Option AreaSet
  | .now _ _ => none
  | .wait a _ _ => some a

/-- What the meaning of an order or request comes to, with the tests it has then passed: a refusal, an OK that changes
nothing, or one operation of the blocks. -/
inductive Meant (i : Instr) (s : State) : Verdict → Prop
  | refused (c : AnswerCode) : Meant i s (refuse c s)
  | read (r : Reply) (l : List Clamp) : Meant i s (.now (.ok r l) s)
  | channel (c : ChannelId) (a : SetChannelArgs) (own : AreaSet) (r : Result)
      (ho : own = if 0 < hiresMoved c a s.hall then onlySettings.union fleetAccount else onlySettings) :
      Meant i s (.wait (gatherAsks own (applyChannel c a s.hall)).1 r
        { s with hall := (gatherAsks own (applyChannel c a s.hall)).2 })
  | booth (b : BoothId) (a : SetBoothArgs) (r : Result) :
      Meant i s (.wait onlySettings r { s with hall := applyBooth b a s.hall })
  | console (a : ConsoleId) (b : Option BoothId) (r : Result) :
      Meant i s (.wait onlySettings r { s with hall := assignConsole a b s.hall })
  | relayList (b : BoothId) (l : List ChannelId) (r : Result) :
      Meant i s (.wait onlySettings r { s with hall := applyRelayList b l s.hall })
  | tariff (t : TariffId) (new : Tariff) (r : Result) :
      Meant i s (.wait onlySettings r { s with hall := s.hall.setTariff t new })
  | window (w : WindowId) (a : SetFleetArgs) (r : Result) :
      Meant i s (.wait onlySettings r { s with hall := applyFleet w a s.hall })
  | centre (labels : Vector Text 16) (r : Result) :
      Meant i s (.wait onlySettings r { s with hall := { s.hall with settings := { s.hall.settings with labels := labels } } })
  | hall (a : SetHallArgs) (r : Result) : Meant i s (.wait onlySettings r { s with hall := applyHall a s.hall })
  | meter (m : MeterId) (a : SetMeterArgs) (r : Result) :
      Meant i s (.wait onlySettings r { s with hall := applyMeter m a s.hall })
  | clock (m : Nat) (r : Result) (back : m < s.hall.now → s.hall.fleet.hires = [] ∧ s.hall.account.log = []) :
      Meant i s (.wait onlyClock r { s with hall := takeSetClock m s.hall })
  | openDay (d : Nat) (r : Result) : Meant i s (.wait onlyAccount r { s with hall := startDay d s.hall })
  | closeDay (r : Result) (h : s.hall.account.session = .none) :
      Meant i s (.wait onlyAccount r { s with hall := endDay s.hall })
  | openSession (k : CentreId) (r : Result) (hk : k ≠ 0) (idle : s.hall.account.session = .none)
      (room : s.hall.account.log.length < 64) : Meant i s (.wait onlyAccount r { s with hall := startSession k s.hall })
  | suspend (n : Nat) (k : CentreId) (r : Result) (run : s.hall.account.session = .running n k) :
      Meant i s (.wait onlyAccount r { s with
        hall := setSession (.suspended n k) (endInterval s.hall.now s.hall.account.log) s.hall.account.lastSession s.hall })
  | resume (n : Nat) (k : CentreId) (r : Result) (held : s.hall.account.session = .suspended n k)
      (room : s.hall.account.log.length < 64) :
      Meant i s (.wait onlyAccount r { s with
        hall := setSession (.running n k) (s.hall.account.log ++ [⟨n, k, s.hall.now, none⟩]) s.hall.account.lastSession s.hall })
  | endSession (r : Result) :
      Meant i s (.wait onlyAccount r { s with
        hall := setSession .none (endInterval s.hall.now s.hall.account.log) s.hall.account.lastSession s.hall })
  | release (n : Nat) (r : Result) :
      Meant i s (.wait onlyAccount r { s with hall := { s.hall with account := { s.hall.account with
        queue := s.hall.account.queue.filter fun x => n < x.seq } } })
  | lost (k : Serial) (r : Receiver) (x : Hire) (v : Result) (hr : s.hall.receiver k = some r)
      (hx : r.state.hire?.bind s.hall.hire = some x) :
      Meant i s (.wait fleetAccount v { s with hall := (loseHire r x s.hall).1 })
  | faulty (k : Serial) (r : Receiver) (v : Result) (hr : s.hall.receiver k = some r) (st : r.state = .stock) :
      Meant i s (.wait onlyFleet v { s with hall := moveReceiver r .faulty s.hall })
  | repaired (k : Serial) (r : Receiver) (v : Result) (hr : s.hall.receiver k = some r) (st : r.state = .faulty) :
      Meant i s (.wait onlyFleet v { s with hall := moveReceiver r .stock s.hall })
  | removed (k : Serial) (r : Receiver) (v : Result) (hr : s.hall.receiver k = some r)
      (st : r.state = .stock ∨ r.state = .faulty) :
      Meant i s (.wait onlyFleet v { s with hall := lowStockTests s.hall (s.hall.dropReceiver r.serial) })
  | debt (k : Serial) (b : Badge) (v : Result) (hb : s.hall.badge k = some b) :
      Meant i s (.wait onlyFleet v { s with hall := s.hall.putBadge { b with debt := 0 } })
  | readmit (a : ConsoleId) (r : Reply) (q : s.hall.consoles[a].state = .quarantined) :
      Meant i s (.now (.ok r []) { s with hall := readmitQuarantined a s.hall })
  | force (a : ConsoleId) (r : Reply) (v : s.hall.consoles[a].state.onChannel = true ∨ s.hall.consoles[a].state = .requesting) :
      Meant i s (.now (.ok r []) { s with hall := settle (forceOff a s.hall) })
  | clearMeter (m : MeterId) (r : Reply) : Meant i s (.now (.ok r []) { s with hall := clearResults s.hall m })
  | restartNow (r : Reply) (hi : ∃ tag, i = .restart tag) (quiet : (takeDown s.hall).work.asks = []) :
      Meant i s (.now (.ok r []) (restarted (takeDown s.hall) s))
  | restartWaits (r : Result) (hi : ∃ tag, i = .restart tag) (loud : (takeDown s.hall).work.asks ≠ []) :
      Meant i s (.wait onlyAccount r (restarted (takeDown s.hall) s))
  | restartHold (r : Reply) (hi : ∃ tag v, i = .restartHold tag v) : Meant i s (.now (.ok r []) (restarted s.hall s))
  | fetched (masked : List NoticeClass) (r : Reply) :
      Meant i s (.now (.ok r []) { s with notice := { s.notice with queue := unfetched masked 8 s.notice.queue } })
  | acknowledged (n : ConditionName) (a : ConsoleId) (r : Reply) (hi : ∃ tag n x, i = .ackCondition tag n x) (e : s.notice.conds.get n a = .ended) :
      Meant i s (.now (.ok r []) { s with notice := { s.notice with conds := s.notice.conds.remove n a } })
  | faultsCleared (r : Reply) : Meant i s (.now (.ok r []) { s with notice := { s.notice with log := [] } })
  | created (ser : Serial) (r : Receiver) (h : Hall) (c : AnswerCode) (p : presented ser s.hall = .ok (r, h, true)) :
      Meant i s (.wait onlyFleet (.er c) { s with hall := lowStockTests s.hall h })
  | battery (desk : DeskId) (ser : Serial) (r : Receiver) (h : Hall) (new : Bool) (tar : TariffId) (ch : ChannelId)
      (bat : Nat) (v : Result) (p : presented ser s.hall = .ok (r, h, new)) (st : r.state = .stock) :
      Meant i s (.wait onlyFleet v { s with hall := lowStockTests s.hall (refuseBattery desk r tar ch bat h) })
  | issued (desk : DeskId) (ser badge : Serial) (r : Receiver) (h : Hall) (new : Bool) (tar : TariffId) (ch : ChannelId)
      (bat : Nat) (v : Result) (p : presented ser s.hall = .ok (r, h, new)) (st : r.state = .stock) :
      Meant i s (.wait fleetAccount v { s with hall := lowStockTests s.hall (openHire desk r badge tar ch bat h) })
  | retuned (desk : DeskId) (ser : Serial) (x : Hire) (ch : ChannelId) (v : Result) (hx : s.hall.hireOf ser = some x) :
      Meant i s (.wait onlyFleet v { s with hall := retune desk x ch s.hall })
  | found (desk : DeskId) (cond : ReturnCond) (bat : Nat) (ser : Serial) (r : Receiver) (h : Hall) (new : Bool) (v : Result)
      (p : presented ser s.hall = .ok (r, h, new)) (st : r.state = .lost) :
      Meant i s (.wait fleetAccount v { s with hall := (findReceiver desk cond bat r h).1 })
  | returned (desk : DeskId) (cond : ReturnCond) (bat : Nat) (ser : Serial) (r : Receiver) (h : Hall) (new : Bool) (n : Nat)
      (x : Hire) (v : Result) (p : presented ser s.hall = .ok (r, h, new)) (st : r.state.hire? = some n)
      (hx : h.hire n = some x) :
      Meant i s (.wait fleetAccount v { s with hall := (returnHire desk cond bat r x h).1 })

/-- The first failing test refuses; where none fails, the effect stands under the tests passed. -/
theorem meant_tested {i : Instr} {s : State} {tests : List (Bool × AnswerCode)} {v : Verdict}
    (h : (∀ x ∈ tests, x.1 = false) → Meant i s v) : Meant i s (tested tests s v) := by
  have key : firstFailing tests = none → ∀ x ∈ tests, x.1 = false := by
    clear h
    induction tests with
    | nil => simp
    | cons y l ih =>
      obtain ⟨b, c⟩ := y
      cases b <;> simp only [firstFailing] <;> simp_all
  unfold tested
  split
  · exact .refused _
  · exact h (key ‹_›)

theorem meant_reading {i : Instr} {s : State} (f : State → Except AnswerCode Reply) : Meant i s (reading f s) := by
  unfold reading
  split
  · exact .read _ _
  · exact .refused _

theorem meant_hallReading {i : Instr} {s : State} (f : Hall → Except AnswerCode Reply) : Meant i s (hallReading f s) := meant_reading _

variable {i : Instr} (s : State)

theorem meant_setChannel (a) : Meant i s (setChannel a s) := by
  unfold setChannel
  split
  · exact .refused _
  · exact meant_tested fun _ => .channel _ _ _ _ rfl

theorem meant_setBooth (a) : Meant i s (setBooth a s) := by
  unfold setBooth
  dsimp only
  split
  · exact .refused _
  · split <;> exact .refused _
  · exact meant_tested fun _ => .booth _ _ _

theorem meant_setConsole (addr booth) : Meant i s (setConsole addr booth s) := by
  unfold setConsole
  dsimp only
  split
  · exact .refused _
  · split <;> exact .refused _
  · refine meant_tested fun _ => ?_
    split
    · exact .read _ _
    · exact .console _ _ _

theorem meant_setRelayList (booth list) : Meant i s (setRelayList booth list s) := by
  unfold setRelayList
  dsimp only
  split
  · exact .refused _
  · split <;> exact .refused _
  · refine meant_tested fun _ => ?_
    split
    · exact .read _ _
    · exact .relayList _ _ _

theorem meant_setTariff (a) : Meant i s (setTariff a s) := by
  unfold setTariff
  split
  · exact meant_reading _
  · split
    · exact .refused _
    · refine meant_tested fun _ => ?_
      split
      · exact .read _ _
      · exact .tariff _ _ _

theorem meant_setFleet (a) : Meant i s (setFleet a s) := by
  unfold setFleet
  split
  · exact .refused _
  · exact meant_tested fun _ => .window _ _ _

theorem meant_setCentre (k l) : Meant i s (setCentre k l s) := by
  unfold setCentre
  split
  · exact .refused _
  · exact meant_tested fun _ => .centre _ _

theorem meant_setHall (a) : Meant i s (setHall a s) := meant_tested fun _ => .hall _ _

theorem meant_setMeter (a) : Meant i s (setMeter a s) := by
  unfold setMeter
  dsimp only
  split
  · exact .refused _
  · split <;> exact .refused _
  · exact meant_tested fun _ => .meter _ _ _

theorem meant_setClock (m) : Meant i s (setClock m s) := by
  unfold setClock
  split
  · exact .refused _
  · exact .refused _
  · refine meant_tested fun t => .clock _ _ fun lt => ?_
    simpa [lt] using t _ (.tail _ (.tail _ (.head _)))

theorem meant_openDay (d) : Meant i s (openDay d s) := by
  unfold openDay
  split
  · exact .refused _
  · exact meant_tested fun _ => .openDay _ _

theorem meant_closeDay : Meant i s (closeDay s) :=
  meant_tested fun t => .closeDay _ (by simpa using t _ (.tail _ (.tail _ (.head _))))

/-- A number from 1 to 15 is a centre other than 0. -/
theorem centre_ne_zero {x : Arg Nat} {n : Nat} (h : needNat 1 15 x = .ok n) : Fin.ofNat 16 n ≠ 0 := by
  unfold needNat at h
  split at h <;> try cases h
  split at h <;> cases h
  intro e
  have := congrArg Fin.val e
  simp at this
  omega

theorem meant_openSession (k) : Meant i s (openSession k s) := by
  unfold openSession
  split
  · exact .refused _
  · refine meant_tested fun t => .openSession _ _ (centre_ne_zero ‹_›) ?_ ?_
    · simpa using (Bool.or_eq_false_iff.mp (t _ (.tail _ (.head _)))).2
    · simpa [Hall.logFull] using t _ (.tail _ (.tail _ (.head _)))

theorem meant_suspendSession : Meant i s (suspendSession s) := by
  unfold suspendSession
  dsimp only
  split
  · exact .refused _
  · split
    · exact .suspend _ _ _ ‹_›
    · exact .refused _

theorem meant_resumeSession : Meant i s (resumeSession s) := by
  unfold resumeSession
  dsimp only
  split
  · exact .refused _
  · split
    · split
      · exact .refused _
      · exact .resume _ _ _ ‹_› (by simp_all [Hall.logFull])
    · exact .refused _

theorem meant_endSession : Meant i s (endSession s) := by
  unfold endSession
  dsimp only
  split
  · exact .refused _
  · split
    · exact .refused _
    · exact .endSession _

theorem meant_releaseSettlements (n) : Meant i s (releaseSettlements n s) := by
  unfold releaseSettlements
  split
  · exact .refused _
  · exact .refused _
  · refine meant_tested fun _ => ?_
    split
    · exact .read _ _
    · exact .release _ _

theorem meant_onReceiver (ser : Arg Nat) (act : Receiver → Verdict)
    (h : ∀ k r, s.hall.receiver k = some r → Meant i s (act r)) : Meant i s (onReceiver ser s act) := by
  unfold onReceiver
  split
  · exact .refused _
  · split
    · exact .refused _
    · split
      · exact .refused _
      · exact h _ _ ‹_›

theorem meant_declareLost (ser) : Meant i s (declareLost ser s) := by
  refine meant_onReceiver s ser _ fun k r hr => ?_
  split
  · exact .refused _
  · exact .lost k r _ _ hr ‹_›

theorem meant_markFaulty (ser) : Meant i s (markFaulty ser s) := by
  refine meant_onReceiver s ser _ fun k r hr => ?_
  split
  · exact .faulty k r _ hr ‹_›
  · exact .refused _

theorem meant_markRepaired (ser) : Meant i s (markRepaired ser s) := by
  refine meant_onReceiver s ser _ fun k r hr => ?_
  split
  · exact .repaired k r _ hr ‹_›
  · exact .refused _

theorem meant_removeReceiver (ser) : Meant i s (removeReceiver ser s) := by
  refine meant_onReceiver s ser _ fun k r hr => ?_
  split
  · exact .removed k r _ hr ‹_›
  · exact .refused _

theorem meant_clearDebt (b) : Meant i s (clearDebt b s) := by
  unfold clearDebt
  split
  · exact .refused _
  · split
    · exact .refused _
    · split
      · exact .refused _
      · exact .debt _ _ _ ‹_›

theorem meant_readmitConsole (a) : Meant i s (readmitConsole a s) := by
  unfold readmitConsole
  split
  · exact .refused _
  · split
    · exact .readmit _ _ ‹_›
    · exact .refused _

theorem meant_forceRelease (a) : Meant i s (forceRelease a s) := by
  unfold forceRelease
  dsimp only
  split
  · exact .refused _
  · split
    · exact .force _ _ ‹_›
    · exact .refused _

theorem meant_clearMeter (m) : Meant i s (clearMeter m s) := by
  unfold clearMeter
  split
  · exact .refused _
  · exact .clearMeter _ _

theorem meant_restart (hi : ∃ tag, i = .restart tag) : Meant i s (restart s) := by
  unfold restart
  dsimp only
  split
  · exact .refused _
  · split
    · exact .restartNow _ hi ‹_›
    · exact .restartWaits _ hi ‹_›

theorem meant_restartHold (v) (hi : ∃ tag v, i = .restartHold tag v) : Meant i s (restartHold v s) :=
  meant_tested fun _ => .restartHold _ hi

theorem meant_acknowledge (n a) (hi : ∃ tag n x, i = .ackCondition tag n x) : Meant i s (acknowledge n a s) := by
  unfold acknowledge
  split
  · exact .refused _
  · exact .refused _
  · exact .acknowledged _ _ _ hi ‹_›

theorem meant_ackCondition (n a) (hi : ∃ tag n x, i = .ackCondition tag n x) : Meant i s (ackCondition n a s) := by
  unfold ackCondition
  split
  · exact .refused _
  · split
    · split
      · exact meant_acknowledge s _ _ hi
      · exact .refused _
    · exact meant_acknowledge s _ _ hi
    · exact .refused _

theorem meant_refusePresented {ser : Serial} {r : Receiver} {h : Hall} {new : Bool} (c)
    (p : presented ser s.hall = .ok (r, h, new)) : Meant i s (refusePresented c new s.hall h s) := by
  unfold refusePresented
  cases new with
  | true => exact .created _ _ _ _ p
  | false => exact .refused _

theorem meant_issue (desk ser badge tar ch bat) : Meant i s (issue desk ser badge tar ch bat s) := by
  unfold issue
  dsimp only
  split
  · exact .refused _
  · split
    · exact .refused _
    · split
      · exact .refused _
      · next r h new p =>
        split
        · exact meant_refusePresented s _ p
        · next st =>
          have st : r.state = .stock := not_not.mp st
          split
          · exact .battery _ _ _ _ _ _ _ _ _ p st
          · split
            · exact meant_refusePresented s _ p
            · exact .issued _ _ _ _ _ _ _ _ _ _ p st

theorem meant_changeLanguage (desk ser ch) : Meant i s (changeLanguage desk ser ch s) := by
  unfold changeLanguage
  split
  · exact .refused _
  · split
    · exact .refused _
    · split
      · exact .refused _
      · split
        · exact .read _ _
        · exact .retuned _ _ _ _ _ ‹_›

theorem meant_returnReceiver (desk ser cond bat) : Meant i s (returnReceiver desk ser cond bat s) := by
  unfold returnReceiver
  dsimp only
  split
  · exact .refused _
  · split
    · exact .refused _
    · next r h new p =>
      split
      · exact meant_refusePresented s _ p
      · exact meant_refusePresented s _ p
      · exact .found _ _ _ _ _ _ _ _ p ‹_›
      all_goals
        next e =>
          split
          · exact .refused _
          · exact .returned _ _ _ _ _ _ _ _ _ _ p (by rw [e]; rfl) ‹_›

/-- The verdict of every host order is one of `Meant`. -/
theorem meant_order {tag : Tag} {f : State → Verdict} (m : orderMeaning i = some (tag, f)) : Meant i s (f s) := by
  cases i <;> cases m
  case setChannel => exact meant_setChannel s _
  case setBooth => exact meant_setBooth s _
  case setConsole => exact meant_setConsole s _ _
  case setRelayList => exact meant_setRelayList s _ _
  case setTariff => exact meant_setTariff s _
  case setTariffReading => exact meant_reading _
  case setFleet => exact meant_setFleet s _
  case setCentre => exact meant_setCentre s _ _
  case setHall => exact meant_setHall s _
  case setMeter => exact meant_setMeter s _
  case setClock => exact meant_setClock s _
  case openDay => exact meant_openDay s _
  case closeDay => exact meant_closeDay s
  case openSession => exact meant_openSession s _
  case suspendSession => exact meant_suspendSession s
  case resumeSession => exact meant_resumeSession s
  case endSession => exact meant_endSession s
  case declareLost => exact meant_declareLost s _
  case markFaulty => exact meant_markFaulty s _
  case markRepaired => exact meant_markRepaired s _
  case removeReceiver => exact meant_removeReceiver s _
  case clearDebt => exact meant_clearDebt s _
  case readmitConsole => exact meant_readmitConsole s _
  case forceRelease => exact meant_forceRelease s _
  case restart => exact meant_restart s ⟨_, rfl⟩
  case restartHold => exact meant_restartHold s _ ⟨_, _, rfl⟩
  case fetchNotices => exact .fetched _ _
  case ackCondition => exact meant_ackCondition s _ _ ⟨_, _, _, rfl⟩
  case clearFaults => exact .faultsCleared _
  case peekSettlements => exact meant_reading _
  case releaseSettlements => exact meant_releaseSettlements s _
  case clearMeter => exact meant_clearMeter s _
  case readStatus | readFaults | readStart => exact meant_reading _
  all_goals exact meant_hallReading _

/-- The verdict of every desk request is one of `Meant`. -/
theorem meant_request {d : DeskId} {tag : Tag} {f : State → Verdict}
    (m : requestMeaning i = some (d, tag, f)) : Meant i s (f s) := by
  cases i <;> cases m
  case issue => exact meant_issue s _ _ _ _ _ _
  case language => exact meant_changeLanguage s _ _ _
  case returnRcv => exact meant_returnReceiver s _ _ _ _
  case query => exact meant_reading _

end Sys2Proof.StepProofs
end

-- ==== Proofs: Ran ====
section
/-! PROOFS. One step, as the state it leaves: an inversion of `exec` into a dozen shapes, the parts of the state that
each shape moves, and the statements about the machine that follow from the shape alone. -/

namespace Sys2Proof.StepProofs

open Machine

/-! ### What sending an answer, marking a port and serving a waiter leave alone -/

section
variable (s : State)

theorem markBusy_frame (w : Waiter) : markBusy s w =
    { s with port := (markBusy s w).port, desks := (markBusy s w).desks } := by cases w <;> rfl

theorem markOwn_frame (own) : markOwn own s =
    { s with port := (markOwn own s).port, desks := (markOwn own s).desks } := by
  cases own with
  | none => rfl
  | some p => exact markBusy_frame s _

/-- Serving what waited on a write moves ports, answers and the assembling of lines alone. -/
theorem serveWaiter_frame (w : Waiter) : serveWaiter s w =
    { s with
      port := (serveWaiter s w).port
      desks := (serveWaiter s w).desks
      listening := (serveWaiter s w).listening
      out := (serveWaiter s w).out } := by cases w <;> rfl

theorem serveWaiters_frame (ws : List Waiter) : ws.foldl serveWaiter s =
    { s with
      port := (ws.foldl serveWaiter s).port
      desks := (ws.foldl serveWaiter s).desks
      listening := (ws.foldl serveWaiter s).listening
      out := (ws.foldl serveWaiter s).out } := by
  induction ws generalizing s with
  | nil => rfl
  | cons w ws ih =>
    rw [List.foldl_cons, ih, serveWaiter_frame]

@[simp] theorem serveWaiters_hall (ws : List Waiter) : (ws.foldl serveWaiter s).hall = s.hall := by
  rw [serveWaiters_frame]
@[simp] theorem serveWaiters_notice (ws : List Waiter) : (ws.foldl serveWaiter s).notice = s.notice := by
  rw [serveWaiters_frame]
@[simp] theorem serveWaiters_resetn (ws : List Waiter) : (ws.foldl serveWaiter s).resetn = s.resetn := by
  rw [serveWaiters_frame]

@[simp] theorem finish_store (own) : (finish own s).store =
    beginWrite s.hall (placeWrites own s.hall.work.asks s.store) := by
  unfold finish
  rw [markOwn_frame]

@[simp] theorem finish_resetn (own) : (finish own s).resetn = s.resetn := by
  unfold finish
  rw [markOwn_frame]

@[simp] theorem finish_out (own) : (finish own s).out = s.out := by
  unfold finish
  rw [markOwn_frame]

end

/-! ### The end of an event, and the conclusion of an order or request -/

/-- The write an answer waits on, with the answer. -/
def ownWrite (w : Result → Waiter) : Verdict → Option (AreaSet × Waiter)
  | .now _ _ => none
  | .wait a r _ => some (a, w r)

/-- A conclusion sends at most the verdict's own answer, behind the end of the event. -/
theorem concludeHost_eq (tag : Tag) (v : Verdict) :
    concludeHost tag v = finish (ownWrite (.host tag) v) (state v) ∨
      ∃ r, v = .now r (state v) ∧
        concludeHost tag v = sendHost tag r (finish (ownWrite (.host tag) v) (state v)) := by
  cases v with
  | now r s => exact .inr ⟨r, rfl, rfl⟩
  | wait a r s => exact .inl rfl

theorem concludeDesk_eq (d : DeskId) (tag : Tag) (v : Verdict) :
    concludeDesk d tag v = finish (ownWrite (.desk d tag) v) (state v) ∨
      ∃ r, v = .now r (state v) ∧
        concludeDesk d tag v = sendDesk d tag r (finish (ownWrite (.desk d tag) v) (state v)) := by
  cases v with
  | now r s => exact .inr ⟨r, rfl, rfl⟩
  | wait a r s => exact .inl rfl

/-- `t` stands behind the end of an event that left the state as `s`, with `own` as its own write: it differs by the
sending of one answer at most. -/
structure Ended (own : Option (AreaSet × Waiter)) (s t : State) : Prop where
  hall   : t.hall = s.hall.rested
  notice : t.notice = noticeEnd s.hall s.store.failed s.notice
  store  : t.store = beginWrite s.hall (placeWrites own s.hall.work.asks s.store)
  resetn : t.resetn = s.resetn

theorem ended_finish (own) (s : State) : Ended own s (finish own s) :=
  ⟨finish_hall own s, finish_notice own s, finish_store s own, finish_resetn s own⟩

theorem ended_host (tag : Tag) (v : Verdict) : Ended (ownWrite (.host tag) v) (state v) (concludeHost tag v) := by
  have e := ended_finish (ownWrite (.host tag) v) (state v)
  rcases concludeHost_eq tag v with h | ⟨r, -, h⟩ <;> rw [h]
  · exact e
  · exact ⟨e.hall, e.notice, e.store, e.resetn⟩

theorem ended_desk (d : DeskId) (tag : Tag) (v : Verdict) :
    Ended (ownWrite (.desk d tag) v) (state v) (concludeDesk d tag v) := by
  have e := ended_finish (ownWrite (.desk d tag) v) (state v)
  rcases concludeDesk_eq d tag v with h | ⟨r, -, h⟩ <;> rw [h]
  · exact e
  · exact ⟨e.hall, e.notice, e.store, e.resetn⟩

/-! ### The shapes of a command's effect -/

/-- The blocks before a completion's own event: the failures logged, and the write's result taken by the store. -/
def completed (w : CurrentWrite) (bad : AreaSet) (s : State) : State :=
  { w.waiters.foldl serveWaiter s with
    hall := logNotTaken .storeWrite (w.areas.inter bad) s.hall
    store := completeWrite w bad s.hall.tenths s.store }

/-- The state a due rewrite leaves for the end of its event. -/
def rewritten (a : Area) (s : State) : State :=
  { s with store := { s.store with
      rewrite := s.store.rewrite.set a none
      writes := s.store.writes ++ [⟨AreaSet.single a, []⟩] } }

/-- The state the power-fail warning leaves for the end of its event. -/
def warned (s : State) : State := { s with pfw := true, hall := (bringUpSpells s.hall).ask onlyAccount }

/-- The store at RESETn: the write in progress completes with every area taken, and the list is dropped. -/
def resetStore (w : CurrentWrite) (s : State) : Store :=
  completeWrite w AreaSet.none s.hall.tenths { s.store with writes := [] }

/-- The state RESETn leaves where a write was in progress. -/
def resetTaken (w : CurrentWrite) (s : State) : State :=
  { w.waiters.foldl serveWaiter { s with resetn := true, store := { s.store with writes := [] } } with
    store := resetStore w s
    notice := noticeEnd s.hall (resetStore w s).failed s.notice }

/-- The content of the store that a start-up finds good (R174). -/
def goodContent (bad : AreaSet) (s : State) : Content := s.store.held.spoil bad

/-- The fleet a start-up loads. -/
def loadedFleet (bad : AreaSet) (s : State) : Fleet := (goodContent bad s).fleet.getD Fleet.default

/-- The account a start-up loads, with the day-0 decision and the power-up count. -/
def loadedAccount (bad : AreaSet) (s : State) : Account :=
  ((goodContent bad s).account.getD Account.default).poweredUp (dayZero bad (loadedFleet bad s))

/-- The stamps that bound a start-up's resume minute. -/
def loadedStamps (bad : AreaSet) (s : State) : List Nat := resumeStamps (loadedFleet bad s) (loadedAccount bad s).log

/-- The blocks as a start-up loads them, before the rebuild. -/
def loadedHall (bad : AreaSet) (s : State) : Hall :=
  loaded ((goodContent bad s).settings.getD Settings.default) (loadedFleet bad s) (loadedAccount bad s)
    (resumeMinute (goodContent bad s).clock (loadedStamps bad s)) s.hall.free

/-- The loaded blocks with the STORE_BAD entries made. -/
def checkedHall (bad : AreaSet) (s : State) : Hall :=
  allAreas.foldl (fun h a => if bad.has a then h.logFault .storeBad a.number else h) (loadedHall bad s)

/-- The state a start-up leaves for the end of its event. -/
def startState (bad : AreaSet) (s : State) : State :=
  { s with
    hall := rebuild bad (checkedHall bad s)
    notice := ⟨[], Conditions.none, [], false⟩
    store := ⟨goodContent bad s, none, [], bad, ⟨none, none, none, none⟩⟩
    port := LinePort.idle
    desks := Vector.replicate 4 LinePort.idle
    listening := false
    resetn := false
    start := startReport bad (goodContent bad s).clock (loadedStamps bad s) (loadedHall bad s)
      (rebuild bad (checkedHall bad s)) }

/-- The write a start-up's end waits on. -/
def startWrite (bad : AreaSet) (s : State) : Option (AreaSet × Waiter) :=
  some (bad.union (changedAreas bad (loadedHall bad s) (rebuild bad (checkedHall bad s))), .startUp)

theorem startWith_eq (bad : AreaSet) (s : State) : startWith bad s = finish (startWrite bad s) (startState bad s) := rfl

/-- The areas a start-up finds bad. -/
def badAt (cause : StartCause) (damaged : AreaSet) (s : State) : AreaSet :=
  badAreas s.store.held (damaged.union (cutShort cause s.store))

/-- The command is a line: an order, a request, or a line that is refused. -/
def isLine : Instr → Bool
  | .lineRefused _ | .deskLineRefused _ _ => true
  | i => i.tag?.isSome

theorem isLine_order {i : Instr} {tag f} (m : orderMeaning i = some (tag, f)) : isLine i = true := by
  cases i <;> cases m <;> rfl

theorem isLine_request {i : Instr} {d tag f} (m : requestMeaning i = some (d, tag, f)) : isLine i = true := by
  cases i <;> cases m <;> rfl

section
variable (s : State)

@[simp] theorem completed_hall (w bad) : (completed w bad s).hall = logNotTaken .storeWrite (w.areas.inter bad) s.hall := by
  dsimp only [completed]
@[simp] theorem completed_notice (w bad) : (completed w bad s).notice = s.notice := by
  dsimp only [completed]; exact serveWaiters_notice s _
@[simp] theorem completed_store (w bad) : (completed w bad s).store = completeWrite w bad s.hall.tenths s.store := by
  dsimp only [completed]
@[simp] theorem completed_out (w bad) : (completed w bad s).out = (w.waiters.foldl serveWaiter s).out := by
  dsimp only [completed]

@[simp] theorem rewritten_hall (a) : (rewritten a s).hall = s.hall := by dsimp only [rewritten]
@[simp] theorem rewritten_notice (a) : (rewritten a s).notice = s.notice := by dsimp only [rewritten]
@[simp] theorem rewritten_out (a) : (rewritten a s).out = s.out := by dsimp only [rewritten]

@[simp] theorem warned_hall : (warned s).hall = (bringUpSpells s.hall).ask onlyAccount := by dsimp only [warned]
@[simp] theorem warned_notice : (warned s).notice = s.notice := by dsimp only [warned]
@[simp] theorem warned_store : (warned s).store = s.store := by dsimp only [warned]
@[simp] theorem warned_out : (warned s).out = s.out := by dsimp only [warned]

@[simp] theorem resetTaken_hall (w) : (resetTaken w s).hall = s.hall := by
  dsimp only [resetTaken]; exact serveWaiters_hall _ _
@[simp] theorem resetTaken_notice (w) : (resetTaken w s).notice = noticeEnd s.hall (resetStore w s).failed s.notice := by
  dsimp only [resetTaken]
@[simp] theorem resetTaken_store (w) : (resetTaken w s).store = resetStore w s := by
  dsimp only [resetTaken]
@[simp] theorem resetTaken_resetn (w) : (resetTaken w s).resetn = true := by
  dsimp only [resetTaken]; exact serveWaiters_resetn _ _
@[simp] theorem resetTaken_out (w) : (resetTaken w s).out =
    (w.waiters.foldl serveWaiter { s with resetn := true, store := { s.store with writes := [] } }).out := by
  dsimp only [resetTaken]

@[simp] theorem startState_hall (bad) : (startState bad s).hall = rebuild bad (checkedHall bad s) := by
  dsimp only [startState]
@[simp] theorem startState_notice (bad) : (startState bad s).notice = ⟨[], Conditions.none, [], false⟩ := by
  dsimp only [startState]
@[simp] theorem startState_store (bad) : (startState bad s).store =
    ⟨goodContent bad s, none, [], bad, ⟨none, none, none, none⟩⟩ := by
  dsimp only [startState]
@[simp] theorem startState_out (bad) : (startState bad s).out = s.out := by
  dsimp only [startState]

@[simp] theorem restarted_hall (h) : (restarted h s).hall =
    takeDueExpiries { h with work := { h.work with posts := [] } } := by dsimp only [restarted]
@[simp] theorem restarted_out (h) : (restarted h s).out = s.out := by dsimp only [restarted]

end

/-- What a command leaves of the state: nothing taken, an overrun mark, the end of an event, or an input's own effect. -/
inductive Ran (i : Instr) (s : State) : State → Prop
  | ignored : Ran i s s.opened
  | overrun (r : s.resetn = false) : Ran i s { s.opened with port := { s.port with overrun := true } }
  | deskOverrun (d : DeskId) (r : s.resetn = false) :
      Ran i s { s.opened with desks := vmod s.desks d fun p => { p with overrun := true } }
  | order (tag : Tag) (v : Verdict) (l : isLine i = true) (r : s.resetn = false) (m : Meant i s.opened v) :
      Ran i s (concludeHost tag v)
  | request (d : DeskId) (tag : Tag) (v : Verdict) (l : isLine i = true) (r : s.resetn = false) (m : Meant i s.opened v) :
      Ran i s (concludeDesk d tag v)
  | event (f : Hall → Hall) (m : eventMeaning i = some f) (r : s.resetn = false) :
      Ran i s (finish none { s.opened with hall := f s.hall })
  | completion (bad : AreaSet) (w : CurrentWrite) (hi : i = .writeCompletion bad) (r : s.resetn = false)
      (hw : s.store.current = some w) : Ran i s (finish none (completed w bad s.opened))
  | rewrite (a : Area) (hi : i = .areaRewrite a) (r : s.resetn = false) : Ran i s (finish none (rewritten a s.opened))
  | pfwLevel (hi : i.isInput = true) (b : Bool) : Ran i s { s.opened with pfw := b }
  | pfwAsserted (hi : i = .pfwnAssertion) (r : s.resetn = false) : Ran i s (finish none (warned s.opened))
  | resetIdle (hi : i = .resetnAssertion) (hw : s.store.current = none) :
      Ran i s { s.opened with resetn := true, store := { s.store with writes := [] } }
  | resetWrites (hi : i = .resetnAssertion) (r : s.resetn = false) (w : CurrentWrite) (hw : s.store.current = some w) :
      Ran i s (resetTaken w s.opened)
  | started (cause : StartCause) (damaged : AreaSet) (hi : i = .startUp cause damaged) :
      Ran i s (finish (startWrite (badAt cause damaged s) s.opened) (startState (badAt cause damaged s) s.opened))

section
variable {i : Instr} {s : State}

/-- A host line runs into one of the first four shapes. -/
theorem ran_hostLine (tag : Tag) (f : State → Verdict) (l : isLine i = true) (m : Meant i s.opened (f s.opened)) :
    Ran i s (hostLine tag f s) := by
  unfold hostLine
  dsimp only
  split
  · exact .ignored
  · next h =>
    have r : s.resetn = false := by simp_all
    split
    · exact .overrun r
    · exact .order tag _ l r m

theorem ran_deskLine (d : DeskId) (tag : Tag) (f : State → Verdict) (l : isLine i = true)
    (m : Meant i s.opened (f s.opened)) : Ran i s (deskLine d tag f s) := by
  unfold deskLine
  dsimp only
  split
  · exact .ignored
  · next h =>
    have r : s.resetn = false := by simp_all
    split
    · exact .deskOverrun d r
    · exact .request d tag _ l r m

theorem ran_refuseLine (line : Text) : Ran (.lineRefused line) s (refuseLine line s) := by
  unfold refuseLine
  split
  · exact ran_hostLine _ _ rfl (.refused _)
  · exact .ignored

theorem ran_refuseDeskLine (d : DeskId) (line : Text) : Ran (.deskLineRefused d line) s (refuseDeskLine d line s) := by
  unfold refuseDeskLine
  split
  · exact ran_deskLine _ _ _ rfl (.refused _)
  · split
    · exact ran_deskLine _ _ _ rfl (.refused _)
    · exact .ignored
  · exact .ignored

theorem ran_discardLine : Ran i s (discardLine s) := by
  unfold discardLine
  dsimp only
  split
  · exact .ignored
  · exact .overrun (by simp_all)

theorem ran_discardDeskLine (d : DeskId) : Ran i s (discardDeskLine d s) := by
  unfold discardDeskLine
  dsimp only
  split
  · exact .ignored
  · exact .deskOverrun d (by simp_all)

theorem ran_event (f : Hall → Hall) (m : eventMeaning i = some f) : Ran i s (event f s) := by
  cases r : s.resetn with
  | true => rw [event_reset f r]; exact .ignored
  | false => rw [event_taken f r]; exact .event f m r

theorem ran_completion (bad : AreaSet) :
    Ran (.writeCompletion bad) s (if s.resetn then s.opened else completion bad s.opened) := by
  split
  · exact .ignored
  · unfold completion
    split
    · exact .ignored
    · exact .completion bad _ rfl (by simp_all) ‹_›

theorem ran_rewrite (a : Area) : Ran (.areaRewrite a) s (if s.resetn then s.opened else rewriteArea a s.opened) := by
  split
  · exact .ignored
  · unfold rewriteArea
    split
    · exact .rewrite a rfl (by simp_all)
    · exact .ignored

theorem ran_assertPfw : Ran .pfwnAssertion s (assertPfw s.opened) := by
  unfold assertPfw
  split
  · exact .ignored
  · split
    · exact .pfwLevel rfl true
    · exact .pfwAsserted rfl (by simp_all)

theorem ran_assertReset : Ran .resetnAssertion s (assertReset s.opened) := by
  unfold assertReset
  split
  · exact .ignored
  · dsimp only
    split
    · exact .resetIdle rfl ‹_›
    · exact .resetWrites rfl (by simp_all) _ ‹_›

/-- Every command has one of the shapes. -/
theorem ran_of_exec {t : State} (e : exec i s = .next t) : Ran i s t := by
  have order {tag f} (m : orderMeaning i = some (tag, f)) : Ran i s t := by
    obtain rfl := Host.Outcome.next.inj ((exec_order m s).symm.trans e)
    exact ran_hostLine tag f (isLine_order m) (meant_order _ m)
  have request {d tag f} (m : requestMeaning i = some (d, tag, f)) : Ran i s t := by
    obtain rfl := Host.Outcome.next.inj ((exec_request m s).symm.trans e)
    exact ran_deskLine d tag f (isLine_request m) (meant_request _ m)
  have event {f} (m : eventMeaning i = some f) : Ran i s t := by
    obtain rfl := Host.Outcome.next.inj ((exec_event m s).symm.trans e)
    exact ran_event f m
  cases i
  case lineRefused => cases e; exact ran_refuseLine _
  case lineDiscarded => cases e; exact ran_discardLine
  case deskLineRefused => cases e; exact ran_refuseDeskLine _ _
  case deskLineDiscarded => cases e; exact ran_discardDeskLine _
  case writeCompletion => cases e; exact ran_completion _
  case areaRewrite => cases e; exact ran_rewrite _
  case pfwnAssertion => cases e; exact ran_assertPfw
  case pfwnRelease => cases e; exact .pfwLevel rfl false
  case resetnAssertion => cases e; exact ran_assertReset
  case startUp =>
    replace e : execStartUp _ _ s = .next t := e
    unfold execStartUp at e
    split at e
    · exact Host.Outcome.next.inj e ▸ .ignored
    · rw [startWith_eq] at e
      exact Host.Outcome.next.inj e ▸ .started _ _ rfl
  case issue | language | returnRcv | query => exact request rfl
  case pollAnswer | answerWindowClose | probeAnswer | probeTimerExpiry | goodRunExpiry | engagedFlashExpiry
     | handoverTimerExpiry | shiftReminder | holdExpiry | directorySend | emitterAnswer | dueMinuteExpiry | windowClose
     | hallMinuteRise => exact event rfl
  all_goals exact order rfl

end

/-! ### One step -/

/-- Settles O1: the queue's front is matched first. -/
theorem stepRunsFront : Obligations.StepRunsFront := by
  intro c rest s h
  simp only [step, h]

/-- A step is a command's effect on the state with the queue's rest, or a tick. -/
theorem step_cases {s t : State} (e : step s = .next t) :
    (∃ i rest, s.pending = i :: rest ∧ Ran i { s with pending := rest } t) ∨ (s.pending = [] ∧ t = s.tick) := by
  cases h : s.pending with
  | nil => simp only [step, h] at e; cases e; exact .inr ⟨rfl, rfl⟩
  | cons i rest =>
    rw [stepRunsFront i rest s h] at e
    exact .inl ⟨i, rest, rfl, ran_of_exec e⟩

/-- A tick leaves everything but the timebase, the answers and the queue of commands. -/
theorem tick_frame (s : State) : ∃ n, s.tick =
    { s with hall := { s.hall with clock := { s.hall.clock with ticks := n } }, out := [], pending := s.tick.pending } := by
  unfold State.tick
  dsimp only
  split
  · exact ⟨s.hall.clock.ticks, rfl⟩
  · exact ⟨s.hall.clock.ticks + 1, rfl⟩

end Sys2Proof.StepProofs
end

-- ==== Proofs: Machine ====
section
/-! PROOFS. The statements about the machine that follow from the shape of a step: sound states, ATTN, conditions,
commands not taken, refusals, and the passing of time. -/

namespace Sys2Proof.StepProofs

open Machine

/-! ### The bus's choice at the end of an event -/

/-- The bus's choice moves the bus and one console's probe mark alone. -/
theorem chooseExchange_frame (h : Hall) : chooseExchange h =
    { h with bus := (chooseExchange h).bus, consoles := (chooseExchange h).consoles } := by
  unfold chooseExchange
  split
  · rfl
  · split
    · rfl
    · split <;> rfl

theorem chooseExchange_state (h : Hall) (a : ConsoleId) : (chooseExchange h).consoles[a].state = h.consoles[a].state := by
  unfold chooseExchange
  split
  · rfl
  · split
    · exact vmod_keeps ConsoleRun.state _ _ _ _ fun _ => rfl
    · split <;> rfl

theorem rested_frame (h : Hall) : h.rested =
    { h with bus := h.rested.bus, consoles := h.rested.consoles, work := EventWork.empty } := by
  unfold Hall.rested
  rw [chooseExchange_frame]

@[simp] theorem rested_settings (h : Hall) : h.rested.settings = h.settings := by rw [rested_frame]
@[simp] theorem rested_fleet (h : Hall) : h.rested.fleet = h.fleet := by rw [rested_frame]
@[simp] theorem rested_account (h : Hall) : h.rested.account = h.account := by rw [rested_frame]
@[simp] theorem rested_clock (h : Hall) : h.rested.clock = h.clock := by rw [rested_frame]
@[simp] theorem rested_channels (h : Hall) : h.rested.channels = h.channels := by rw [rested_frame]
@[simp] theorem rested_air (h : Hall) : h.rested.air = h.air := by rw [rested_frame]
@[simp] theorem rested_link (h : Hall) : h.rested.link = h.link := by rw [rested_frame]
@[simp] theorem rested_state (h : Hall) (a : ConsoleId) : h.rested.consoles[a].state = h.consoles[a].state :=
  chooseExchange_state h a

/-! ### Sound states -/

theorem ended_sound {own} {s t : State} (e : Ended own s t) (b : s.notice.bounded) : t.sound := by
  obtain ⟨bounded, attn, rest⟩ := finish_sound own b
  refine ⟨?_, ?_, ?_⟩
  · rw [e.notice, ← finish_notice own s]; exact bounded
  · rw [State.attnAgrees, e.notice, e.hall, ← finish_notice own s, ← finish_hall own s]; exact attn
  · rw [State.atRest, e.hall]; rfl

/-- No verdict takes the notice unit past its bounds: FETCH, RESTART and CLEAR FAULTS only shorten it. -/
theorem meant_bounded {i : Instr} {s : State} {v : Verdict} (m : Meant i s v) (b : s.notice.bounded) :
    (state v).notice.bounded := by
  obtain ⟨queue, log⟩ := b
  cases m
  case fetched => exact ⟨(unfetched_length _ _ _).trans queue, log⟩
  case faultsCleared => exact ⟨queue, Nat.zero_le _⟩
  case restartNow | restartWaits | restartHold => exact ⟨Nat.zero_le _, log⟩
  all_goals exact ⟨queue, log⟩

/-- Settles O4: the end of every event leaves a sound state of a bounded notice unit, and the few commands that end no
event touch neither the notice unit nor the work. -/
theorem stepKeepsSound : Obligations.StepKeepsSound := by
  intro s t h e
  rcases step_cases e with ⟨i, rest, -, r⟩ | ⟨-, rfl⟩
  · cases r
    case ignored | overrun | deskOverrun | pfwLevel | resetIdle => exact h
    case order tag v l r m => exact ended_sound (ended_host tag v) (meant_bounded m h.1)
    case request d tag v l r m => exact ended_sound (ended_desk d tag v) (meant_bounded m h.1)
    case event => exact ended_sound (ended_finish _ _) h.1
    case rewrite => exact ended_sound (ended_finish _ _) ((rewritten_notice _ _).symm ▸ h.1)
    case pfwAsserted => exact ended_sound (ended_finish _ _) ((warned_notice _).symm ▸ h.1)
    case completion => exact ended_sound (ended_finish _ _) ((completed_notice _ _ _).symm ▸ h.1)
    case resetWrites =>
      refine ⟨(resetTaken_notice _ _).symm ▸ noticeEnd_bounded _ _ h.1, ?_, ?_⟩
      · rw [State.attnAgrees, resetTaken_notice, resetTaken_hall, noticeEnd_attn]
      · rw [State.atRest, resetTaken_hall]; exact h.2.2
    case started => exact ended_sound (ended_finish _ _) ((startState_notice _ _).symm ▸ ⟨Nat.zero_le _, Nat.zero_le _⟩)
  · obtain ⟨n, e⟩ := tick_frame s
    rw [e]
    exact h

/-! ### Conditions -/

/-- The cause of a condition, as the owner of the condition holds it. -/
def causeHeld (h : Hall) (failed : AreaSet) : ConditionName → ConsoleId → Bool
  | .hallDark, _ => h.darkCause
  | .quarantine, a => h.consoles[a].state == .quarantined
  | .settleOverflow, _ => 256 ≤ h.account.queue.length
  | .storeFault, _ => failed != AreaSet.none
  | .clockStale, _ => h.clock.stale

theorem cause_iff (s : State) (name : ConditionName) (a : ConsoleId) :
    s.cause name a ↔ causeHeld s.hall s.store.failed name a = true := by
  cases name <;> simp [State.cause, causeHeld, Hall.darkCause, Hall.dark]

theorem causeHeld_rested (h : Hall) (failed : AreaSet) (name : ConditionName) (a : ConsoleId) :
    causeHeld h.rested failed name a = causeHeld h failed name a := by
  cases name <;> simp only [causeHeld, Hall.darkCause, Hall.dark, rested_link, rested_state, rested_account, rested_clock]

/-- Each condition meets its own cause. -/
theorem syncConditions_get (h : Hall) (failed : AreaSet) (c : Conditions) (name : ConditionName) (a : ConsoleId) :
    (syncConditions h failed c).get name a = (c.get name a).meet (causeHeld h failed name a) := by
  cases name
  case quarantine => exact vtab_get _ a
  all_goals rfl

theorem dropEndedConditions_get (c : Conditions) (name : ConditionName) (a : ConsoleId) :
    (dropEndedConditions c).get name a = (c.get name a).dropEnded := by
  cases name
  case quarantine => exact vtab_get _ a
  all_goals rfl

theorem meet_active (r : Raised) (c : Bool) : r.meet c = .active ↔ c = true := by
  cases r <;> cases c <;> decide

theorem meet_raised (r : Raised) (c : Bool) : r ≠ .clear → r.meet c ≠ .clear := by
  cases r <;> cases c <;> decide

theorem meet_ended (r : Raised) (c : Bool) : r.meet c = .ended → r ≠ .clear := by
  cases r <;> cases c <;> decide

/-- A restart's re-evaluation leaves no condition that the same cause could end. -/
theorem meet_dropEnded_meet (r : Raised) (c : Bool) : (((r.meet c).dropEnded).meet c) ≠ .ended := by
  cases r <;> cases c <;> decide

/-- Removing a condition raises none. -/
theorem remove_get (c : Conditions) (n m : ConditionName) (a b : ConsoleId) :
    (c.remove n a).get m b = c.get m b ∨ (c.remove n a).get m b = .clear := by
  cases n <;> cases m <;> simp only [Conditions.remove, Conditions.get, true_or, or_true]
  rw [vset_get]
  split <;> simp

theorem ended_conds {own} {s t : State} (e : Ended own s t) (name : ConditionName) (a : ConsoleId) :
    t.notice.conds.get name a = (s.notice.conds.get name a).meet (causeHeld s.hall s.store.failed name a) := by
  rw [e.notice]
  exact syncConditions_get _ _ _ _ _

theorem ended_failed {own} {s t : State} (e : Ended own s t) : t.store.failed = s.store.failed := by
  rw [e.store]
  exact (storeEnd_frame _ _ _ _).2.1

theorem ended_conditionsMet {own} {s t : State} (e : Ended own s t) : t.conditionsMet := by
  intro name a
  rw [ended_conds e, meet_active, cause_iff, e.hall, ended_failed e, causeHeld_rested]

/-- Neither a command that ends no event nor a tick moves a condition or its cause. -/
theorem conditionsMet_of_same {s t : State} (h : s.conditionsMet) (conds : t.notice.conds = s.notice.conds)
    (cause : ∀ name a, causeHeld t.hall t.store.failed name a = causeHeld s.hall s.store.failed name a) :
    t.conditionsMet := by
  intro name a
  rw [conds, h name a, cause_iff, cause_iff, cause]

theorem stepKeepsConditions (s t : State) (h : s.conditionsMet) (e : step s = .next t) : t.conditionsMet := by
  rcases step_cases e with ⟨i, rest, -, r⟩ | ⟨-, rfl⟩
  · cases r
    case ignored | overrun | deskOverrun | pfwLevel | resetIdle => exact conditionsMet_of_same h rfl fun _ _ => rfl
    case order tag v l r m => exact ended_conditionsMet (ended_host tag v)
    case request d tag v l r m => exact ended_conditionsMet (ended_desk d tag v)
    case event | rewrite | pfwAsserted | completion | started => exact ended_conditionsMet (ended_finish _ _)
    case resetWrites =>
      intro name a
      rw [cause_iff, resetTaken_hall, resetTaken_notice, resetTaken_store]
      exact (congrArg (· = Raised.active) (syncConditions_get _ _ _ _ _)).to_iff.trans (meet_active _ _)
  · obtain ⟨n, e⟩ := tick_frame s
    rw [e]
    refine conditionsMet_of_same h rfl fun name a => ?_
    cases name <;> rfl

/-- What an order's meaning does to a condition before its event ends: nothing, but at ACK CONDITION and a restart. -/
theorem meant_conds {i : Instr} {s : State} {v : Verdict} (m : Meant i s v) :
    (state v).notice.conds = s.notice.conds ∨
    ((∃ tag n x, i = .ackCondition tag n x) ∧ ∃ n a, (state v).notice.conds = s.notice.conds.remove n a) ∨
    (((∃ tag, i = .restart tag) ∨ ∃ tag x, i = .restartHold tag x) ∧ (state v).notice.conds =
      dropEndedConditions (syncConditions (state v).hall (state v).store.failed s.notice.conds)) := by
  cases m
  case acknowledged n a r hi e => exact .inr (.inl ⟨hi, n, a, rfl⟩)
  case restartNow r hi q => exact .inr (.inr ⟨.inl hi, by dsimp only [state, restarted]⟩)
  case restartWaits r hi q => exact .inr (.inr ⟨.inl hi, by dsimp only [state, restarted]⟩)
  case restartHold r hi => exact .inr (.inr ⟨.inr hi, by dsimp only [state, restarted]⟩)
  all_goals exact .inl rfl

/-- What becomes of one condition at a command: raised it stays, and ENDED it was raised before. -/
def Persists (i : Instr) (r r' : Raised) : Prop :=
  (r ≠ .clear → (∀ tag n x, i ≠ .ackCondition tag n x) → (∀ tag, i ≠ .restart tag) → (∀ tag v, i ≠ .restartHold tag v) →
    r' ≠ .clear) ∧ (r' = .ended → r ≠ .clear)

theorem persists_meet (i : Instr) (r : Raised) (c : Bool) : Persists i r (r.meet c) :=
  ⟨fun h _ _ _ => meet_raised r c h, meet_ended r c⟩

theorem persists_refl (i : Instr) (r : Raised) : Persists i r r :=
  ⟨fun h _ _ _ => h, fun h => by rw [h]; decide⟩

theorem persists_verdict {i : Instr} {s t : State} {v : Verdict} {own} (m : Meant i s v) (e : Ended own (state v) t)
    (name : ConditionName) (a : ConsoleId) : Persists i (s.notice.conds.get name a) (t.notice.conds.get name a) := by
  rw [ended_conds e]
  rcases meant_conds m with h | ⟨⟨tag, n, x, hi⟩, n', a', h⟩ | ⟨hi, h⟩
  · rw [h]; exact persists_meet _ _ _
  · refine ⟨fun _ ack => absurd hi (ack tag n x), fun ended => ?_⟩
    have raised := meet_ended _ _ ended
    rw [h] at raised
    rcases remove_get s.notice.conds n' name a' a with e | e
    · rwa [e] at raised
    · exact absurd e raised
  · refine ⟨fun _ _ re hold => ?_, fun ended => ?_⟩
    · rcases hi with ⟨tag, hi⟩ | ⟨tag, x, hi⟩
      · exact absurd hi (re tag)
      · exact absurd hi (hold tag x)
    · rw [h, dropEndedConditions_get, syncConditions_get] at ended
      exact absurd ended (meet_dropEnded_meet _ _)

/-- Settles O9: the end of every event lets each condition meet its cause, and only ACK CONDITION, a restart and a
start-up take a raised one from the set. -/
theorem conditionsFollowCauses : Obligations.ConditionsFollowCauses := by
  refine ⟨stepKeepsConditions, fun i s t e hs name a => ?_⟩
  show Persists i _ _
  cases ran_of_exec e
  case ignored | overrun | deskOverrun | pfwLevel | resetIdle => exact persists_refl i _
  case order tag v l r m => exact persists_verdict m (ended_host tag v) name a
  case request d tag v l r m => exact persists_verdict m (ended_desk d tag v) name a
  case event => exact ended_conds (ended_finish none _) name a ▸ persists_meet i _ _
  case rewrite => rw [ended_conds (ended_finish none _), rewritten_notice]; exact persists_meet i _ _
  case pfwAsserted => rw [ended_conds (ended_finish none _), warned_notice]; exact persists_meet i _ _
  case completion => rw [ended_conds (ended_finish none _), completed_notice]; exact persists_meet i _ _
  case resetWrites =>
    rw [resetTaken_notice]
    exact (syncConditions_get _ _ _ _ _).symm ▸ persists_meet i _ _
  case started cause damaged hi => exact absurd hi (hs _ _)

/-! ### ATTN and the answers sent with it -/

/-- N and A of a sound state are what ATTN says. -/
theorem attn_iff {s : State} (h : s.attnAgrees) :
    s.notice.attn = true ↔ 0 < s.noticesWaiting ∨ s.conditionRaised = true := by
  rw [h]
  simp [attnLevel, State.noticesWaiting, State.conditionRaised]

theorem isRaised_iff (r : Raised) : r.isRaised = true ↔ r ≠ .clear := by cases r <;> decide

/-- The class of a condition (R165). -/
def classOf : ConditionName → NoticeClass
  | .hallDark => .carrier
  | .settleOverflow => .account
  | .quarantine | .storeFault | .clockStale => .fault

theorem noticeCount_pos (masked : List NoticeClass) (q : List Notice) :
    0 < noticeCount masked q ↔ ∃ n ∈ q, n.cls ∉ masked := by
  simp [noticeCount, unmasked, List.length_pos_iff_exists_mem]

theorem anyRaised_iff (masked : List NoticeClass) (c : Conditions) :
    anyRaised masked c = true ↔ ∃ (name : ConditionName) (a : ConsoleId), c.get name a ≠ .clear ∧ classOf name ∉ masked := by
  simp only [anyRaised, Bool.or_eq_true, Bool.and_eq_true, Bool.not_eq_true', List.any_eq_true, isRaised_iff]
  constructor
  · rintro ((⟨m, r⟩ | ⟨m, r⟩) | ⟨m, (r | r) | ⟨a, -, r⟩⟩)
    · exact ⟨.hallDark, 0, r, by simpa [classOf] using m⟩
    · exact ⟨.settleOverflow, 0, r, by simpa [classOf] using m⟩
    · exact ⟨.storeFault, 0, r, by simpa [classOf] using m⟩
    · exact ⟨.clockStale, 0, r, by simpa [classOf] using m⟩
    · exact ⟨.quarantine, a, r, by simpa [classOf] using m⟩
  · rintro ⟨name, a, r, m⟩
    cases name
    case hallDark => exact .inl (.inl ⟨by simpa [classOf] using m, r⟩)
    case settleOverflow => exact .inl (.inr ⟨by simpa [classOf] using m, r⟩)
    case storeFault => exact .inr ⟨by simpa [classOf] using m, .inl (.inl r)⟩
    case clockStale => exact .inr ⟨by simpa [classOf] using m, .inl (.inr r)⟩
    case quarantine => exact .inr ⟨by simpa [classOf] using m, .inr ⟨a, by simp, r⟩⟩

/-- The answer carries N and A of state `u`, where it goes to the host. -/
def Carries (u : State) (x : Answer) : Prop :=
  ∀ n a, x.addressee = .host n a → n = u.noticesWaiting ∧ a = u.conditionRaised

theorem meant_out {i : Instr} {s : State} {v : Verdict} (m : Meant i s v) : (state v).out = s.out := by
  cases m <;> simp only [state, refuse, restarted]

/-- An order sends no answer but the verdict's own, with the N and A that then stand. -/
theorem carries_host {i : Instr} {s : State} {tag : Tag} {v : Verdict} (m : Meant i s.opened v) {x : Answer}
    (hx : x ∈ (concludeHost tag v).out) : Carries (concludeHost tag v) x := by
  rcases concludeHost_eq tag v with h | ⟨r, -, h⟩ <;> rw [h] at hx ⊢
  · rw [finish_out, meant_out m] at hx; cases hx
  · intro n a e
    simp only [sendHost, finish_out, meant_out m, State.opened_out, List.nil_append, List.mem_singleton] at hx
    subst hx
    cases e
    exact ⟨rfl, rfl⟩

/-- A request's answer goes to its desk, without N and A. -/
theorem carries_desk {i : Instr} {s u : State} {d : DeskId} {tag : Tag} {v : Verdict} (m : Meant i s.opened v)
    {x : Answer} (hx : x ∈ (concludeDesk d tag v).out) : Carries u x := by
  rcases concludeDesk_eq d tag v with h | ⟨r, -, h⟩ <;> rw [h] at hx
  · rw [finish_out, meant_out m] at hx; cases hx
  · intro n a e
    simp only [sendDesk, finish_out, meant_out m, State.opened_out, List.nil_append, List.mem_singleton] at hx
    subst hx
    cases e

/-- What waited on a write is answered with N and A as they stood before. -/
theorem carries_waiters (ws : List Waiter) {s u : State} (hh : s.hall = u.hall) (hn : s.notice = u.notice)
    (hs : ∀ x ∈ s.out, Carries u x) : ∀ x ∈ (ws.foldl serveWaiter s).out, Carries u x := by
  induction ws generalizing s with
  | nil => exact hs
  | cons w ws ih =>
    refine ih (by rw [serveWaiter_frame]; exact hh) (by rw [serveWaiter_frame]; exact hn) ?_
    cases w with
    | host tag r =>
      simp only [serveWaiter, sendHost, List.mem_append, List.mem_singleton]
      rintro x (hx | rfl)
      · exact hs x hx
      · intro n a e
        cases e
        simp only [State.noticesWaiting, State.conditionRaised, hh, hn, and_self]
    | desk d tag r =>
      simp only [serveWaiter, sendDesk, List.mem_append, List.mem_singleton]
      rintro x (hx | rfl)
      · exact hs x hx
      · intro n a e; cases e
    | startUp => exact hs

/-- Settles O10: ATTN is set from N and A at the end of every event, and an answer carries the N and A of the moment it
is sent. -/
theorem attnOutput : Obligations.AttnOutput := by
  intro s t h e masked cls completes
  have ht : t.sound := stepKeepsSound s t h e
  have agrees (u : State) (hu : u.attnAgrees) (x : Answer) (hx : Carries u x) (n a) (ha : x.addressee = .host n a) :
      u.notice.attn = true ↔ 0 < n ∨ a = true := by
    obtain ⟨rfl, rfl⟩ := hx n a ha
    exact attn_iff hu
  have sentNow (hc : ¬ completes) {x : Answer} (hx : Carries t x) (n a) (ha : x.addressee = .host n a) :
      (completes → (s.notice.attn = true ↔ 0 < n ∨ a = true)) ∧
        (¬ completes → (t.notice.attn = true ↔ 0 < n ∨ a = true)) :=
    ⟨fun k => absurd k hc, fun _ => agrees t ht.2.1 x hx n a ha⟩
  have sentBefore (hc : completes) {x : Answer} (hx : Carries s x) (n a) (ha : x.addressee = .host n a) :
      (completes → (s.notice.attn = true ↔ 0 < n ∨ a = true)) ∧
        (¬ completes → (t.notice.attn = true ↔ 0 < n ∨ a = true)) :=
    ⟨fun _ => agrees s h.2.1 x hx n a ha, fun k => absurd hc k⟩
  refine ⟨?_, fun x hx n a ha => ?_⟩
  · rw [attn_iff ht.2.1, State.noticesWaiting, State.conditionRaised, noticeCount_pos, anyRaised_iff]
    have same : cls = classOf := by funext c; cases c <;> rfl
    rw [same]
  · rcases step_cases e with ⟨i, rest, hp, r⟩ | ⟨hp, rfl⟩
    · have line (l : isLine i = true) : ¬ completes := by
        rintro ⟨rest', ⟨bad, k⟩ | k⟩ <;> rw [hp] at k <;> cases k <;> cases l
      cases r
      case ignored | overrun | deskOverrun | pfwLevel | resetIdle => cases hx
      case order tag v l r m => exact sentNow (line l) (carries_host m hx) n a ha
      case request d tag v l r m => exact sentNow (line l) (carries_desk m hx) n a ha
      case event => rw [finish_out] at hx; cases hx
      case rewrite => rw [finish_out, rewritten_out] at hx; cases hx
      case pfwAsserted => rw [finish_out, warned_out] at hx; cases hx
      case started => rw [finish_out, startState_out] at hx; cases hx
      case completion bad w hi r hw =>
        rw [finish_out, completed_out] at hx
        exact sentBefore ⟨rest, .inl ⟨bad, hi ▸ hp⟩⟩ (carries_waiters w.waiters (by rfl) (by rfl) (fun _ h => absurd h List.not_mem_nil) x hx) n a ha
      case resetWrites hi r w hw =>
        rw [resetTaken_out] at hx
        exact sentBefore ⟨rest, .inr (hi ▸ hp)⟩ (carries_waiters w.waiters (by rfl) (by rfl) (fun _ h => absurd h List.not_mem_nil) x hx) n a ha
    · obtain ⟨k, e⟩ := tick_frame s
      rw [e] at hx
      cases hx

/-! ### Commands not taken -/

/-- Every command is an order, a request, an event, a refused or discarded line, a store event or an input. -/
theorem kind_cases (i : Instr) :
    (∃ tag f, orderMeaning i = some (tag, f)) ∨ (∃ d tag f, requestMeaning i = some (d, tag, f)) ∨
    (∃ f, eventMeaning i = some f) ∨ (∃ line, i = .lineRefused line) ∨ (∃ d line, i = .deskLineRefused d line) ∨
    i = .lineDiscarded ∨ (∃ d, i = .deskLineDiscarded d) ∨ (∃ bad, i = .writeCompletion bad) ∨
    (∃ a, i = .areaRewrite a) ∨ i.isInput = true := by
  cases i
  case lineRefused => simp
  case deskLineRefused => simp
  case lineDiscarded => simp
  case deskLineDiscarded => simp
  case writeCompletion => simp
  case areaRewrite => simp
  case pfwnAssertion | pfwnRelease | resetnAssertion | startUp => simp [Instr.isInput]
  case issue | language | returnRcv | query => exact .inr (.inl ⟨_, _, _, rfl⟩)
  case pollAnswer | answerWindowClose | probeAnswer | probeTimerExpiry | goodRunExpiry | engagedFlashExpiry
     | handoverTimerExpiry | shiftReminder | holdExpiry | directorySend | emitterAnswer | dueMinuteExpiry | windowClose
     | hallMinuteRise => exact .inr (.inr (.inl ⟨_, rfl⟩))
  all_goals exact .inl ⟨_, _, rfl⟩

section
variable {s : State}

theorem refuseLine_reset (line : Text) (r : s.resetn = true) : refuseLine line s = s.opened := by
  unfold refuseLine
  split
  · exact hostLine_reset _ _ r
  · rfl

theorem refuseDeskLine_reset (d : DeskId) (line : Text) (r : s.resetn = true) : refuseDeskLine d line s = s.opened := by
  unfold refuseDeskLine
  split
  · exact deskLine_reset _ _ _ r
  · split
    · exact deskLine_reset _ _ _ r
    · rfl
  · rfl

theorem deskLine_busy (d tag f) (a : s.resetn = false) (b : s.listening = true) (c : s.desks[d].busy = true) :
    deskLine d tag f s = { s.opened with desks := vmod s.desks d fun p => { p with overrun := true } } := by
  simp only [deskLine, State.opened, a, b, c]
  rfl

theorem hostLine_deaf (tag f) (p : s.listening = false) : hostLine tag f s = s.opened := by
  simp [hostLine, State.opened, p]

theorem deskLine_deaf (d tag f) (p : s.listening = false) : deskLine d tag f s = s.opened := by
  simp [deskLine, State.opened, p]

end

/-- Under RESETn every command but an input is ignored (R174). -/
theorem ignores_reset {i : Instr} {s : State} (r : s.resetn = true) (hi : i.isInput = false) : s.ignores i := by
  unfold State.ignores
  rcases kind_cases i with ⟨tag, f, m⟩ | ⟨d, tag, f, m⟩ | ⟨f, m⟩ | ⟨line, rfl⟩ | ⟨d, line, rfl⟩ | rfl | ⟨d, rfl⟩ |
    ⟨bad, rfl⟩ | ⟨a, rfl⟩ | input
  · rw [exec_order m, hostLine_reset tag f r]
  · rw [exec_request m, deskLine_reset d tag f r]
  · rw [exec_event m, event_reset f r]
  · exact congrArg _ (refuseLine_reset line r)
  · exact congrArg _ (refuseDeskLine_reset d line r)
  · simp [exec, execLineDiscarded, discardLine, r]
  · simp [exec, execDeskLineDiscarded, discardDeskLine, r]
  · simp [exec, execWriteCompletion, r]
  · simp [exec, execAreaRewrite, r]
  · rw [input] at hi; cases hi

theorem orderMeaning_isOrder {i : Instr} (h : i.isOrder = true) : ∃ tag f, orderMeaning i = some (tag, f) := by
  simp only [Instr.isOrder, Bool.and_eq_true, Option.isNone_iff_eq_none] at h
  obtain ⟨tag, ht⟩ := Option.isSome_iff_exists.mp h.1
  exact ⟨tag, orderMeaning_tag ht h.2⟩

/-- A command with a tag is an order or a request. -/
theorem tagged_cases {i : Instr} (h : i.tag?.isSome = true) :
    (∃ tag f, orderMeaning i = some (tag, f)) ∨ ∃ d tag f, requestMeaning i = some (d, tag, f) := by
  obtain ⟨tag, ht⟩ := Option.isSome_iff_exists.mp h
  cases hd : i.desk? with
  | none => exact .inl ⟨tag, orderMeaning_tag ht hd⟩
  | some d => exact .inr ⟨d, tag, requestMeaning_tag ht hd⟩

theorem requestMeaning_desk {i : Instr} {d : DeskId} (h : i.desk? = some d) :
    ∃ tag f, requestMeaning i = some (d, tag, f) := by
  cases i <;> cases h <;> exact ⟨_, _, rfl⟩

/-- Settles O12: a line is tried against RESETn, the assembling of lines and its port's order in progress before it has
a meaning. -/
theorem commandsNotTaken : Obligations.CommandsNotTaken := by
  refine ⟨fun i s r hi => ignores_reset r hi, ?_, ?_, ?_⟩
  · rintro i s (h | rfl) r l b
    · obtain ⟨tag, f, m⟩ := orderMeaning_isOrder h
      rw [exec_order m, hostLine_busy tag f r l b]
    · simp [exec, execLineDiscarded, discardLine, r, l, b]
  · rintro i d s (h | rfl) r l b
    · obtain ⟨tag, f, m⟩ := requestMeaning_desk h
      rw [exec_request m, deskLine_busy d tag f r l b]
    · have b' : s.opened.desks[d].busy = true := b
      simp only [exec, execDeskLineDiscarded, discardDeskLine, State.opened_resetn, State.opened_listening, r, l, b']
      rfl
  · intro i s h l
    unfold State.ignores
    rcases tagged_cases h with ⟨tag, f, m⟩ | ⟨d, tag, f, m⟩
    · rw [exec_order m, hostLine_deaf tag f l]
    · rw [exec_request m, deskLine_deaf d tag f l]

/-! ### Refusals -/

/-- A verdict that refuses at once leaves the state as it was. -/
theorem meant_refused {i : Instr} {s : State} {v : Verdict} {c : AnswerCode} (m : Meant i s v)
    (e : v = .now (.er c) (state v)) : state v = s := by
  cases m <;> cases e
  rfl

/-- Settles O14: only a verdict given at once sends an answer in its own event, and a refusing one leaves its state. -/
theorem refusedChangesNothing : Obligations.RefusedChangesNothing := by
  intro i s t a c ht e ha hc
  have noAnswer (u : State) (k : t.out = []) : s.endsWith s.hall t ∧ s.asks none s.hall t := by
    rw [k] at ha; cases ha
  rcases tagged_cases ht with ⟨tag, f, m⟩ | ⟨d, tag, f, m⟩
  · obtain rfl := Host.Outcome.next.inj ((exec_order m s).symm.trans e)
    by_cases r : s.resetn = true
    · exact noAnswer s (by rw [hostLine_reset _ _ r]; rfl)
    by_cases l : s.listening = false
    · exact noAnswer s (by rw [hostLine_deaf _ _ l]; rfl)
    by_cases b : s.port.busy = true
    · exact noAnswer s (by rw [hostLine_busy _ _ (by simpa using r) (by simpa using l) b]; rfl)
    have taken : s.takesOrders := ⟨by simpa using r, by simpa using l, by simpa using b⟩
    have mv := meant_order s.opened m
    rw [hostLine_taken tag f taken] at ha ⊢
    rcases concludeHost_eq tag (f s.opened) with h | ⟨r, hv, -⟩
    · rw [h, finish_out, meant_out mv] at ha; cases ha
    · rw [hv] at ha ⊢
      simp only [concludeHost, sendHost, finish_out, meant_out mv, State.opened_out, List.nil_append,
        List.mem_singleton] at ha
      subst ha
      cases hc
      rw [meant_refused mv hv]
      exact ⟨endsWith_finish none s.hall, rfl⟩
  · obtain rfl := Host.Outcome.next.inj ((exec_request m s).symm.trans e)
    by_cases r : s.resetn = true
    · exact noAnswer s (by rw [deskLine_reset _ _ _ r]; rfl)
    by_cases l : s.listening = false
    · exact noAnswer s (by rw [deskLine_deaf _ _ _ l]; rfl)
    by_cases b : s.desks[d].busy = true
    · exact noAnswer s (by rw [deskLine_busy _ _ _ (by simpa using r) (by simpa using l) b]; rfl)
    have taken : s.takesRequests d := ⟨by simpa using r, by simpa using l, by simpa using b⟩
    have mv := meant_request s.opened m
    rw [deskLine_taken tag f taken] at ha ⊢
    rcases concludeDesk_eq d tag (f s.opened) with h | ⟨r, hv, -⟩
    · rw [h, finish_out, meant_out mv] at ha; cases ha
    · rw [hv] at ha ⊢
      simp only [concludeDesk, sendDesk, finish_out, meant_out mv, State.opened_out, List.nil_append,
        List.mem_singleton] at ha
      subst ha
      cases hc
      rw [meant_refused mv hv]
      exact ⟨endsWith_finish none s.hall, rfl⟩

end Sys2Proof.StepProofs
end

-- ==== Proofs: Layer ====
section
/-! PROOFS. Layer under the invariants: sorted lists, and what the meter unit's operations leave alone. -/

namespace Sys2Proof.StepProofs

open Machine

/-! ### Lists in order -/

section
variable {α : Type} {before : α → α → Bool}

theorem insertBy_perm (x : α) (l : List α) : (insertBy before x l).Perm (x :: l) := by
  induction l with
  | nil => exact .refl _
  | cons y l ih =>
    unfold insertBy
    split
    · exact .refl _
    · exact (ih.cons y).trans (.swap x y l)

theorem mem_insertBy {x y : α} {l : List α} : y ∈ insertBy before x l ↔ y = x ∨ y ∈ l :=
  (insertBy_perm x l).mem_iff.trans List.mem_cons

theorem insertBy_length (x : α) (l : List α) : (insertBy before x l).length = l.length + 1 :=
  (insertBy_perm x l).length_eq

/-- An entry that is comparable with each of a list in order is inserted in order. -/
theorem insertBy_pairwise (trans : ∀ x y z, before x y = true → before y z = true → before x z = true) {x : α}
    {l : List α} (total : ∀ y ∈ l, before x y = false → before y x = true)
    (h : l.Pairwise fun x y => before x y = true) : (insertBy before x l).Pairwise fun x y => before x y = true := by
  induction l with
  | nil => simp [insertBy]
  | cons y l ih =>
    obtain ⟨hy, hl⟩ := List.pairwise_cons.mp h
    unfold insertBy
    split
    · next b => exact List.pairwise_cons.mpr ⟨fun z hz => by
        rcases List.mem_cons.mp hz with rfl | hz
        · exact b
        · exact trans x y z b (hy z hz), h⟩
    · next b =>
      refine List.pairwise_cons.mpr ⟨fun z hz => ?_, ih (fun z hz => total z (.tail _ hz)) hl⟩
      rcases mem_insertBy.mp hz with rfl | hz
      · exact total y (.head _) (by simpa using b)
      · exact hy z hz

theorem foldl_insertBy_perm (l acc : List α) :
    (l.foldl (fun acc x => insertBy before x acc) acc).Perm (l ++ acc) := by
  induction l generalizing acc with
  | nil => exact .refl _
  | cons x l ih => exact (ih _).trans (((insertBy_perm x acc).append_left l).trans List.perm_middle)

theorem sortBy_perm (l : List α) : (sortBy before l).Perm l := by
  have := foldl_insertBy_perm (before := before) l []
  rwa [List.append_nil] at this

theorem mem_sortBy {x : α} {l : List α} : x ∈ sortBy before l ↔ x ∈ l := (sortBy_perm l).mem_iff

/-- Sorting puts distinct entries, any two of which compare, into strict order. -/
theorem sortBy_pairwise (trans : ∀ x y z, before x y = true → before y z = true → before x z = true)
    (total : ∀ x y, x ≠ y → before x y = false → before y x = true) {l : List α} (hl : l.Nodup) :
    (sortBy before l).Pairwise fun x y => before x y = true := by
  have key (l acc : List α) (hd : (l ++ acc).Nodup) (ha : acc.Pairwise fun x y => before x y = true) :
      (l.foldl (fun acc x => insertBy before x acc) acc).Pairwise fun x y => before x y = true := by
    induction l generalizing acc with
    | nil => exact ha
    | cons x l ih =>
      have hx : x ∉ l ++ acc := (List.nodup_cons.mp hd).1
      refine ih _ ?_ (insertBy_pairwise trans (fun y hy b => total x y ?_ b) ha)
      · exact (((insertBy_perm x acc).append_left l).trans List.perm_middle).nodup_iff.mpr hd
      · rintro rfl
        exact hx (List.mem_append_right _ hy)
  exact key l [] (by rwa [List.append_nil]) .nil

end

/-- A list folded by steps that each keep a relation keeps it. -/
theorem foldl_keeps {α β : Type} {R : β → β → Prop} (refl : ∀ b, R b b) (trans : ∀ {a b c}, R a b → R b c → R a c)
    {f : β → α → β} (hf : ∀ b x, R b (f b x)) (l : List α) (b : β) : R b (l.foldl f b) := by
  induction l generalizing b with
  | nil => exact refl b
  | cons x l ih => exact trans (hf b x) (ih _)

/-! ### The meter unit -/

/-- `k` is `h` but for the meters, the levels handed, the free values and the notices posted. -/
def Metered (h k : Hall) : Prop :=
  k = { h with meters := k.meters, levels := k.levels, free := k.free, work := { h.work with posts := k.work.posts } }

theorem Metered.refl (h : Hall) : Metered h h := rfl

theorem Metered.trans {h k l : Hall} (p : Metered h k) (q : Metered k l) : Metered h l := by
  unfold Metered at *
  rw [q, p]

theorem metered_modMeter (h : Hall) (m f) : Metered h (h.modMeter m f) := rfl
theorem metered_post (h : Hall) (cls kind subject value) : Metered h (h.post cls kind subject value) := rfl
theorem metered_levels (h : Hall) (l) : Metered h { h with levels := l } := rfl

theorem metered_presetTest (m h) : Metered h (presetTest m h) := by
  unfold presetTest
  dsimp only
  split <;> rfl

theorem metered_fullTest (m h) : Metered h (fullTest m h) := by
  unfold fullTest
  dsimp only
  split <;> rfl

theorem metered_raiseCount (m h) : Metered h (raiseCount m h) := by
  unfold raiseCount
  split
  · exact ((metered_modMeter h m _).trans (metered_presetTest _ _)).trans (metered_fullTest _ _)
  · rfl

theorem metered_meterEvent (e h) : Metered h (meterEvent e h) := by
  refine foldl_keeps Metered.refl Metered.trans (fun k m => ?_) _ _
  unfold offerEvent
  dsimp only
  split
  · split
    · exact metered_raiseCount m k
    · rfl
  · rfl

theorem metered_meterLevel (k v h) : Metered h (meterLevel k v h) := by
  refine (metered_levels h _).trans (foldl_keeps Metered.refl Metered.trans (fun g m => ?_) _ _)
  unfold offerLevel
  dsimp only
  split <;> rfl

theorem metered_meterLevelChange (k v h) : Metered h (meterLevelChange k v h) := by
  unfold meterLevelChange
  split
  · rfl
  · exact metered_meterLevel k v h

theorem metered_clearRunning (h m) : Metered h (clearRunning h m) := rfl
theorem metered_clearResults (h m) : Metered h (clearResults h m) := rfl

theorem metered_clearAllRunning (h) : Metered h (clearAllRunning h) :=
  foldl_keeps Metered.refl Metered.trans metered_clearRunning _ _

theorem metered_clearDayMeters (h) : Metered h (clearDayMeters h) := by
  refine foldl_keeps Metered.refl Metered.trans (fun k m => ?_) _ _
  split <;> rfl

theorem metered_closeWindow (m at_ h) : Metered h (closeWindow m at_ h) := by
  unfold closeWindow
  dsimp only
  split
  · exact (metered_raiseCount m h).trans (metered_modMeter _ _ _)
  · rfl

theorem metered_takeWindowClose (m h) : Metered h (takeWindowClose m h) := by
  unfold takeWindowClose
  split
  · split
    · exact metered_closeWindow _ _ _
    · rfl
  · rfl

theorem metered_handUnserved (h : Hall) : Metered h h.handUnserved := metered_meterLevelChange _ _ _

theorem metered_handOpenHires (h : Hall) : Metered h (handOpenHires h) := metered_meterLevel _ _ _

section
variable {h k : Hall} (p : Metered h k)
include p

theorem Metered.settings : k.settings = h.settings := by rw [p]
theorem Metered.fleet : k.fleet = h.fleet := by rw [p]
theorem Metered.account : k.account = h.account := by rw [p]
theorem Metered.clock : k.clock = h.clock := by rw [p]
theorem Metered.channels : k.channels = h.channels := by rw [p]
theorem Metered.waitLists : k.waitLists = h.waitLists := by rw [p]
theorem Metered.booths : k.booths = h.booths := by rw [p]
theorem Metered.consoles : k.consoles = h.consoles := by rw [p]
theorem Metered.bus : k.bus = h.bus := by rw [p]
theorem Metered.air : k.air = h.air := by rw [p]
theorem Metered.link : k.link = h.link := by rw [p]
theorem Metered.lowFired : k.lowFired = h.lowFired := by rw [p]
theorem Metered.asks : k.work.asks = h.work.asks := by rw [p]
theorem Metered.touched : k.work.touched = h.work.touched := by rw [p]
theorem Metered.granted : k.work.granted = h.work.granted := by rw [p]
theorem Metered.faults : k.work.faults = h.work.faults := by rw [p]

end

section
variable (h : Hall)

@[simp] theorem meterEvent_fleet (e) : (meterEvent e h).fleet = h.fleet := (metered_meterEvent e h).fleet
@[simp] theorem meterEvent_channels (e) : (meterEvent e h).channels = h.channels := (metered_meterEvent e h).channels
@[simp] theorem meterEvent_air (e) : (meterEvent e h).air = h.air := (metered_meterEvent e h).air

@[simp] theorem meterLevelChange_air (k v) : (meterLevelChange k v h).air = h.air := (metered_meterLevelChange k v h).air

@[simp] theorem handUnserved_air : (h.handUnserved).air = h.air := (metered_handUnserved h).air

@[simp] theorem handOpenHires_fleet : (handOpenHires h).fleet = h.fleet := (metered_handOpenHires h).fleet
@[simp] theorem handOpenHires_channels : (handOpenHires h).channels = h.channels := (metered_handOpenHires h).channels

end

end Sys2Proof.StepProofs
end

-- ==== Proofs: Air ====
section
/-! PROOFS. The carrier law (R78, R84): every action of the carrier allocator keeps it, and a build from empty makes
it. A channel is *involved* while it holds a carrier or waits for one; every action serves channels that are not. -/

namespace Sys2Proof.StepProofs

open Machine

/-! ### The order of the wait list (R84) -/

section
variable (h : Hall)

theorem outranks_iff (c d : ChannelId) :
    h.outranks c d = true ↔ h.demand d < h.demand c ∨ (h.demand c = h.demand d ∧ c.val < d.val) := by
  simp [Hall.outranks]

theorem outranks_trans (c d e : ChannelId) (p : h.outranks c d = true) (q : h.outranks d e = true) :
    h.outranks c e = true := by
  rw [outranks_iff] at p q ⊢
  omega

theorem outranks_total (c d : ChannelId) (ne : c ≠ d) (p : h.outranks c d = false) : h.outranks d c = true := by
  have := mt (outranks_iff h c d).mpr (by simp [p])
  have := Fin.val_ne_of_ne ne
  rw [outranks_iff]
  omega

theorem outranks_irrefl (c : ChannelId) : h.outranks c c = false := by
  rw [← Bool.not_eq_true, outranks_iff]
  omega

theorem outranks_congr {k : Hall} (d : ∀ c : ChannelId, k.channels[c].demand = h.channels[c].demand) :
    k.outranks = h.outranks := by
  have e : k.demand = h.demand := funext d
  funext c x
  rw [Hall.outranks, Hall.outranks, e]

end

/-! ### Holding a carrier and waiting for one -/

/-- Some carrier is assigned to the channel. -/
def Holds (h : Hall) (c : ChannelId) : Prop := ∃ k : CarrierId, h.air.carriers[k].channel? = some c

/-- The channel holds a carrier or waits for one. -/
def Involved (h : Hall) (c : ChannelId) : Prop := Holds h c ∨ c ∈ h.air.waiting

theorem carrierOf_some {h : Hall} {c : ChannelId} {k : CarrierId} (e : h.carrierOf c = some k) :
    h.air.carriers[k].channel? = some c := by
  simpa using List.find?_some e

theorem carrierOf_none {h : Hall} {c : ChannelId} (e : h.carrierOf c = none) : ¬ Holds h c := by
  rintro ⟨k, hk⟩
  exact List.find?_eq_none.mp e k (mem_ids k) (beq_iff_eq.mpr hk)

theorem lawful_congr {h k : Hall} (air : k.air = h.air)
    (demand : ∀ c : ChannelId, k.channels[c].demand = h.channels[c].demand) (l : h.AirLawful) : k.AirLawful := by
  obtain ⟨floor, single, waiters, ranked⟩ := l
  exact ⟨by rwa [air], by rwa [air], by rwa [air], by rwa [air, outranks_congr h demand]⟩

section
variable {h : Hall}

/-- Channel 0 holds carrier 0 for ever, so that no other carrier and no wait is its. -/
theorem floor_holds (l : h.AirLawful) : Holds h 0 := by
  obtain ⟨since, e⟩ := l.floor
  exact ⟨0, by rw [e]; rfl⟩

theorem holder_ne_zero (l : h.AirLawful) {k : CarrierId} {c : ChannelId} (hk : k ≠ 0)
    (e : h.air.carriers[k].channel? = some c) : c ≠ 0 := by
  rintro rfl
  obtain ⟨since, f⟩ := l.floor
  exact l.single 0 k hk.symm 0 (by rw [f]; rfl) e

theorem carrier_ne_zero (l : h.AirLawful) {k : CarrierId} {c : ChannelId} (hc : c ≠ 0)
    (e : h.air.carriers[k].channel? = some c) : k ≠ 0 := by
  rintro rfl
  obtain ⟨since, f⟩ := l.floor
  rw [f] at e
  exact hc (Option.some.inj e).symm

theorem waiting_nodup (l : h.AirLawful) : h.air.waiting.Nodup :=
  l.ranked.imp fun {c d} p => by
    rintro rfl
    rw [outranks_irrefl] at p
    cases p

theorem mem_allocatable {k : CarrierId} : k ∈ allocatable ↔ k ≠ 0 := by
  simp [allocatable]

/-! ### One record or the list changed -/

/-- A carrier other than 0 set to a record whose channel, if any, is not involved elsewhere. -/
theorem setCarrier_lawful (l : h.AirLawful) {k : CarrierId} {r : Carrier} (hk : k ≠ 0)
    (own : ∀ c, r.channel? = some c → c ∉ h.air.waiting ∧ ∀ j : CarrierId, j ≠ k → h.air.carriers[j].channel? ≠ some c) :
    (h.setCarrier k r).AirLawful := by
  have other {j : CarrierId} (ne : k ≠ j) : (h.setCarrier k r).air.carriers[j] = h.air.carriers[j] :=
    vset_other _ _ ne
  have same : (h.setCarrier k r).air.carriers[k] = r := vset_same _ _ _
  refine ⟨?_, fun i j ne c hi hj => ?_, fun c hc => ⟨(l.waiters c hc).1, fun j hj => ?_⟩, l.ranked⟩
  · rw [other hk]; exact l.floor
  · by_cases ei : k = i
    · subst ei
      rw [same] at hi
      rw [other ne] at hj
      exact (own c hi).2 j ne.symm hj
    · rw [other ei] at hi
      by_cases ej : k = j
      · subst ej
        rw [same] at hj
        exact (own c hj).2 i ne hi
      · rw [other ej] at hj
        exact l.single i j ne c hi hj
  · by_cases ej : k = j
    · subst ej
      rw [same] at hj
      exact (own c hj).1 hc
    · rw [other ej] at hj
      exact (l.waiters c hc).2 j hj

theorem freeCarrier_lawful (l : h.AirLawful) {k : CarrierId} (hk : k ≠ 0) : (h.setCarrier k .free).AirLawful :=
  setCarrier_lawful l hk fun _ e => nomatch e

/-- A holder's record replaced by another of the same channel. -/
theorem sameChannel_lawful (l : h.AirLawful) {k : CarrierId} {r : Carrier} (hk : k ≠ 0)
    (e : r.channel? = h.air.carriers[k].channel?) : (h.setCarrier k r).AirLawful :=
  setCarrier_lawful l hk fun c hc => by
    rw [e] at hc
    exact ⟨fun w => (l.waiters c w).2 k hc, fun j ne hj => l.single j k ne c hj hc⟩

theorem setWaiting_lawful (l : h.AirLawful) {w : List ChannelId} (sub : ∀ c ∈ w, c ≠ 0 ∧ ¬ Holds h c)
    (ranked : w.Pairwise fun c d => h.outranks c d = true) : (h.setWaiting w).AirLawful :=
  ⟨l.floor, l.single, fun c hc => ⟨(sub c hc).1, fun k hk => (sub c hc).2 ⟨k, hk⟩⟩, ranked⟩

theorem waiter_free (l : h.AirLawful) {c : ChannelId} (hc : c ∈ h.air.waiting) : c ≠ 0 ∧ ¬ Holds h c :=
  ⟨(l.waiters c hc).1, fun ⟨k, hk⟩ => (l.waiters c hc).2 k hk⟩

theorem leaveWait_lawful (l : h.AirLawful) (c : ChannelId) : (leaveWait c h).AirLawful :=
  setWaiting_lawful l (fun _ hd => waiter_free l (List.mem_filter.mp hd).1) (l.ranked.sublist List.filter_sublist)

theorem joinWait_air (c : ChannelId) : (joinWait c h).air = (h.setWaiting (insertBy h.outranks c h.air.waiting)).air := by
  simp [joinWait]

theorem joinWait_lawful (l : h.AirLawful) {c : ChannelId} (hc : c ≠ 0) (free : ¬ Involved h c) :
    (joinWait c h).AirLawful := by
  refine lawful_congr (joinWait_air c) (fun _ => by simp [joinWait, Hall.setWaiting]) (setWaiting_lawful l ?_ ?_)
  · intro d hd
    rcases mem_insertBy.mp hd with rfl | hd
    · exact ⟨hc, fun k => free (.inl k)⟩
    · exact waiter_free l hd
  · exact insertBy_pairwise (outranks_trans h) (fun d hd => outranks_total h c d fun e => free (.inr (e ▸ hd))) l.ranked

theorem giveCarrier_lawful (l : h.AirLawful) {k : CarrierId} {c : ChannelId} (hk : k ≠ 0) (free : ¬ Involved h c) :
    (giveCarrier k c h).AirLawful :=
  setCarrier_lawful l hk fun d e => by
    cases e
    exact ⟨fun w => free (.inr w), fun j _ hj => free (.inl ⟨j, hj⟩)⟩

@[simp] theorem postEvict_air (h : Hall) (k e) : (postEvict k e h).air = h.air := by
  rw [postEvict, meterEvent_air]
  rfl

theorem postEvict_lawful (l : h.AirLawful) (k : CarrierId) (e : ChannelId) : (postEvict k e h).AirLawful :=
  lawful_congr (postEvict_air h k e) (fun _ => by rw [postEvict, meterEvent_channels]; rfl) l

/-! ### The steps of R81 -/

theorem holder_mem {v : Service} {k : CarrierId} {e : ChannelId} (m : (k, e) ∈ holders v h) :
    k ≠ 0 ∧ (∃ since, h.air.carriers[k] = .onAir e since) ∧ h.settings.channels[e].pinned = false ∧
      h.channels[e].service = v := by
  obtain ⟨j, hj, e'⟩ := List.mem_filterMap.mp m
  split at e' <;> try cases e'
  next c since hc =>
    split at e' <;> cases e'
    next b =>
      simp only [Bool.and_eq_true, Bool.not_eq_true', beq_iff_eq] at b
      exact ⟨mem_allocatable.mp hj, ⟨since, hc⟩, b.1, b.2⟩

theorem pick_mem {α : Type} {better : α → α → Bool} {l : List α} {x : α} (e : pick better l = some x) : x ∈ l := by
  induction l generalizing x with
  | nil => cases e
  | cons y l ih =>
    unfold pick at e
    split at e
    · cases e; exact .head _
    · next z hz =>
      split at e <;> cases e
      · exact .tail _ (ih hz)
      · exact .head _

theorem fillHolder_mem {k : CarrierId} {e : ChannelId} (m : fillHolder h = some (k, e)) : (k, e) ∈ holders .fill h :=
  pick_mem m

theorem liveHolder_mem {c : ChannelId} {k : CarrierId} {e : ChannelId} (m : liveHolder c h = some (k, e)) :
    (k, e) ∈ holders .live h :=
  (List.mem_filter.mp (pick_mem m)).1

/-- What steps 1 to 4 of R81 come to: a carrier other than 0 is given to the channel; a channel evicted joins the list
where it was LIVE. -/
theorem offer_cases {c : ChannelId} {k : Hall} (e : offer c h = some k) :
    (∃ j, j ≠ 0 ∧ k = giveCarrier j c h) ∨
    (∃ j d, (j, d) ∈ holders .fill h ∧ k = giveCarrier j c (postEvict j d h)) ∨
    ∃ j d, (j, d) ∈ holders .live h ∧ k = joinWait d (giveCarrier j c (postEvict j d h)) := by
  unfold offer at e
  split at e
  · next j hj =>
    exact .inl ⟨j, mem_allocatable.mp (List.mem_of_find?_eq_some hj), (Option.some.inj e).symm⟩
  · split at e
    · next j hj =>
      exact .inl ⟨j, mem_allocatable.mp (List.mem_filter.mp (pick_mem hj)).1, (Option.some.inj e).symm⟩
    · split at e
      · next j d hj => exact .inr (.inl ⟨j, d, fillHolder_mem hj, (Option.some.inj e).symm⟩)
      · split at e
        · next j d hj => exact .inr (.inr ⟨j, d, liveHolder_mem hj, (Option.some.inj e).symm⟩)
        · cases e

theorem involved_giveCarrier {k : CarrierId} {c d : ChannelId} (i : Involved (giveCarrier k c h) d) :
    Involved h d ∨ d = c := by
  rcases i with ⟨j, hj⟩ | hw
  · by_cases e : k = j
    · subst e
      rw [show (giveCarrier k c h).air.carriers[k] = .onAir c h.now from vset_same _ _ _] at hj
      exact .inr (Option.some.inj hj).symm
    · rw [show (giveCarrier k c h).air.carriers[j] = h.air.carriers[j] from vset_other _ _ e] at hj
      exact .inl (.inl ⟨j, hj⟩)
  · exact .inl (.inr hw)

theorem involved_joinWait {c d : ChannelId} (i : Involved (joinWait c h) d) : Involved h d ∨ d = c := by
  unfold Involved Holds at i
  rw [joinWait_air] at i
  rcases i with i | i
  · exact .inl (.inl i)
  · exact (mem_insertBy.mp i).symm.imp .inr id

theorem involved_postEvict {k : CarrierId} {e d : ChannelId} : Involved (postEvict k e h) d ↔ Involved h d := by
  simp only [Involved, Holds, postEvict_air]

/-- A channel evicted from its carrier is left neither holding nor waiting. -/
theorem evicted_free (l : h.AirLawful) {j : CarrierId} {c d : ChannelId} {since : Nat} (own : h.air.carriers[j] = .onAir d since)
    (hc : ¬ Involved h c) : ¬ Involved (giveCarrier j c h) d := by
  have hold : h.air.carriers[j].channel? = some d := by rw [own]; rfl
  rintro (⟨i, hi⟩ | hw)
  · by_cases e : j = i
    · subst e
      rw [show (giveCarrier j c h).air.carriers[j] = .onAir c h.now from vset_same _ _ _] at hi
      exact hc (.inl ⟨j, by rw [hold, ← hi]; rfl⟩)
    · rw [show (giveCarrier j c h).air.carriers[i] = h.air.carriers[i] from vset_other _ _ e] at hi
      exact l.single j i e d hold hi
  · exact (l.waiters d hw).2 j hold

theorem offer_lawful (l : h.AirLawful) {c : ChannelId} (free : ¬ Involved h c) {k : Hall} (e : offer c h = some k) :
    k.AirLawful := by
  have evict (j : CarrierId) (d : ChannelId) : (postEvict j d h).AirLawful := postEvict_lawful l j d
  have free' (j : CarrierId) (d : ChannelId) : ¬ Involved (postEvict j d h) c := fun i => free (involved_postEvict.mp i)
  rcases offer_cases e with ⟨j, hj, e⟩ | ⟨j, d, m, e⟩ | ⟨j, d, m, e⟩ <;> rw [e]
  · exact giveCarrier_lawful l hj free
  · exact giveCarrier_lawful (evict j d) (holder_mem m).1 (free' j d)
  · obtain ⟨hj, ⟨since, own⟩, -, -⟩ := holder_mem m
    have own' : (postEvict j d h).air.carriers[j] = .onAir d since := by rw [postEvict_air]; exact own
    refine joinWait_lawful (giveCarrier_lawful (evict j d) hj (free' j d)) ?_ (evicted_free (evict j d) own' (free' j d))
    exact holder_ne_zero l hj (by rw [own]; rfl)

theorem offer_involved {c d : ChannelId} {k : Hall} (e : offer c h = some k) (i : Involved k d) :
    Involved h d ∨ d = c := by
  rcases offer_cases e with ⟨j, hj, e⟩ | ⟨j, x, m, e⟩ | ⟨j, x, m, e⟩ <;> rw [e] at i
  · exact involved_giveCarrier i
  · exact (involved_giveCarrier i).imp_left involved_postEvict.mp
  · obtain ⟨hj, ⟨since, own⟩, -, -⟩ := holder_mem m
    rcases involved_joinWait i with i | rfl
    · exact (involved_giveCarrier i).imp_left involved_postEvict.mp
    · exact .inl (.inl ⟨j, by rw [own]; rfl⟩)

theorem requestCarrier_lawful (l : h.AirLawful) {c : ChannelId} (hc : c ≠ 0) (free : ¬ Involved h c) :
    (requestCarrier c h).AirLawful := by
  unfold requestCarrier
  split
  · exact offer_lawful l free ‹_›
  · exact joinWait_lawful l hc free

theorem requestCarrier_involved {c d : ChannelId} (i : Involved (requestCarrier c h) d) : Involved h d ∨ d = c := by
  unfold requestCarrier at i
  split at i
  · exact offer_involved ‹_› i
  · exact involved_joinWait i

/-! ### Service of the list, and the report -/

theorem serveList_lawful (n : Nat) {h : Hall} (l : h.AirLawful) : (serveList n h).AirLawful := by
  induction n generalizing h with
  | zero => exact l
  | succ n ih =>
    unfold serveList
    split
    · exact l
    · next c rest hw =>
      have nodup := waiting_nodup l
      have ranked := l.ranked
      rw [hw] at nodup ranked
      have lr : (h.setWaiting rest).AirLawful :=
        setWaiting_lawful l (fun _ hd => waiter_free l (by rw [hw]; exact .tail _ hd)) (List.pairwise_cons.mp ranked).2
      have free : ¬ Involved (h.setWaiting rest) c := by
        rintro (hold | w)
        · exact (waiter_free l (by rw [hw]; exact .head _)).2 hold
        · exact (List.nodup_cons.mp nodup).1 w
      split
      · exact ih (offer_lawful lr free ‹_›)
      · exact l

@[simp] theorem spells_air (h : Hall) (c) : (h.spells c).air = h.air := by
  unfold Hall.spells
  dsimp only
  split <;> rfl

@[simp] theorem reviewChannel_air (h : Hall) (c) : (reviewChannel h c).air = h.air := by simp [reviewChannel]

theorem foldl_air {α : Type} (f : Hall → α → Hall) (hf : ∀ h x, (f h x).air = h.air) (l : List α) (h : Hall) :
    (l.foldl f h).air = h.air :=
  foldl_keeps (R := fun h k : Hall => k.air = h.air) (fun _ => rfl) (fun p q => q.trans p) hf l h

@[simp] theorem raiseGeneration_air (h : Hall) : (raiseGeneration h).air = h.air := by
  unfold raiseGeneration
  split <;> rfl

theorem handInUse_air (h : Hall) : (handInUse h).air = { h.air with peak := max h.air.peak h.inUse } := by
  simp [handInUse]

/-- An event of the allocator ends with the carriers and the list its service leaves; the peak may rise. -/
theorem allocReport_air (before h : Hall) :
    (allocReport before h).air.carriers = h.air.carriers ∧ (allocReport before h).air.waiting = h.air.waiting := by
  unfold allocReport
  simp only [handInUse_air, raiseGeneration_air, foldl_air _ reviewChannel_air, and_self]

theorem lawful_of_parts {h k : Hall} (car : k.air.carriers = h.air.carriers) (wait : k.air.waiting = h.air.waiting)
    (demand : ∀ c : ChannelId, k.channels[c].demand = h.channels[c].demand) (l : h.AirLawful) : k.AirLawful := by
  obtain ⟨floor, single, waiters, ranked⟩ := l
  exact ⟨by rwa [car], by rwa [car], by rwa [car, wait], by rwa [wait, outranks_congr h demand]⟩

theorem allocEvent_lawful {act : Hall → Hall} (l : (act h).AirLawful) : (allocEvent act h).AirLawful :=
  lawful_of_parts (allocReport_air _ _).1 (allocReport_air _ _).2 (kept_allocReport _ _).demand (serveList_lawful 32 l)

/-! ### The allocator's actions -/

theorem resumeCarrier_lawful (l : h.AirLawful) (k : CarrierId) : (resumeCarrier k h).AirLawful := by
  unfold resumeCarrier
  split
  · next c s e hk =>
    refine sameChannel_lawful l ?_ (by rw [hk]; rfl)
    rintro rfl
    obtain ⟨since, f⟩ := l.floor
    rw [f] at hk
    cases hk
  · exact l

theorem beginHold_lawful (l : h.AirLawful) {k : CarrierId} (hk : k ≠ 0) : (beginHold k h).AirLawful := by
  unfold beginHold
  split
  · next c s e =>
    split
    · exact freeCarrier_lawful l hk
    · exact sameChannel_lawful l hk (by rw [e]; rfl)
  · exact l

/-- A report of a new service state keeps the law: channel 0 is always LIVE (R10). -/
theorem serviceReport_lawful (l : h.AirLawful) {c : ChannelId} {v : Service} (hv : c = 0 → v = .live) :
    (serviceReport c v h).AirLawful := by
  have silent {k : CarrierId} (e : h.carrierOf c = some k) (ne : v ≠ .live) : k ≠ 0 :=
    carrier_ne_zero l (fun z => ne (hv z)) (carrierOf_some e)
  unfold serviceReport
  split
  · next e =>
    split
    · exact l
    · next w =>
      have none := carrierOf_none e
      exact requestCarrier_lawful l (fun z => none (z ▸ floor_holds l)) (by rintro (i | i); exacts [none i, w i])
  · exact leaveWait_lawful l c
  · exact resumeCarrier_lawful l _
  · exact resumeCarrier_lawful l _
  · next e =>
    split
    · exact l
    · exact beginHold_lawful l (silent e nofun)
  · next e => exact leaveWait_lawful (freeCarrier_lawful l (silent e nofun)) c

theorem not_involved_leaveWait {c : ChannelId} (none : ¬ Holds h c) : ¬ Involved (leaveWait c h) c := by
  rintro (i | i)
  · exact none i
  · simp [leaveWait, Hall.setWaiting] at i

theorem pinnedReport_lawful (l : h.AirLawful) (c : ChannelId) : (pinnedReport c h).AirLawful := by
  unfold pinnedReport
  split
  · next e =>
    have none := carrierOf_none e
    exact requestCarrier_lawful (leaveWait_lawful l c) (fun z => none (z ▸ floor_holds l)) (not_involved_leaveWait none)
  · exact resumeCarrier_lawful l _

theorem unpinnedReport_lawful (l : h.AirLawful) {c : ChannelId} (hc : c ≠ 0) : (unpinnedReport c h).AirLawful := by
  unfold unpinnedReport
  split
  · next e =>
    split
    · exact freeCarrier_lawful l (carrier_ne_zero l hc (carrierOf_some e))
    · exact l
  · exact l

/-- A list in order by the demand before is put in order by the demand after (R85). -/
theorem reorder_lawful {k : Hall} (l : h.AirLawful) (air : k.air = h.air) : (reorder k).AirLawful := by
  have wait : k.air.waiting = h.air.waiting := by rw [air]
  have car : (reorder k).air.carriers = h.air.carriers := by
    show k.air.carriers = h.air.carriers
    rw [air]
  refine ⟨by rw [car]; exact l.floor, by rw [car]; exact l.single, fun c hc => ?_, ?_⟩
  · rw [car]
    refine l.waiters c ?_
    rw [← wait]
    exact mem_sortBy.mp hc
  · exact sortBy_pairwise (before := k.outranks) (outranks_trans k) (outranks_total k) (by rw [wait]; exact waiting_nodup l)

theorem demandRise_lawful (l : h.AirLawful) (c : ChannelId) : (demandRise c h).AirLawful :=
  allocEvent_lawful (reorder_lawful l rfl)

theorem demandFall_lawful (l : h.AirLawful) (c : ChannelId) : (demandFall c h).AirLawful :=
  allocEvent_lawful (reorder_lawful l rfl)

/-! ### The build from empty (R94) -/

theorem requests_lawful {l : List ChannelId} {h : Hall} (a : h.AirLawful) (nodup : l.Nodup)
    (fresh : ∀ c ∈ l, c ≠ 0 ∧ ¬ Involved h c) : (l.foldl (fun h c => requestCarrier c h) h).AirLawful := by
  induction l generalizing h with
  | nil => exact a
  | cons c l ih =>
    obtain ⟨hc, nodup⟩ := List.nodup_cons.mp nodup
    refine ih (requestCarrier_lawful a (fresh c (.head _)).1 (fresh c (.head _)).2) nodup fun d hd => ?_
    refine ⟨(fresh d (.tail _ hd)).1, fun i => ?_⟩
    rcases requestCarrier_involved i with i | rfl
    · exact (fresh d (.tail _ hd)).2 i
    · exact hc hd

theorem requests_involved {l : List ChannelId} {h : Hall} {d : ChannelId}
    (i : Involved (l.foldl (fun h c => requestCarrier c h) h) d) : Involved h d ∨ d ∈ l := by
  induction l generalizing h with
  | nil => exact .inl i
  | cons c l ih =>
    rcases ih i with i | m
    · exact (requestCarrier_involved i).imp_right fun e => by rw [e]; exact .head _
    · exact .inr (.tail _ m)

/-- The carriers of an empty allocator: carrier 0 for channel 0, and no other. -/
def emptyAir (h : Hall) : Hall :=
  (ids 16).foldl (fun h k => h.setCarrier k (if k = 0 then .onAir 0 h.now else .free)) (h.setWaiting [])

theorem setCarriers_get (f : CarrierId → Nat → Carrier) (l : List CarrierId) (h : Hall) (j : CarrierId) :
    (l.foldl (fun h k => h.setCarrier k (f k h.now)) h).air.carriers[j] =
      if j ∈ l then f j h.now else h.air.carriers[j] := by
  induction l generalizing h with
  | nil => simp
  | cons k l ih =>
    rw [List.foldl_cons, ih]
    by_cases m : j ∈ l
    · simp [m, Hall.setCarrier, Hall.now]
    · by_cases e : k = j
      · subst e
        rw [if_neg m, if_pos (List.mem_cons_self ..)]
        exact vset_same _ _ _
      · rw [if_neg m, if_neg (by simp [m, Ne.symm e])]
        exact vset_other _ _ e

theorem emptyAir_get (h : Hall) (j : CarrierId) :
    (emptyAir h).air.carriers[j] = if j = 0 then .onAir 0 h.now else .free := by
  have := setCarriers_get (fun k m => if k = 0 then .onAir 0 m else .free) (ids 16) (h.setWaiting []) j
  rwa [if_pos (mem_ids j)] at this

theorem setCarriers_waiting (f : CarrierId → Nat → Carrier) (l : List CarrierId) (h : Hall) :
    (l.foldl (fun h k => h.setCarrier k (f k h.now)) h).air.waiting = h.air.waiting := by
  induction l generalizing h with
  | nil => rfl
  | cons k l ih => exact ih _

theorem emptyAir_waiting (h : Hall) : (emptyAir h).air.waiting = [] :=
  setCarriers_waiting (fun k m => if k = 0 then .onAir 0 m else .free) (ids 16) (h.setWaiting [])

theorem emptyAir_holder {h : Hall} {c : ChannelId} {j : CarrierId}
    (e : (emptyAir h).air.carriers[j].channel? = some c) : j = 0 ∧ c = 0 := by
  rw [emptyAir_get] at e
  split at e <;> cases e
  exact ⟨‹_›, rfl⟩

theorem emptyAir_lawful (h : Hall) : (emptyAir h).AirLawful := by
  refine ⟨⟨h.now, by rw [emptyAir_get, if_pos rfl]⟩, fun i j ne c hi hj => ?_, fun c hc => ?_, ?_⟩
  · exact ne ((emptyAir_holder hi).1.trans (emptyAir_holder hj).1.symm)
  · rw [emptyAir_waiting] at hc; cases hc
  · rw [emptyAir_waiting]; exact .nil

theorem buildCarriers_eq (h : Hall) : buildCarriers h =
    let wants (p : Bool) : List ChannelId := (ids 32).filter fun c => c != 0 && h.settings.channels[c].enabled &&
      h.settings.channels[c].pinned == p && (p || h.channels[c].service == .live)
    let h1 := (wants true).foldl (fun h c => requestCarrier c h) (emptyAir h)
    (sortBy h.outranks (wants false)).foldl (fun h c => requestCarrier c h) h1 := rfl

/-- The carriers built from empty keep the law, whatever stood before (R94). -/
theorem buildCarriers_lawful (h : Hall) : (buildCarriers h).AirLawful := by
  rw [buildCarriers_eq]
  dsimp only
  have base {c : ChannelId} (i : Involved (emptyAir h) c) : c = 0 := by
    rcases i with ⟨j, hj⟩ | w
    · exact (emptyAir_holder hj).2
    · rw [emptyAir_waiting] at w; cases w
  have nodup (p : ChannelId → Bool) : ((ids 32).filter p).Nodup := (List.nodup_finRange 32).sublist List.filter_sublist
  refine requests_lawful (requests_lawful (emptyAir_lawful h) (nodup _) fun c hc => ?_)
    ((sortBy_perm _).nodup_iff.mpr (nodup _)) fun c hc => ?_
  · have : c ≠ 0 := by
      have := (List.mem_filter.mp hc).2
      simp only [Bool.and_eq_true, bne_iff_ne] at this
      exact this.1.1.1
    exact ⟨this, fun i => this (base i)⟩
  · have m := (List.mem_filter.mp (mem_sortBy.mp hc)).2
    simp only [Bool.and_eq_true, bne_iff_ne, beq_iff_eq] at m
    obtain ⟨⟨⟨c0, -⟩, unpinned⟩, -⟩ := m
    refine ⟨c0, fun i => ?_⟩
    rcases requests_involved i with i | i
    · exact c0 (base i)
    · have := (List.mem_filter.mp i).2
      simp only [Bool.and_eq_true, unpinned, beq_iff_eq, Bool.false_eq_true, and_false, false_and] at this

end

end Sys2Proof.StepProofs
end

-- ==== Proofs: Stays ====
section
/-! PROOFS. What the blocks' operations on running state leave alone and ask for, said once for all of them: `Stays`.
The records (settings, fleet, demand, session, log, settlement queue, hall minute) stand, the carrier law is kept, and a
changed minute figure of the account has asked for its write (R1). -/

namespace Sys2Proof.StepProofs

open Machine

/-! ### The relation -/

/-- `k` is reached from `h` without a change of the session, the log, the settlement queue or the minute; the carrier law
is kept, and the writes asked for are asked for still. -/
structure Around (h k : Hall) : Prop where
  minute  : k.clock.minute = h.clock.minute
  stale   : k.clock.stale = h.clock.stale
  session : k.account.session = h.account.session
  last    : k.account.lastSession = h.account.lastSession
  log     : k.account.log = h.account.log
  queue   : k.account.queue = h.account.queue
  seq     : k.account.seq = h.account.seq
  air     : h.AirLawful → k.AirLawful
  grows   : ∃ l, k.work.asks = h.work.asks ++ l

/-- `Around`, and the settings stand: what the hire unit's operations are. -/
structure HireWork (h k : Hall) : Prop extends Around h k where
  settings : k.settings = h.settings

/-- `Around`, the fleet and the demand stand, and a change of the account has asked for an ACCOUNT write. -/
structure Works (h k : Hall) : Prop extends Around h k where
  fleet   : k.fleet = h.fleet
  demand  : ∀ c : ChannelId, k.channels[c].demand = h.channels[c].demand
  asks    : ∃ l, k.work.asks = h.work.asks ++ l ∧ (k.account ≠ h.account → ∃ a ∈ l, a.account = true)

/-- `Works`, and the settings stand. -/
structure Stays (h k : Hall) : Prop extends Works h k where
  settings : k.settings = h.settings

theorem Around.refl (h : Hall) : Around h h := ⟨rfl, rfl, rfl, rfl, rfl, rfl, rfl, id, [], by simp⟩

theorem Around.trans {h k l : Hall} (p : Around h k) (q : Around k l) : Around h l where
  minute := q.minute.trans p.minute
  stale := q.stale.trans p.stale
  session := q.session.trans p.session
  last := q.last.trans p.last
  log := q.log.trans p.log
  queue := q.queue.trans p.queue
  seq := q.seq.trans p.seq
  air := q.air ∘ p.air
  grows := by
    obtain ⟨x, hx⟩ := p.grows
    obtain ⟨y, hy⟩ := q.grows
    exact ⟨x ++ y, by rw [hy, hx, List.append_assoc]⟩

theorem Works.refl (h : Hall) : Works h h := ⟨.refl h, rfl, fun _ => rfl, [], by simp, fun n => absurd rfl n⟩

theorem Works.trans {h k l : Hall} (p : Works h k) (q : Works k l) : Works h l where
  toAround := p.toAround.trans q.toAround
  fleet := q.fleet.trans p.fleet
  demand c := (q.demand c).trans (p.demand c)
  asks := by
    obtain ⟨x, hx, ax⟩ := p.asks
    obtain ⟨y, hy, ay⟩ := q.asks
    refine ⟨x ++ y, by rw [hy, hx, List.append_assoc], fun ne => ?_⟩
    by_cases e : k.account = h.account
    · obtain ⟨a, ha, t⟩ := ay (e ▸ ne)
      exact ⟨a, List.mem_append_right _ ha, t⟩
    · obtain ⟨a, ha, t⟩ := ax e
      exact ⟨a, List.mem_append_left _ ha, t⟩

theorem Stays.refl (h : Hall) : Stays h h := ⟨.refl h, rfl⟩

theorem Stays.trans {h k l : Hall} (p : Stays h k) (q : Stays k l) : Stays h l :=
  ⟨p.toWorks.trans q.toWorks, q.settings.trans p.settings⟩

theorem Stays.foldl {α : Type} {f : Hall → α → Hall} (hf : ∀ h x, Stays h (f h x)) (l : List α) (h : Hall) :
    Stays h (l.foldl f h) := foldl_keeps Stays.refl Stays.trans hf l h

theorem Stays.hireWork {h k : Hall} (p : Stays h k) : HireWork h k := ⟨p.toAround, p.settings⟩

theorem HireWork.refl (h : Hall) : HireWork h h := ⟨.refl h, rfl⟩

theorem HireWork.trans {h k l : Hall} (p : HireWork h k) (q : HireWork k l) : HireWork h l :=
  ⟨p.toAround.trans q.toAround, q.settings.trans p.settings⟩

/-- `k` is `h` but for running state that no record and no carrier is part of. -/
structure Quiet (h k : Hall) : Prop where
  eq : k = { h with
    clock := { h.clock with ticks := k.clock.ticks, minuteStart := k.clock.minuteStart }
    channels := k.channels
    waitLists := k.waitLists
    booths := k.booths
    consoles := k.consoles
    bus := k.bus
    link := k.link
    lowFired := k.lowFired
    meters := k.meters
    levels := k.levels
    free := k.free
    work := { k.work with asks := h.work.asks } }
  demand : ∀ c : ChannelId, k.channels[c].demand = h.channels[c].demand

theorem stays_quiet {h k : Hall} (q : Quiet h k) : Stays h k := by
  have e := q.eq
  have air : k.air = h.air := by rw [e]
  have asks : k.work.asks = h.work.asks ++ [] := by rw [e, List.append_nil]
  exact ⟨⟨⟨by rw [e], by rw [e], by rw [e], by rw [e], by rw [e], by rw [e], by rw [e], lawful_congr air q.demand, [], asks⟩,
    by rw [e], q.demand, [], asks, fun n => absurd (by rw [e]) n⟩, by rw [e]⟩

theorem quiet_rfl {h k : Hall} (channels : k.channels = h.channels) (eq : k = { h with
    clock := { h.clock with ticks := k.clock.ticks, minuteStart := k.clock.minuteStart }
    waitLists := k.waitLists
    booths := k.booths
    consoles := k.consoles
    bus := k.bus
    link := k.link
    lowFired := k.lowFired
    meters := k.meters
    levels := k.levels
    free := k.free
    work := { k.work with asks := h.work.asks } }) : Stays h k :=
  stays_quiet ⟨by rw [channels]; exact eq, fun _ => by rw [channels]⟩

theorem stays_metered {h k : Hall} (p : Metered h k) : Stays h k :=
  quiet_rfl p.channels (by rw [p])

/-- `k` is `h` but for the allocator and the meter unit. -/
def Aired (h k : Hall) : Prop :=
  k = { h with air := k.air, meters := k.meters, levels := k.levels, free := k.free,
               work := { h.work with posts := k.work.posts } }

theorem Aired.refl (h : Hall) : Aired h h := rfl

theorem Aired.trans {h k l : Hall} (p : Aired h k) (q : Aired k l) : Aired h l := by
  unfold Aired at *
  rw [q, p]

theorem aired_metered {h k : Hall} (p : Metered h k) : Aired h k := by
  unfold Aired
  rw [p]

theorem stays_aired {h k : Hall} (p : Aired h k) (air : h.AirLawful → k.AirLawful) : Stays h k := by
  unfold Aired at p
  have asks : k.work.asks = h.work.asks ++ [] := by rw [p, List.append_nil]
  exact ⟨⟨⟨by rw [p], by rw [p], by rw [p], by rw [p], by rw [p], by rw [p], by rw [p], air, [], asks⟩,
    by rw [p], fun _ => by rw [p], [], asks, fun n => absurd (by rw [p]) n⟩, by rw [p]⟩

/-- Minute figures of the account changed, with running state, and the ACCOUNT write asked for (R1). -/
structure Counted (h k : Hall) : Prop where
  eq : k = { h with
    account := { h.account with channels := k.account.channels, booths := k.account.booths, consoleLive := k.account.consoleLive }
    channels := k.channels
    booths := k.booths
    consoles := k.consoles }
  demand : ∀ c : ChannelId, k.channels[c].demand = h.channels[c].demand

theorem stays_counted {h k : Hall} (p : Counted h k) : Stays h (k.ask onlyAccount) := by
  have e := p.eq
  have asks : (k.ask onlyAccount).work.asks = h.work.asks ++ [onlyAccount] := by rw [e]; rfl
  exact ⟨⟨⟨by rw [e]; rfl, by rw [e]; rfl, by rw [e]; rfl, by rw [e]; rfl, by rw [e]; rfl, by rw [e]; rfl, by rw [e]; rfl,
    lawful_congr (by rw [e]; rfl) p.demand, [onlyAccount], asks⟩,
    by rw [e]; rfl, p.demand, [onlyAccount], asks, fun _ => ⟨_, .head _, rfl⟩⟩, by rw [e]; rfl⟩

/-- Minute figures that stand as they were need no write. -/
theorem stays_uncounted {h k : Hall} (p : Counted h k) (same : k.account = h.account) : Stays h k := by
  have e := p.eq
  refine stays_quiet ⟨?_, p.demand⟩
  rw [← same] at e
  generalize k.channels = a, k.booths = b, k.consoles = c at e ⊢
  rw [e, same]

end Sys2Proof.StepProofs
end

-- ==== Proofs: StaysOps ====
section
/-! PROOFS. `Stays`, operation by operation: spells, the carrier allocator, relay, the interlock, the console bus, the
emitter link, and the meters. -/

namespace Sys2Proof.StepProofs

open Machine

variable (h : Hall)

/-! ### One record changed -/

theorem stays_post (cls kind subject value) : Stays h (h.post cls kind subject value) := quiet_rfl rfl rfl
theorem stays_logFault (code subject) : Stays h (h.logFault code subject) := quiet_rfl rfl rfl
theorem stays_modSlot (e f) : Stays h (h.modSlot e f) := quiet_rfl rfl rfl
theorem stays_modConsole (a f) : Stays h (h.modConsole a f) := quiet_rfl rfl rfl
theorem stays_modBooth (b f) : Stays h (h.modBooth b f) := quiet_rfl rfl rfl
theorem stays_modWaitList (c f) : Stays h (h.modWaitList c f) := quiet_rfl rfl rfl
theorem stays_touch (c) : Stays h (h.touch c) := quiet_rfl rfl rfl
theorem stays_noteGrant (a) : Stays h (h.noteGrant a) := quiet_rfl rfl rfl
theorem stays_touched (l) : Stays h { h with work := { h.work with touched := l } } := quiet_rfl rfl rfl
theorem stays_link (l) : Stays h { h with link := l } := quiet_rfl rfl rfl
theorem stays_bus (x) : Stays h { h with bus := x } := quiet_rfl rfl rfl

theorem stays_modChannel (c : ChannelId) (f : ChannelRun → ChannelRun) (hf : ∀ r, (f r).demand = r.demand) :
    Stays h (h.modChannel c f) :=
  stays_quiet ⟨rfl, fun d => vmod_keeps ChannelRun.demand h.channels c d f hf⟩

theorem stays_ask (a) : Stays h (h.ask a) :=
  ⟨⟨⟨rfl, rfl, rfl, rfl, rfl, rfl, rfl, fun l => lawful_congr (h := h) rfl (fun _ => rfl) l, [a], rfl⟩, rfl, fun _ => rfl,
    [a], rfl, fun n => absurd rfl n⟩, rfl⟩

theorem stays_meterEvent (e) : Stays h (meterEvent e h) := stays_metered (metered_meterEvent e h)
theorem stays_meterLevelChange (k v) : Stays h (meterLevelChange k v h) := stays_metered (metered_meterLevelChange k v h)
theorem stays_handUnserved : Stays h h.handUnserved := stays_metered (metered_handUnserved h)

/-! ### Spells (R12, R14, R17) -/

theorem vmod_id {α : Type} {n : Nat} (v : Vector α n) (i : Fin n) (f : α → α) (e : f v[i] = v[i]) : vmod v i f = v :=
  table_ext fun j => by
    rw [vmod_get]
    split
    · next h => subst h; exact e
    · rfl

/-- A channel's stamps and minutes set, the write asked for where a figure has changed. -/
theorem stays_channelMinutes (c : ChannelId) (f : ChannelRun → ChannelRun) (hf : ∀ r, (f r).demand = r.demand)
    (day : ChannelDay) :
    Stays h (if day = h.account.channels[c] then (h.modChannel c f).modChannelDay c fun _ => day
      else ((h.modChannel c f).modChannelDay c fun _ => day).ask onlyAccount) := by
  have counted : Counted h ((h.modChannel c f).modChannelDay c fun _ => day) :=
    ⟨rfl, fun d => vmod_keeps ChannelRun.demand h.channels c d f hf⟩
  split
  · next e =>
    refine stays_uncounted counted ?_
    show { h.account with channels := vmod h.account.channels c fun _ => day } = h.account
    rw [vmod_id _ c _ e]
  · exact stays_counted counted

theorem stays_spells (c) : Stays h (h.spells c) := by
  unfold Hall.spells
  exact stays_channelMinutes h c _ (by intro _; rfl) _

theorem stays_bringUpChannel (c) : Stays h (h.bringUpChannel c) := by
  unfold Hall.bringUpChannel
  exact stays_channelMinutes h c _ (by intro _; rfl) _

theorem stays_bringUpChannels : Stays h h.bringUpChannels := .foldl stays_bringUpChannel _ _

theorem stays_reviewChannel (c) : Stays h (reviewChannel h c) := (stays_spells h c).trans (stays_handUnserved _)

theorem stays_spellsAll : Stays h h.spellsAll := (Stays.foldl stays_spells _ _).trans (stays_handUnserved _)

/-! ### The carrier allocator -/

theorem aired_joinWait (c) : Aired h (joinWait c h) := by
  have listed (l n) : Aired h ((h.setWaiting l).post .carrier .carrierWait c.val n) := rfl
  unfold joinWait
  exact (listed _ _).trans (aired_metered (metered_meterEvent _ _))

theorem aired_giveCarrier (k c) : Aired h (giveCarrier k c h) := rfl

theorem aired_postEvict (k e) : Aired h (postEvict k e h) :=
  Aired.trans (k := h.post .carrier .carrierEvict e.val k.val) rfl (aired_metered (metered_meterEvent _ _))

theorem aired_offer {c : ChannelId} {k : Hall} (e : offer c h = some k) : Aired h k := by
  rcases offer_cases e with ⟨j, -, e⟩ | ⟨j, d, -, e⟩ | ⟨j, d, -, e⟩ <;> rw [e]
  · exact aired_giveCarrier h j c
  · exact (aired_postEvict h j d).trans (aired_giveCarrier _ _ _)
  · exact ((aired_postEvict h j d).trans (aired_giveCarrier _ _ _)).trans (aired_joinWait _ _)

theorem aired_requestCarrier (c) : Aired h (requestCarrier c h) := by
  unfold requestCarrier
  split
  · exact aired_offer h ‹_›
  · exact aired_joinWait h c

theorem aired_serveList (n : Nat) (h : Hall) : Aired h (serveList n h) := by
  induction n generalizing h with
  | zero => exact .refl h
  | succ n ih =>
    unfold serveList
    split
    · exact .refl h
    · next c rest _ =>
      split
      · exact (Aired.trans (k := h.setWaiting rest) rfl (aired_offer _ ‹_›)).trans (ih _)
      · exact .refl h

theorem aired_resumeCarrier (k) : Aired h (resumeCarrier k h) := by
  unfold resumeCarrier
  split <;> rfl

theorem aired_serviceReport (c v) : Aired h (serviceReport c v h) := by
  unfold serviceReport
  split
  · split
    · exact .refl h
    · exact aired_requestCarrier h c
  · rfl
  · exact aired_resumeCarrier h _
  · exact aired_resumeCarrier h _
  · split
    · exact .refl h
    · unfold beginHold
      split
      · split <;> rfl
      · exact .refl h
  · rfl

theorem aired_pinnedReport (c) : Aired h (pinnedReport c h) := by
  unfold pinnedReport
  split
  · exact Aired.trans (k := leaveWait c h) rfl (aired_requestCarrier _ _)
  · exact aired_resumeCarrier h _

theorem aired_unpinnedReport (c) : Aired h (unpinnedReport c h) := by
  unfold unpinnedReport
  split
  · split <;> rfl
  · rfl

theorem aired_foldl {α : Type} {f : Hall → α → Hall} (hf : ∀ h x, Aired h (f h x)) (l : List α) (h : Hall) :
    Aired h (l.foldl f h) := foldl_keeps Aired.refl Aired.trans hf l h

theorem aired_buildCarriers : Aired h (buildCarriers h) := by
  rw [buildCarriers_eq]
  have base : Aired h (emptyAir h) :=
    Aired.trans (k := h.setWaiting []) rfl
      (aired_foldl (f := fun h k => h.setCarrier k (if k = 0 then .onAir 0 h.now else .free)) (fun _ _ => rfl) _ _)
  exact (base.trans (aired_foldl (fun k c => aired_requestCarrier k c) _ _)).trans
    (aired_foldl (fun k c => aired_requestCarrier k c) _ _)

theorem stays_raiseGeneration : Stays h (raiseGeneration h) := by
  unfold raiseGeneration
  split
  · exact .refl h
  · exact stays_link h _

theorem stays_handInUse : Stays h (handInUse h) :=
  Stays.trans (k := { h with air := { h.air with peak := max h.air.peak h.inUse } })
    (stays_aired rfl (lawful_of_parts rfl rfl fun _ => rfl)) (stays_meterLevelChange _ _ _)

theorem stays_allocReport (before) : Stays h (allocReport before h) :=
  ((Stays.foldl stays_reviewChannel _ _).trans (stays_raiseGeneration _)).trans (stays_handInUse _)

theorem stays_serveList (n) : Stays h (serveList n h) := stays_aired (aired_serveList n h) (serveList_lawful n)

/-- An event of the allocator whose own action stays within the allocator. -/
theorem stays_allocEvent {act : Hall → Hall} (p : Stays h (act h)) : Stays h (allocEvent act h) :=
  (p.trans (stays_serveList _ _)).trans (stays_allocReport _ _)

theorem stays_expireHold (k) : Stays h (expireHold k h) := by
  unfold expireHold
  split
  · next due =>
    refine stays_allocEvent h (stays_aired rfl fun l => freeCarrier_lawful l ?_)
    rintro rfl
    obtain ⟨since, f⟩ := l.floor
    simp only [f, Carrier.expiry?, Hall.timerDue, Option.any_none, Bool.false_eq_true] at due
  · exact .refl h

theorem stays_build : Stays h (allocEvent buildCarriers h) :=
  stays_allocEvent h (stays_aired (aired_buildCarriers h) fun _ => buildCarriers_lawful h)

/-! ### Relay and the channel plan -/

theorem stays_endFallbackSpell (b) : Stays h (endFallbackSpell b h) := by
  unfold endFallbackSpell
  split
  · exact stays_counted ⟨rfl, fun _ => rfl⟩
  · exact .refl h

theorem stays_openFallbackSpell (b) : Stays h (openFallbackSpell b h) := by
  unfold openFallbackSpell
  split
  · exact stays_modBooth h _ _
  · exact .refl h

theorem stays_resolveBooth (b) : Stays h (resolveBooth h b) := by
  unfold resolveBooth
  split
  · exact (((stays_modBooth h b _).trans (stays_post _ _ _ _ _)).trans (stays_meterEvent _ _)).trans
      (stays_openFallbackSpell _ _)
  · exact ((stays_modBooth h b _).trans (stays_post _ _ _ _ _)).trans (stays_endFallbackSpell _ _)
  · exact stays_modBooth h b _
  · exact .refl h

theorem stays_resolveAll : Stays h (resolveAll h) := .foldl stays_resolveBooth _ _

theorem stays_resolveListing (c) : Stays h (resolveListing c h) := .foldl stays_resolveBooth _ _

theorem serviceOf_zero : h.serviceOf 0 = .live := rfl

theorem stays_reevaluate (c) : Stays h (reevaluate h c) := by
  unfold reevaluate
  dsimp only
  split
  · exact stays_reviewChannel h c
  · refine (((stays_modChannel h c _ (by intro _; rfl)).trans (stays_reviewChannel _ c)).trans (stays_allocEvent _ ?_)).trans
      (stays_resolveListing _ c)
    exact stays_aired (aired_serviceReport _ _ _) fun l => serviceReport_lawful l fun z => by rw [z]; exact serviceOf_zero h

theorem stays_reportFeeders : Stays h (reportFeeders h) := (stays_touched h []).trans (.foldl stays_reevaluate _ _)

theorem stays_settle : Stays h (settle h) :=
  ((stays_reportFeeders h).trans (stays_resolveAll _)).trans (stays_meterLevelChange _ _ _)

/-! ### The interlock -/

theorem stays_endLiveSpell (a) : Stays h (endLiveSpell a h) := by
  unfold endLiveSpell
  split
  · exact .refl h
  · dsimp only
    split <;> exact stays_counted ⟨rfl, fun _ => rfl⟩

theorem stays_stepDown (a v) : Stays h (stepDown a v h) := (stays_endLiveSpell h a).trans (stays_modConsole _ _ _)

theorem stays_openLiveSpell (a) : Stays h (openLiveSpell a h) := by
  unfold openLiveSpell
  split
  · exact stays_modConsole h _ _
  · exact .refl h

theorem stays_setFeeder (c f) : Stays h (setFeeder c f h) := (stays_modChannel h c _ (by intro _; rfl)).trans (stays_touch _ _)
theorem stays_setOwner (b o) : Stays h (setOwner b o h) := stays_modBooth h _ _
theorem stays_dropEntry (c a) : Stays h (dropEntry c a h) := stays_modWaitList h _ _

theorem stays_grant (a b c) : Stays h (grant a b c h) :=
  ((((((stays_modConsole h a _).trans (stays_setFeeder _ _ _)).trans (stays_setOwner _ _ _)).trans
    (stays_dropEntry _ _ _)).trans (stays_openLiveSpell _ _)).trans (stays_meterEvent _ _)).trans (stays_noteGrant _ _)

theorem stays_startTimer (a b) : Stays h (startTimer a b h) := by
  unfold startTimer
  split
  · exact stays_modConsole h _ _
  · exact .refl h

theorem stays_freshRequest (a b c) : Stays h (freshRequest a b c h) := by
  unfold freshRequest
  split
  · exact stays_grant h a b c
  · exact (((stays_modConsole h a _).trans (stays_setOwner _ _ _)).trans (stays_modWaitList _ _ _)).trans
      (stays_startTimer _ _ _)

theorem stays_channelPassOn (c) : Stays h (channelPassOn c h) := by
  unfold channelPassOn
  split
  · exact stays_grant h _ _ _
  · exact stays_setFeeder h _ _

theorem stays_boothPassOn (b) : Stays h (boothPassOn b h) := by
  unfold boothPassOn
  split
  · exact stays_setOwner h _ _
  · next y rest _ =>
    have first := (stays_modBooth h b fun r => { r with queue := rest, owner := none }).trans
      (stays_modConsole _ y fun r => { r with handoverExpiry := none })
    dsimp only
    split
    · exact first.trans (stays_freshRequest _ _ _ _)
    · exact first.trans (stays_modConsole _ _ _)

theorem stays_releaseChannel (a v b) : Stays h (releaseChannel a v b h) := by
  have first := (stays_stepDown h a v).trans (stays_setOwner _ b none)
  unfold releaseChannel
  dsimp only
  split
  · exact (first.trans (stays_setFeeder _ _ _)).trans (stays_channelPassOn _ _)
  · exact first

theorem stays_release (a v) : Stays h (release a v h) := by
  unfold release
  split
  · exact (stays_releaseChannel h a v _).trans (stays_boothPassOn _ _)
  · exact stays_stepDown h a v

theorem stays_endWait (a v) : Stays h (endWait a v h) := by
  unfold endWait
  dsimp only
  split
  · exact stays_modConsole h a _
  · split
    · exact (stays_modConsole h a _).trans (stays_modBooth _ _ _)
    · split
      · exact (((stays_modConsole h a _).trans (stays_dropEntry _ _ _)).trans (stays_setOwner _ _ _)).trans
          (stays_boothPassOn _ _)
      · exact stays_modConsole h a _

theorem stays_flash (a) : Stays h (flash a h) := stays_modConsole h _ _

theorem stays_queueRequest (a b) : Stays h (queueRequest a b h) :=
  ((stays_modConsole h a _).trans (stays_modBooth _ _ _)).trans (stays_startTimer _ _ _)

theorem stays_dismissWaiter (o) : Stays h (dismissWaiter o h) := stays_modConsole h _ _

theorem stays_overrideRequest (a b o t) : Stays h (overrideRequest a b o t h) := by
  unfold overrideRequest
  split
  · split
    · exact (stays_stepDown h o _).trans (stays_grant _ _ _ _)
    · exact (stays_releaseChannel h o _ _).trans (stays_freshRequest _ _ _ _)
  · split
    · exact .refl h
    · dsimp only
      split
      · exact (((stays_dismissWaiter h o).trans (stays_modConsole _ a _)).trans (stays_setOwner _ _ _)).trans
          (stays_modWaitList _ _ _)
      · exact (((stays_dismissWaiter h o).trans (stays_dropEntry _ _ _)).trans (stays_setOwner _ _ _)).trans
          (stays_freshRequest _ _ _ _)

theorem stays_talkRequest (a b) : Stays h (talkRequest a b h) := by
  unfold talkRequest
  split
  · exact stays_flash h a
  · split
    · exact stays_flash h a
    · split
      · exact stays_freshRequest h _ _ _
      · split
        · exact stays_overrideRequest h _ _ _ _
        · exact stays_queueRequest h _ _

theorem stays_talkPress (a) : Stays h (talkPress a h) := by
  unfold talkPress
  split
  · exact .refl h
  · split
    · exact stays_talkRequest h _ _
    · exact stays_endWait h _ _
    · exact stays_release h _ _
    · exact stays_release h _ _
    all_goals exact .refl h

/-- A press counted, in a CLOSED day too (log entry 47). -/
theorem stays_countHandover (b f) : Stays h ((h.modBoothDay b f).ask onlyAccount) := stays_counted ⟨rfl, fun _ => rfl⟩

theorem stays_handoverPress (a) : Stays h (handoverPress a h) := by
  unfold handoverPress
  split
  · exact .refl h
  · next b _ =>
    split
    · next y rest c _ _ _ =>
      have first := ((stays_stepDown h a .idle).trans (stays_modBooth _ b fun r => { r with queue := rest })).trans
        (stays_modConsole _ y fun r => { r with handoverExpiry := none })
      have passed := ((first.trans (stays_setOwner _ b none)).trans (stays_setFeeder _ c none)).trans (stays_channelPassOn _ c)
      dsimp only
      refine Stays.trans (Stays.trans ?_ (stays_countHandover _ _ _)) (stays_meterEvent _ _)
      split
      · exact first.trans (stays_grant _ _ _ _)
      · split
        · exact passed.trans (stays_freshRequest _ _ _ _)
        · exact passed.trans (stays_modConsole _ _ _)
    · exact .refl h

theorem stays_mutePress (a) : Stays h (mutePress a h) := by
  unfold mutePress
  split
  · exact stays_modConsole h _ _
  · exact .refl h

theorem stays_muteRelease (a) : Stays h (muteRelease a h) := by
  unfold muteRelease
  split
  · exact stays_modConsole h _ _
  · exact .refl h

theorem stays_moveFeed (a b o) : Stays h (moveFeed a b o h) := by
  unfold moveFeed
  split
  · exact .refl h
  · split
    · split
      · exact stays_flash h _
      · exact (((stays_modConsole h a _).trans (stays_setFeeder _ _ _)).trans (stays_setFeeder _ _ _)).trans
          (stays_channelPassOn _ _)
    · exact stays_flash h _

theorem stays_outputPress (a o) : Stays h (outputPress a o h) := by
  unfold outputPress
  split
  · exact .refl h
  · split
    · exact stays_modConsole h _ _
    · exact stays_moveFeed h _ _ _
    · exact stays_moveFeed h _ _ _
    all_goals exact .refl h

theorem stays_relayNextPress (a) : Stays h (relayNextPress a h) := by
  unfold relayNextPress
  split
  · exact .refl h
  · dsimp only
    split
    · exact .refl h
    · split
      · exact stays_modConsole h _ _
      · split
        · exact (stays_modBooth h _ _).trans (stays_modConsole _ _ _)
        · exact .refl h

theorem stays_takeKey (a e) : Stays h (takeKey a h e) := by
  unfold takeKey
  split
  · refine Stays.trans ?_ (stays_settle _)
    cases e
    · exact stays_muteRelease h a
    · exact stays_mutePress h a
    · exact stays_talkPress h a
    · exact stays_handoverPress h a
    · exact stays_outputPress h a _
    · exact stays_relayNextPress h a
  · exact .refl h

theorem stays_expireHandover (a) : Stays h (expireHandover a h) := by
  unfold expireHandover
  split
  · split
    · exact (((stays_endWait h a _).trans (stays_post _ _ _ _ _)).trans (stays_meterEvent _ _)).trans (stays_settle _)
    · exact .refl h
  · exact .refl h

theorem stays_takeShiftReminder (a) : Stays h (takeShiftReminder a h) := by
  unfold takeShiftReminder
  split
  · split
    · exact (((stays_modConsole h a _).trans (stays_post _ _ _ _ _)).trans (stays_meterEvent _ _)).trans
        (stays_modConsole _ _ _)
    · exact .refl h
  · exact .refl h

theorem stays_endFlash (a) : Stays h (endFlash a h) := by
  unfold endFlash
  split
  · exact stays_modConsole h _ _
  · exact .refl h

theorem stays_forceOff (a) : Stays h (forceOff a h) := by
  unfold forceOff
  split
  · exact stays_release h _ _
  · exact stays_endWait h _ _

theorem stays_disableBooth (b) : Stays h (disableBooth b h) := by
  have first := (Stays.foldl (fun k a => stays_modConsole k a fun r => { r with state := .idle, handoverExpiry := none })
    h.booths[b].queue h).trans (stays_modBooth _ b fun r => { r with queue := [] })
  unfold disableBooth
  refine Stays.trans ?_ (stays_setOwner _ _ _)
  split
  · exact first
  · split
    · exact first.trans (stays_release _ _ _)
    · split
      · exact (first.trans (stays_dismissWaiter _ _)).trans (stays_dropEntry _ _ _)
      · exact first.trans (stays_dismissWaiter _ _)

theorem stays_takeDownInterlock : Stays h (takeDownInterlock h) := by
  unfold takeDownInterlock
  refine ((Stays.foldl (fun k a => ?_) _ _).trans (.foldl (fun k b => stays_modBooth k b _) _ _)).trans
    (.foldl (fun k c => (stays_modChannel k c _ (by intro _; rfl)).trans (stays_modWaitList _ c _)) _ _)
  split
  · exact stays_modConsole k a _
  · exact stays_stepDown k a _
  · exact stays_stepDown k a _
  · exact .refl k

/-! ### The console bus -/

theorem stays_endExchange : Stays h (endExchange h) := stays_bus h _

theorem stays_debounce (a s) : Stays h (debounce a s h) := by
  unfold debounce
  dsimp only
  split
  · exact stays_modConsole h _ _
  · split
    · split
      · exact .refl h
      · exact stays_modConsole h _ _
    · split
      · exact (stays_modConsole h a _).trans (.foldl (fun k e => stays_takeKey k a e) _ _)
      · split <;> exact stays_modConsole h _ _

theorem stays_reportFault (a v) : Stays h (reportFault a v h) := by
  unfold reportFault
  split
  · exact stays_release h _ _
  · exact stays_release h _ _
  · exact stays_endWait h _ _
  · exact stays_modConsole h _ _

theorem stays_faultEntry (a) : Stays h (faultEntry a h) := by
  have first {f} := ((((stays_modConsole h a f).trans (stays_reportFault _ a
    (if 8 ≤ h.consoles[a].isolation + 1 then .quarantined else .fault))).trans (stays_settle _)).trans
    (stays_post _ .fault .consoleFault (numOf a) (h.consoles[a].isolation + 1))).trans (stays_logFault _ .consoleFault (numOf a))
  unfold faultEntry
  dsimp only
  split
  · exact first.trans (stays_meterEvent _ _)
  · exact first

theorem stays_pollEnd (a x) : Stays h (pollEnd a x h) := by
  unfold pollEnd
  split
  · exact (stays_modConsole h a _).trans (stays_debounce _ _ _)
  · dsimp only
    split
    · exact (stays_modConsole h a _).trans (stays_faultEntry _ _)
    · exact stays_modConsole h a _

theorem stays_probeEnd (a x) : Stays h (probeEnd a x h) := by
  unfold probeEnd
  split
  · split <;> exact stays_modConsole h a _
  · exact stays_modConsole h a _

theorem stays_exchangeEnd (x a) : Stays h (exchangeEnd x a h) := by
  unfold exchangeEnd
  dsimp only
  split
  · exact stays_endExchange h
  · split
    · split
      · exact (stays_endExchange h).trans (stays_pollEnd _ _ _)
      · exact stays_endExchange h
    · split
      · exact (stays_endExchange h).trans (stays_probeEnd _ _ _)
      · exact stays_endExchange h

theorem stays_takePollAnswer (n c k) : Stays h (takePollAnswer n c k h) := by
  unfold takePollAnswer
  split
  · split
    · exact stays_exchangeEnd h _ _
    · exact .refl h
  · exact .refl h

theorem stays_takeProbeAnswer (n c k) : Stays h (takeProbeAnswer n c k h) := by
  unfold takeProbeAnswer
  split
  · split
    · exact stays_exchangeEnd h _ _
    · exact .refl h
  · exact .refl h

theorem stays_takeWindowEnd : Stays h (takeWindowEnd h) := by
  unfold takeWindowEnd
  split
  · exact stays_exchangeEnd h _ _
  · exact .refl h

theorem stays_expireProbe (a) : Stays h (expireProbe a h) := by
  unfold expireProbe
  split
  · exact stays_modConsole h _ _
  · exact .refl h

theorem stays_takeGoodRun (a) : Stays h (takeGoodRun a h) := by
  unfold takeGoodRun
  split
  · split
    · exact stays_modConsole h _ _
    · exact .refl h
  · exact .refl h

/-! ### The emitter link -/

theorem stays_setSlotState (e v) : Stays h (setSlotState e v h) := by
  have first := (stays_modSlot h e fun s => { s with state := v }).trans (stays_post _ .carrier .emitterChange (numOf e) v.code)
  unfold setSlotState
  dsimp only
  split
  · exact .refl h
  · split
    · exact first.trans (stays_logFault _ _ _)
    · exact first

theorem stays_darkReport (before) : Stays h (darkReport before h) := by
  unfold darkReport
  split
  · exact .refl h
  · exact stays_spellsAll h

theorem stays_takeEmitterAnswer (slot r) : Stays h (takeEmitterAnswer slot r h) := by
  have took (e : EmitterId) (f) (v) : Stays h (darkReport h (setSlotState e v (h.modSlot e f))) :=
    ((stays_modSlot h e f).trans (stays_setSlotState _ e v)).trans (stays_darkReport _ _)
  unfold takeEmitterAnswer
  split
  · dsimp only
    split
    · exact took _ _ _
    · exact took _ _ _
    · exact .refl h
  · exact .refl h

theorem stays_closeSlot (e) : Stays h (closeSlot h e) := by
  unfold closeSlot
  dsimp only
  split
  · exact stays_modSlot h _ _
  · split
    · exact (stays_modSlot h e _).trans (stays_setSlotState _ _ _)
    · exact stays_modSlot h e _

theorem stays_closeAnswerWindow : Stays h (closeAnswerWindow h) :=
  ((Stays.foldl stays_closeSlot _ _).trans (stays_darkReport _ _)).trans (stays_link _ _)

theorem stays_sendDirectory : Stays h (sendDirectory h) := stays_link h _

theorem stays_takeDirectorySend : Stays h (takeDirectorySend h) := by
  unfold takeDirectorySend
  refine Stays.trans ?_ ((stays_closeAnswerWindow _).trans (stays_sendDirectory _))
  exact quiet_rfl rfl rfl

/-! ### The meters, the low-stock tests, and open spells brought up to now -/

theorem stays_takeWindowClose (m) : Stays h (takeWindowClose m h) := stays_metered (metered_takeWindowClose m h)

theorem stays_lowStockTest (before w) : Stays h (lowStockTest before h w) := by
  unfold lowStockTest
  dsimp only
  split
  · exact .refl h
  · split
    · split
      · exact .refl h
      · exact quiet_rfl rfl rfl
    · exact quiet_rfl rfl rfl

theorem stays_lowStockTests (before) : Stays h (lowStockTests before h) := .foldl (fun k w => stays_lowStockTest k before w) _ _

/-- Minute figures counted, the write asked for where the account has changed. -/
theorem stays_askChanged {k : Hall} (p : Counted h k) : Stays h (askChanged h k) := by
  unfold askChanged
  split
  · exact stays_uncounted p ‹_›
  · exact stays_counted p

theorem stays_bringUpLive (a) : Stays h (bringUpLive h a) := by
  unfold bringUpLive
  split
  · exact .refl h
  · dsimp only
    split <;> exact stays_askChanged h ⟨rfl, fun _ => rfl⟩

theorem stays_bringUpFallback (b) : Stays h (bringUpFallback h b) := by
  unfold bringUpFallback
  split
  · exact .refl h
  · exact stays_askChanged h ⟨rfl, fun _ => rfl⟩

theorem stays_bringUpSpells : Stays h (bringUpSpells h) :=
  ((stays_bringUpChannels h).trans (.foldl stays_bringUpLive _ _)).trans (.foldl stays_bringUpFallback _ _)

theorem stays_logNotTaken (code bad) : Stays h (logNotTaken code bad h) := by
  refine .foldl (fun k a => ?_) _ _
  split
  · exact stays_logFault k _ _
  · exact .refl k

/-! ### Events -/

/-- Every event but the minute's rise and a due minute leaves the records as they stand. -/
theorem stays_event {i : Instr} {f : Hall → Hall} (m : eventMeaning i = some f) (rise : i ≠ .hallMinuteRise)
    (due : ∀ n, i ≠ .dueMinuteExpiry n) : Stays h (f h) := by
  cases i <;> cases m
  case pollAnswer => exact stays_takePollAnswer h _ _ _
  case answerWindowClose => exact stays_takeWindowEnd h
  case probeAnswer => exact stays_takeProbeAnswer h _ _ _
  case probeTimerExpiry => exact stays_expireProbe h _
  case goodRunExpiry => exact stays_takeGoodRun h _
  case engagedFlashExpiry => exact stays_endFlash h _
  case handoverTimerExpiry => exact stays_expireHandover h _
  case shiftReminder => exact stays_takeShiftReminder h _
  case holdExpiry => exact stays_expireHold h _
  case directorySend => exact stays_takeDirectorySend h
  case emitterAnswer => exact stays_takeEmitterAnswer h _ _
  case windowClose => exact stays_takeWindowClose h _
  case dueMinuteExpiry => exact absurd rfl (due _)
  case hallMinuteRise => exact absurd rfl rise

end Sys2Proof.StepProofs
end

-- ==== Proofs: HireWork ====
section
/-! PROOFS. `HireWork`, operation by operation, and with it the carrier law at every step (R78, R84). -/

namespace Sys2Proof.StepProofs

open Machine

variable (h : Hall)

/-! ### The tables and the demand -/

/-- A change of the fleet's tables alone. -/
theorem hireWork_fleet (f : Fleet) : HireWork h { h with fleet := f } :=
  ⟨⟨rfl, rfl, rfl, rfl, rfl, rfl, rfl, fun l => lawful_congr (h := h) rfl (fun _ => rfl) l, [], (List.append_nil _).symm⟩,
    rfl⟩

theorem hireWork_putReceiver (r) : HireWork h (h.putReceiver r) := hireWork_fleet h _
theorem hireWork_dropReceiver (s) : HireWork h (h.dropReceiver s) := hireWork_fleet h _
theorem hireWork_putHire (x) : HireWork h (h.putHire x) := hireWork_fleet h _
theorem hireWork_dropHire (n) : HireWork h (h.dropHire n) := hireWork_fleet h _
theorem hireWork_putBadge (b) : HireWork h (h.putBadge b) := hireWork_fleet h _

/-- A change of account figures that no law of the session, the log or the queue is about. -/
theorem hireWork_account {a : Account} (session : a.session = h.account.session) (last : a.lastSession = h.account.lastSession)
    (log : a.log = h.account.log) (queue : a.queue = h.account.queue) (seq : a.seq = h.account.seq) :
    HireWork h { h with account := a } :=
  ⟨⟨rfl, rfl, session, last, log, queue, seq, fun l => lawful_congr (h := h) rfl (fun _ => rfl) l, [],
    (List.append_nil _).symm⟩, rfl⟩

/-- A change of demand and the reordering of the wait list that it brings (R15, R85). -/
theorem hireWork_demand (c : ChannelId) (f : ChannelRun → ChannelRun) : HireWork h (allocEvent reorder (h.modChannel c f)) := by
  have rest := (stays_serveList (reorder (h.modChannel c f)) 32).trans (stays_allocReport _ (h.modChannel c f))
  have first : HireWork h (reorder (h.modChannel c f)) :=
    ⟨⟨rfl, rfl, rfl, rfl, rfl, rfl, rfl, fun l => reorder_lawful l rfl, [], (List.append_nil _).symm⟩, rfl⟩
  exact first.trans rest.hireWork

theorem hireWork_demandRise (c) : HireWork h (demandRise c h) := hireWork_demand h c _
theorem hireWork_demandFall (c) : HireWork h (demandFall c h) := hireWork_demand h c _

theorem hireWork_moveHire (d x) : HireWork h (moveHire d h x) :=
  ((hireWork_putHire h _).trans (hireWork_demandFall _ _)).trans (hireWork_demandRise _ _)

theorem hireWork_foldl {α : Type} {f : Hall → α → Hall} (hf : ∀ h x, HireWork h (f h x)) (l : List α) (h : Hall) :
    HireWork h (l.foldl f h) := foldl_keeps HireWork.refl HireWork.trans hf l h

/-! ### Issue, close, overdue -/

theorem hireWork_meterEvent (e) : HireWork h (meterEvent e h) := (stays_meterEvent h e).hireWork

theorem hireWork_handOpenHires : HireWork h (handOpenHires h) := (stays_metered (metered_handOpenHires h)).hireWork

/-- The hire, its receiver and its badge entered, and the hire counter set (R107). -/
def booked (x : Hire) (r : Receiver) (b : Badge) (h : Hall) : Hall :=
  ((Hall.putHire x { h with account := { h.account with hireCounter := x.number } }).putReceiver r).putBadge b

/-- The peak raised to the open hires. -/
def peakRaised (h : Hall) : Hall :=
  { h with account := { h.account with peakHires := max h.account.peakHires h.openHires } }

/-- The hire that `openHire` enters. -/
def newHire (desk : DeskId) (ser badge : Serial) (tar : TariffId) (ch : ChannelId) (h : Hall) : Hire :=
  ⟨h.nextNumber, ser, badge, desk, tar, h.now,
    if h.settings.tariffs[tar].limit = 0 then none else some (h.now + h.settings.tariffs[tar].limit),
    ch, h.outage ch, 0, h.settings.tariffs[tar].deposit, false, h.clock.stale⟩

/-- The receiver as `openHire` leaves it. -/
def issuedReceiver (r : Receiver) (bat : Nat) (h : Hall) : Receiver :=
  { r with state := .issued h.nextNumber, issues := satCount (r.issues + 1), battery := some bat }

/-- The badge as `openHire` leaves it. -/
def listedBadge (badge : Serial) (h : Hall) : Badge :=
  { (h.badge badge).getD ⟨badge, [], 0⟩ with hires := ((h.badge badge).getD ⟨badge, [], 0⟩).hires ++ [h.nextNumber] }

theorem openHire_eq (desk r badge tar ch bat) : openHire desk r badge tar ch bat h =
    meterEvent (hireEvent .issue desk tar ch) (handOpenHires (peakRaised (demandRise ch
      (booked (newHire desk r.serial badge tar ch h) (issuedReceiver r bat h) (listedBadge badge h) h)))) := by
  unfold openHire peakRaised booked newHire issuedReceiver listedBadge
  rfl

theorem hireWork_booked (x r b) : HireWork h (booked x r b h) := by
  have counted : HireWork h { h with account := { h.account with hireCounter := x.number } } :=
    hireWork_account h rfl rfl rfl rfl rfl
  exact ((counted.trans (hireWork_putHire _ x)).trans (hireWork_putReceiver _ r)).trans (hireWork_putBadge _ b)

theorem hireWork_peakRaised : HireWork h (peakRaised h) := hireWork_account h rfl rfl rfl rfl rfl

theorem hireWork_openHire (desk r badge tar ch bat) : HireWork h (openHire desk r badge tar ch bat h) := by
  rw [openHire_eq]
  exact ((((hireWork_booked h _ _ _).trans (hireWork_demandRise _ ch)).trans (hireWork_peakRaised _)).trans
    (hireWork_handOpenHires _)).trans (hireWork_meterEvent _ _)

theorem hireWork_settleBadge (x owe) : HireWork h (settleBadge x owe h) := by
  unfold settleBadge
  split
  · exact hireWork_putBadge h _
  · exact .refl h

theorem hireWork_addToBalances (l n) : HireWork h (addToBalances l n h) := hireWork_account h rfl rfl rfl rfl rfl

theorem hireWork_closeHire (rec_ x r) : HireWork h (closeHire rec_ x r h) :=
  (((((hireWork_addToBalances h _ _).trans (hireWork_putReceiver _ r)).trans (hireWork_dropHire _ _)).trans
    (hireWork_settleBadge _ _ _)).trans (hireWork_demandFall _ _)).trans (hireWork_handOpenHires _)

theorem hireWork_makeOverdue (x) : HireWork h (makeOverdue x h) := by
  unfold makeOverdue
  dsimp only
  refine HireWork.trans (HireWork.trans (HireWork.trans ?_ (stays_post _ _ _ _ _).hireWork) (hireWork_meterEvent _ _))
    (stays_ask _ _).hireWork
  split
  · exact (hireWork_putHire h _).trans (hireWork_putReceiver _ _)
  · exact hireWork_putHire h _

theorem hireWork_takeDue (n) : HireWork h (takeDue n h) := by
  unfold takeDue
  split
  · split
    · exact hireWork_makeOverdue h _
    · exact .refl h
  · exact .refl h

theorem hireWork_takeAllDue : HireWork h (takeAllDue h) := hireWork_foldl (f := fun k (x : Hire) => takeDue x.number k) (fun k x => hireWork_takeDue k x.number) _ _

theorem hireWork_retune (desk x ch) : HireWork h (retune desk x ch h) :=
  (hireWork_moveHire h ch x).trans (hireWork_meterEvent _ _)

theorem hireWork_lowStockTests (before) : HireWork h (lowStockTests before h) := (stays_lowStockTests h before).hireWork

theorem hireWork_moveReceiver (r v) : HireWork h (moveReceiver r v h) :=
  (hireWork_putReceiver h _).trans (hireWork_lowStockTests _ _)

theorem hireWork_refuseBattery (desk r tar ch bat) : HireWork h (refuseBattery desk r tar ch bat h) :=
  (hireWork_putReceiver h _).trans (hireWork_meterEvent _ _)

/-- The record of a receiver declared lost (R130). -/
def lossRecord (r : Receiver) (x : Hire) (h : Hall) : Settlement :=
  closeRecord h .lost 0 x
    (lostFigures (h.pricing x.tariff) x.issued h.now (h.unservedNow x) x.deposit h.settings.windows[r.window].fee)
    [(0, h.settings.windows[r.window].fee)]

/-- The record of a hired receiver returned (R109). -/
def returnRecord (desk : DeskId) (x : Hire) (h : Hall) : Settlement :=
  closeRecord h .returned (numOf desk) x (h.returnFigures x)
    (apportion h.account.log x.issued h.now (h.returnFigures x).charge)

/-- The receiver as a return leaves it. -/
def returnedReceiver (cond : ReturnCond) (bat : Nat) (r : Receiver) : Receiver :=
  { r with state := afterReturn cond, battery := some bat }

/-- A return but for its record's place. -/
def afterClose (desk : DeskId) (cond : ReturnCond) (bat : Nat) (r : Receiver) (x : Hire) (h : Hall) : Hall :=
  lowStockTests h (meterEvent (hireEvent .returned desk x.tariff x.preset)
    (closeHire (returnRecord desk x h) x (returnedReceiver cond bat r) h))

/-- A receiver found, but for its record's place. -/
def afterFound (desk : DeskId) (cond : ReturnCond) (bat : Nat) (r : Receiver) (h : Hall) : Hall :=
  lowStockTests h (meterEvent ⟨.returned, none, some desk, none, none⟩ (h.putReceiver (returnedReceiver cond bat r)))

theorem loseHire_hall (r x) : (loseHire r x h).1 =
    (placeRecord (lossRecord r x h) (closeHire (lossRecord r x h) x { r with state := .lost } h)).1 := by
  simp only [loseHire, endClose, lossRecord]

theorem returnHire_hall (desk cond bat r x) : (returnHire desk cond bat r x h).1 =
    (placeRecord (returnRecord desk x h) (afterClose desk cond bat r x h)).1 := by
  simp only [returnHire, endClose, afterClose, returnedReceiver, returnRecord]

theorem findReceiver_hall (desk cond bat r) : (findReceiver desk cond bat r h).1 =
    (placeRecord (foundRecord h desk r.serial) (afterFound desk cond bat r h)).1 := by
  simp only [findReceiver, afterFound, returnedReceiver]

theorem hireWork_afterClose (desk cond bat r x) : HireWork h (afterClose desk cond bat r x h) :=
  ((hireWork_closeHire h _ _ _).trans (hireWork_meterEvent _ _)).trans (hireWork_lowStockTests _ _)

theorem hireWork_afterFound (desk cond bat r) : HireWork h (afterFound desk cond bat r h) :=
  ((hireWork_putReceiver h _).trans (hireWork_meterEvent _ _)).trans (hireWork_lowStockTests _ _)

/-- A receiver taken out of the records. -/
theorem hireWork_removed (k) : HireWork h (lowStockTests h (h.dropReceiver k)) :=
  (hireWork_dropReceiver h k).trans (hireWork_lowStockTests _ _)

variable {h} in
/-- The receiver presented has its record in the table, created there where it had none. -/
theorem presented_cases {ser : Serial} {r : Receiver} {k : Hall} {new : Bool} (p : presented ser h = .ok (r, k, new)) :
    (h.receiver ser = some r ∧ k = h ∧ new = false) ∨
    ∃ w, h.receiver ser = none ∧ h.windowOf ser = some w ∧ h.tableFull = false ∧ r = ⟨ser, w, .stock, 0, none⟩ ∧
      k = createReceiver ser w h ∧ new = true := by
  unfold presented at p
  split at p
  · cases p; exact .inl ⟨‹_›, rfl, rfl⟩
  · split at p
    · cases p
    · next w hw =>
      split at p
      · cases p
      · next f => cases p; exact .inr ⟨w, ‹_›, hw, by simpa using f, rfl, rfl, rfl⟩

theorem hireWork_presented {ser : Serial} {r : Receiver} {k : Hall} {new : Bool} (p : presented ser h = .ok (r, k, new)) :
    HireWork h k := by
  rcases presented_cases p with ⟨-, rfl, -⟩ | ⟨w, -, -, -, -, e, -⟩
  · exact .refl k
  · rw [e]; exact hireWork_putReceiver h _

/-! ### The expiries taken at a restart's end -/

theorem hireWork_takeExpiry (e) : HireWork h (takeExpiry h e) := by
  unfold takeExpiry
  split
  · exact (stays_expireHandover h _).hireWork
  · exact (stays_expireHold h _).hireWork
  · exact (stays_takeShiftReminder h _).hireWork
  · exact (stays_takeGoodRun h _).hireWork
  · exact (stays_expireProbe h _).hireWork
  · exact (stays_endFlash h _).hireWork
  · exact hireWork_takeDue h _
  · exact (stays_takeWindowClose h _).hireWork

theorem hireWork_takeDueExpiries : HireWork h (takeDueExpiries h) := by
  unfold takeDueExpiries
  exact hireWork_foldl hireWork_takeExpiry _ _

/-- The channels' running state changed, the demand as it was. -/
theorem stays_channels (v : Vector ChannelRun 32) (d : ∀ c : ChannelId, v[c].demand = h.channels[c].demand) :
    Stays h { h with channels := v } := stays_quiet ⟨rfl, d⟩

theorem deriveServices_demand (c : ChannelId) : (deriveServices h).channels[c].demand = h.channels[c].demand := by
  simp only [deriveServices, vtab_get]

theorem stays_deriveServices : Stays h (deriveServices h) := stays_channels h _ (deriveServices_demand h)

theorem stays_restartConsoles : Stays h (restartConsoles h) := quiet_rfl rfl rfl

theorem stays_takeDown : Stays h (takeDown h) := by
  have down := ((stays_bringUpSpells h).trans (stays_takeDownInterlock _)).trans (stays_deriveServices _)
  have built := (down.trans (stays_build _)).trans (stays_spellsAll _)
  have fresh := (built.trans (stays_restartConsoles _)).trans (stays_resolveAll _)
  unfold takeDown
  exact (fresh.trans (stays_meterLevelChange _ _ _)).trans (stays_metered (metered_clearAllRunning _))

/-! ### Settings orders -/

/-- A change of the settings alone. -/
theorem works_settings (x : Settings) : Works h { h with settings := x } :=
  ⟨⟨rfl, rfl, rfl, rfl, rfl, rfl, rfl, fun l => lawful_congr (h := h) rfl (fun _ => rfl) l, [], (List.append_nil _).symm⟩,
    rfl, fun _ => rfl, [], (List.append_nil _).symm, fun n => absurd rfl n⟩

theorem works_applyBooth (b a) : Works h (applyBooth b a h) := by
  have first : Works h (h.modBoothSettings b fun _ => a.apply h.settings.booths[b]) := works_settings h _
  unfold applyBooth
  dsimp only
  refine Works.trans ?_ (stays_settle _).toWorks
  split
  · exact first.trans (stays_disableBooth _ b).toWorks
  · exact first

theorem works_assignConsole (a b) : Works h (assignConsole a b h) := by
  have voided (k : Hall) : Stays k (voidProbe a k) := by
    unfold voidProbe
    split
    · split
      · exact stays_bus k _
      · exact .refl k
    · exact .refl k
  have first : Works h (voidProbe a (Hall.modConsole a (fun r => { r with output := .a, relaySel := none })
      { h with settings := { h.settings with consoleBooth := vset h.settings.consoleBooth a b } })) :=
    (works_settings h _).trans ((stays_modConsole _ a _).trans (voided _)).toWorks
  unfold assignConsole
  dsimp only
  split
  · exact first.trans (stays_modConsole _ _ _).toWorks
  · split
    · exact first.trans (stays_modConsole _ _ _).toWorks
    · exact first

theorem works_applyRelayList (b l) : Works h (applyRelayList b l h) := by
  unfold applyRelayList
  dsimp only
  refine Works.trans (Works.trans (Works.trans ?_ (Stays.foldl (fun k a => ?_) _ _).toWorks)
    (stays_modBooth _ _ _).toWorks) (stays_settle _).toWorks
  · exact works_settings h _
  · exact stays_modConsole k _ _

theorem stays_lowFired (l) : Stays h { h with lowFired := l } := quiet_rfl rfl rfl

theorem works_applyFleet (w a) : Works h (applyFleet w a h) := by
  unfold applyFleet
  exact (works_settings h _).trans (stays_lowFired _ _).toWorks

theorem works_applyHall (a) : Works h (applyHall a h) := by
  unfold applyHall
  dsimp only
  split
  · exact works_settings h _
  · exact (works_settings h _).trans (stays_allocEvent _ (.refl _)).toWorks

theorem works_applyMeter (m a) : Works h (applyMeter m a h) :=
  (works_settings h _).trans (stays_metered (metered_clearRunning _ m)).toWorks

/-- The consequences of a channel's settings; pinning is set off for no other channel than 1 to 31 (R2). -/
theorem stays_channelConsequences (c : ChannelId) (old : ChannelSettings)
    (zero : c = 0 → h.settings.channels[c].pinned = old.pinned) : Stays h (channelConsequences c old h) := by
  have unpinned (l : h.AirLawful → (reevaluate h c).AirLawful) (p : old.pinned = true) (n : h.settings.channels[c].pinned = false) :
      Stays (reevaluate h c) (allocEvent (unpinnedReport c) (reevaluate h c)) := by
    refine stays_allocEvent _ (stays_aired (aired_unpinnedReport _ c) fun l => unpinnedReport_lawful l fun z => ?_)
    rw [zero z, p] at n
    cases n
  have pinned : Stays (reevaluate h c) (allocEvent (pinnedReport c) (reevaluate h c)) :=
    stays_allocEvent _ (stays_aired (aired_pinnedReport _ c) fun l => pinnedReport_lawful l c)
  have first := stays_reevaluate h c
  unfold channelConsequences
  extract_lets new h1 h2
  have second : Stays h h2 := by
    show Stays h (if _ then _ else _)
    split
    · exact first.trans pinned
    · split
      · next e =>
        simp only [Bool.and_eq_true, Bool.not_eq_true'] at e
        exact first.trans (unpinned first.air e.1.2 e.2)
      · exact first
  split
  · exact second.trans (stays_allocEvent _ (.refl _))
  · exact second

/-- The hires a disable moves, before the settings change. -/
def hiresMovedOff (c : ChannelId) (a : SetChannelArgs) (h : Hall) : Hall :=
  if h.settings.channels[c].enabled && !(a.apply c h.settings.channels[c]).enabled then
    (h.hiresOn c).foldl (moveHire 0) h
  else h

theorem applyChannel_eq (c : ChannelId) (a : SetChannelArgs) : applyChannel c a h =
    channelConsequences c h.settings.channels[c]
      ((hiresMovedOff c a h).modChannelSettings c fun _ => a.apply c h.settings.channels[c]) := rfl

theorem hireWork_hiresMovedOff (c a) : HireWork h (hiresMovedOff c a h) := by
  unfold hiresMovedOff
  split
  · exact hireWork_foldl (fun k x => hireWork_moveHire k 0 x) _ _
  · exact .refl h

/-- The settings of a channel, and what follows from them. -/
theorem works_channelSettings (c : ChannelId) (a : SetChannelArgs) (k : Hall) (old : ChannelSettings) :
    Works k (channelConsequences c old (k.modChannelSettings c fun _ => a.apply c old)) := by
  refine (works_settings k _).trans (stays_channelConsequences _ c old fun z => ?_).toWorks
  show (vmod k.settings.channels c fun _ => a.apply c old)[c].pinned = old.pinned
  rw [vmod_same]
  simp [SetChannelArgs.apply, z]

theorem around_applyChannel (c a) : Around h (applyChannel c a h) :=
  applyChannel_eq h c a ▸ (hireWork_hiresMovedOff h c a).toAround.trans (works_channelSettings c a _ _).toAround

/-! ### The carrier law at every step -/

/-- The clock's minute moved, where it is another. -/
def minuteMoved (m : Nat) (h : Hall) : Hall := if m = h.now then h else moveMinute m (bringUpSpells h)

/-- The clock no longer stale, and its minute begun afresh. -/
def clockSet (h : Hall) : Hall := { h with clock := { h.clock with stale := false, minuteStart := h.clock.ticks } }

theorem takeSetClock_eq (m : Nat) : takeSetClock m h =
    if h.now < m then takeAllDue (clockSet (minuteMoved m h)) else clockSet (minuteMoved m h) := by
  unfold takeSetClock clockSet minuteMoved
  rfl

theorem moveMinute_air (m : Nat) (l : h.AirLawful) : (moveMinute m h).AirLawful := by
  refine lawful_congr (h := h) rfl (fun c => ?_) l
  simp only [moveMinute, vtab_get]
  rfl

theorem minuteMoved_air (m : Nat) (l : h.AirLawful) : (minuteMoved m h).AirLawful := by
  unfold minuteMoved
  split
  · exact l
  · exact moveMinute_air _ m ((stays_bringUpSpells h).air l)

theorem clockSet_air (l : h.AirLawful) : (clockSet h).AirLawful := lawful_congr (h := h) rfl (fun _ => rfl) l

theorem takeSetClock_air (m : Nat) (l : h.AirLawful) : (takeSetClock m h).AirLawful := by
  have set := clockSet_air _ (minuteMoved_air h m l)
  rw [takeSetClock_eq]
  split
  · exact (hireWork_takeAllDue _).air set
  · exact set

/-- Any change of the account leaves the carrier law. -/
theorem account_air {a : Account} (l : h.AirLawful) : Hall.AirLawful { h with account := a } :=
  lawful_congr (h := h) rfl (fun _ => rfl) l

theorem setSession_air (v log last) (l : h.AirLawful) : (setSession v log last h).AirLawful :=
  (stays_spellsAll _).air (account_air h l)

theorem stays_openLiveSpells : Stays h (openLiveSpells h) :=
  .foldl (fun k a => by
    split
    · exact stays_openLiveSpell k a
    · exact .refl k) _ _

theorem stays_openFallbackSpells : Stays h (openFallbackSpells h) :=
  .foldl (fun k b => by
    split
    · exact stays_openFallbackSpell k b
    · exact .refl k) _ _

/-- What a new day opens behind the account's change. -/
theorem stays_startDay (d : Nat) : Stays { h with account := h.account.opened d h.openHires } (startDay d h) :=
  (((stays_spellsAll _).trans (stays_openLiveSpells _)).trans (stays_openFallbackSpells _)).trans
    (stays_metered (metered_clearDayMeters _))

/-- What the day's close ends behind the account's change. -/
theorem stays_endDay : Stays { h with account := { h.account with day := { h.account.day with isOpen := false } } } (endDay h) :=
  ((stays_spellsAll _).trans (.foldl (fun k a => stays_endLiveSpell k a) _ _)).trans
    (.foldl (fun k b => stays_endFallbackSpell k b) _ _)

/-- The peaks begin at what stands (R16, R93). -/
def peaksSet (h : Hall) : Hall :=
  { h with
    channels := vtab fun c => { h.channels[c] with peak := h.channels[c].demand }
    air := { h.air with peak := h.inUse } }

theorem startSession_eq (k : CentreId) : startSession k h = peaksSet (setSession (.running (h.account.lastSession + 1) k)
    (h.account.log ++ [⟨h.account.lastSession + 1, k, h.now, none⟩]) (h.account.lastSession + 1) h) := by
  unfold startSession peaksSet
  rfl

theorem peaksSet_demand (c : ChannelId) : (peaksSet h).channels[c].demand = h.channels[c].demand := by
  simp only [peaksSet, vtab_get]

theorem peaksSet_carriers : (peaksSet h).air.carriers = h.air.carriers := by
  unfold peaksSet
  rfl

theorem peaksSet_waiting : (peaksSet h).air.waiting = h.air.waiting := by
  unfold peaksSet
  rfl

theorem peaksSet_air (l : h.AirLawful) : (peaksSet h).AirLawful :=
  lawful_of_parts (peaksSet_carriers h) (peaksSet_waiting h) (peaksSet_demand h) l

theorem startSession_air (k) (l : h.AirLawful) : (startSession k h).AirLawful := by
  rw [startSession_eq]
  exact peaksSet_air _ (setSession_air h _ _ _ l)

theorem work_air {w : EventWork} (l : h.AirLawful) : Hall.AirLawful { h with work := w } :=
  lawful_congr (h := h) rfl (fun _ => rfl) l

theorem settings_air {x : Settings} (l : h.AirLawful) : Hall.AirLawful { h with settings := x } :=
  (works_settings h x).air l

theorem setTariff_air (t new) (l : h.AirLawful) : (h.setTariff t new).AirLawful := settings_air h l

theorem placeRecord_air (r) (l : h.AirLawful) : (placeRecord r h).1.AirLawful := by
  rw [placeRecord_frame]
  exact lawful_congr (h := h) rfl (fun _ => rfl) l

theorem restarted_air {s : State} (l : h.AirLawful) : (restarted h s).hall.AirLawful := by
  rw [restarted_hall]
  exact (hireWork_takeDueExpiries _).air (lawful_congr (h := h) rfl (fun _ => rfl) l)

/-- Every verdict leaves the carrier law as it found it. -/
theorem meant_air {i : Instr} {s : State} {v : Verdict} (m : Meant i s v) (l : s.hall.AirLawful) :
    (state v).hall.AirLawful := by
  cases m <;> dsimp only [state, refuse, gatherAsks]
  case refused | read | fetched | acknowledged | faultsCleared => exact l
  case tariff => exact setTariff_air _ _ _ l
  case centre => exact settings_air _ l
  case channel c a own r ho => exact work_air _ ((around_applyChannel s.hall c a).air l)
  case booth => exact (works_applyBooth _ _ _).air l
  case console => exact (works_assignConsole _ _ _).air l
  case relayList => exact (works_applyRelayList _ _ _).air l
  case window => exact (works_applyFleet _ _ _).air l
  case hall => exact (works_applyHall _ _).air l
  case meter => exact (works_applyMeter _ _ _).air l
  case clock => exact takeSetClock_air _ _ l
  case openDay => exact (stays_startDay _ _).air (account_air _ l)
  case closeDay => exact (stays_endDay _).air (account_air _ l)
  case openSession => exact startSession_air _ _ l
  case suspend | resume | endSession => exact setSession_air _ _ _ _ l
  case release => exact account_air _ l
  case lost => rw [loseHire_hall]; exact placeRecord_air _ _ ((hireWork_closeHire _ _ _ _).air l)
  case faulty | repaired => exact (hireWork_moveReceiver _ _ _).air l
  case removed => exact (hireWork_removed _ _).air l
  case debt => exact (hireWork_putBadge _ _).air l
  case readmit => exact (stays_modConsole _ _ _).air l
  case force => exact ((stays_forceOff _ _).trans (stays_settle _)).air l
  case clearMeter => exact (stays_metered (metered_clearResults _ _)).air l
  case restartNow | restartWaits => exact restarted_air _ ((stays_takeDown _).air l)
  case restartHold => exact restarted_air _ l
  case created p => exact ((hireWork_presented _ p).trans (hireWork_lowStockTests _ _)).air l
  case battery p _ =>
    exact (((hireWork_presented _ p).trans (hireWork_refuseBattery _ _ _ _ _ _)).trans (hireWork_lowStockTests _ _)).air l
  case issued p _ =>
    exact (((hireWork_presented _ p).trans (hireWork_openHire _ _ _ _ _ _ _)).trans (hireWork_lowStockTests _ _)).air l
  case retuned => exact (hireWork_retune _ _ _ _).air l
  case found p _ =>
    rw [findReceiver_hall]
    exact placeRecord_air _ _ (((hireWork_presented _ p).trans (hireWork_afterFound _ _ _ _ _)).air l)
  case returned p _ _ =>
    rw [returnHire_hall]
    exact placeRecord_air _ _ (((hireWork_presented _ p).trans (hireWork_afterClose _ _ _ _ _ _)).air l)

theorem event_air {i : Instr} {f : Hall → Hall} (m : eventMeaning i = some f) (l : h.AirLawful) : (f h).AirLawful := by
  by_cases rise : i = .hallMinuteRise
  · subst rise
    cases m
    unfold riseMinute
    dsimp only
    split <;> exact lawful_congr (h := h) rfl (fun _ => rfl) l
  · by_cases due : ∃ n, i = .dueMinuteExpiry n
    · obtain ⟨n, rfl⟩ := due
      cases m
      exact (hireWork_takeDue h n).air l
    · exact (stays_event h m rise fun n e => due ⟨n, e⟩).air l

/-- The fleet and the demand as a rebuild finds them (R175). -/
def recounted (bad : AreaSet) (h : Hall) : Hall :=
  let h1 := if bad.settings then h.strayHires.foldl moveStray h else h
  recountDemand (if bad.account then defaultPeak (zeroSnapshots h1) else h1)

/-- The directory is sent, the badge limit raised to the lists and the low-stock flags set. -/
def relisted (h : Hall) : Hall :=
  setLowFlags (raiseLimit { h with link := { h.link with sentGen := h.link.generation, sent := h.directory } })

theorem rebuild_eq (bad : AreaSet) : rebuild bad h =
    takeAllDue (setLevels (relisted (allocEvent buildCarriers (deriveServices (recounted bad h)))).spellsAll) := by
  unfold rebuild relisted recounted
  rfl

theorem relisted_air (l : h.AirLawful) : (relisted h).AirLawful := by
  refine lawful_congr (h := h) ?_ (fun c => ?_) l
  all_goals unfold relisted setLowFlags raiseLimit; rfl

theorem setLevels_air (l : h.AirLawful) : (setLevels h).AirLawful := by
  unfold setLevels
  exact (stays_metered (metered_clearAllRunning _)).air (lawful_congr (h := h) rfl (fun _ => rfl) l)

theorem rebuild_air (bad : AreaSet) : (rebuild bad h).AirLawful := by
  rw [rebuild_eq]
  exact (hireWork_takeAllDue _).air (setLevels_air _ ((stays_spellsAll _).air
    (relisted_air _ (allocEvent_lawful (buildCarriers_lawful _)))))

/-- Settles O7: each action of the allocator keeps the law, each other operation leaves the carriers and the demand, and
start-up builds the carriers from empty. -/
theorem stepKeepsCarriersLawful : Obligations.StepKeepsCarriersLawful := by
  intro s t l e
  have rested {k : Hall} (l : k.AirLawful) : k.rested.AirLawful :=
    lawful_congr (rested_air k) (fun _ => by rw [rested_channels]) l
  rcases step_cases e with ⟨i, rest, -, r⟩ | ⟨-, e⟩
  · cases r
    case ignored | overrun | deskOverrun | pfwLevel | resetIdle => exact l
    case order tag v _ r m => rw [(ended_host tag v).hall]; exact rested (meant_air m l)
    case request d tag v _ r m => rw [(ended_desk d tag v).hall]; exact rested (meant_air m l)
    case event f m r => rw [finish_hall]; exact rested (event_air _ m l)
    case completion => rw [finish_hall, completed_hall]; exact rested ((stays_logNotTaken _ _ _).air l)
    case rewrite => rw [finish_hall, rewritten_hall]; exact rested l
    case pfwAsserted => rw [finish_hall, warned_hall]; exact rested (((stays_bringUpSpells _).trans (stays_ask _ _)).air l)
    case resetWrites => rw [resetTaken_hall]; exact l
    case started => rw [finish_hall, startState_hall]; exact rested (rebuild_air _ _)
  · obtain ⟨n, f⟩ := tick_frame s
    rw [e, f]
    exact lawful_congr (h := s.hall) rfl (fun _ => rfl) l

end Sys2Proof.StepProofs
end

-- ==== Proofs: Records ====
section
/-! PROOFS. The records and the store at a step: which operations leave the account's books or the fleet's tables as they
stand, and one induction for the laws that hold of them in the part, in the store, and in a write in progress. -/

namespace Sys2Proof.StepProofs

open Machine

/-! ### What leaves the books and the tables alone -/

/-- The hall minute, the session, the log and the settlement queue are the same. -/
structure Booked (h k : Hall) : Prop where
  minute  : k.clock.minute = h.clock.minute
  session : k.account.session = h.account.session
  last    : k.account.lastSession = h.account.lastSession
  log     : k.account.log = h.account.log
  queue   : k.account.queue = h.account.queue
  seq     : k.account.seq = h.account.seq

/-- The fleet and the demand of the channels are the same. -/
structure Housed (h k : Hall) : Prop where
  fleet  : k.fleet = h.fleet
  demand : ∀ c : ChannelId, k.channels[c].demand = h.channels[c].demand

theorem Around.booked {h k : Hall} (p : Around h k) : Booked h k :=
  ⟨p.minute, p.session, p.last, p.log, p.queue, p.seq⟩

theorem Works.housed {h k : Hall} (p : Works h k) : Housed h k := ⟨p.fleet, p.demand⟩

theorem Booked.trans {h k l : Hall} (p : Booked h k) (q : Booked k l) : Booked h l :=
  ⟨q.minute.trans p.minute, q.session.trans p.session, q.last.trans p.last, q.log.trans p.log, q.queue.trans p.queue,
    q.seq.trans p.seq⟩

theorem Housed.trans {h k l : Hall} (p : Housed h k) (q : Housed k l) : Housed h l :=
  ⟨q.fleet.trans p.fleet, fun c => (q.demand c).trans (p.demand c)⟩

theorem booked_rested (h : Hall) : Booked h h.rested := by
  constructor <;> simp only [rested_clock, rested_account]

theorem housed_rested (h : Hall) : Housed h h.rested :=
  ⟨rested_fleet h, fun _ => by rw [rested_channels]⟩

theorem housed_account (h : Hall) (a : Account) : Housed h { h with account := a } := ⟨rfl, fun _ => rfl⟩

theorem housed_clock (h : Hall) (c : Clock) : Housed h { h with clock := c } := ⟨rfl, fun _ => rfl⟩

theorem housed_work (h : Hall) (w : EventWork) : Housed h { h with work := w } := ⟨rfl, fun _ => rfl⟩

theorem booked_work (h : Hall) (w : EventWork) : Booked h { h with work := w } := ⟨rfl, rfl, rfl, rfl, rfl, rfl⟩

/-! ### The store's content -/

/-- A law of contents that the blocks' own law gives to what is written of them. -/
structure Written (I : Hall → Prop) (P : Content → Prop) : Prop where
  ofHall : ∀ h a, I h → P (contentOf h a)
  store  : ∀ c d a, P c → P d → P (c.store d a)
  spoil  : ∀ c a, P c → P (c.spoil a)

/-- A law of the fleet, as a law of contents. -/
theorem written_fleet {I : Hall → Prop} {Q : Fleet → Prop} (q : ∀ h, I h → Q h.fleet) :
    Written I fun c => ∀ f, c.fleet = some f → Q f where
  ofHall h a i f e := by
    unfold contentOf at e
    dsimp only at e
    split at e
    · cases e; exact q h i
    · cases e
  store c d a pc pd f e := by
    unfold Content.store at e
    dsimp only at e
    split at e
    · exact pd f e
    · exact pc f e
  spoil c a p f e := by
    unfold Content.spoil at e
    dsimp only at e
    split at e
    · cases e
    · exact p f e

/-- A law of the account, as a law of contents. -/
theorem written_account {I : Hall → Prop} {Q : Account → Prop} (q : ∀ h, I h → Q h.account) :
    Written I fun c => ∀ f, c.account = some f → Q f where
  ofHall h a i f e := by
    unfold contentOf at e
    dsimp only at e
    split at e
    · cases e; exact q h i
    · cases e
  store c d a pc pd f e := by
    unfold Content.store at e
    dsimp only at e
    split at e
    · exact pd f e
    · exact pc f e
  spoil c a p f e := by
    unfold Content.spoil at e
    dsimp only at e
    split at e
    · cases e
    · exact p f e

/-- The law holds of the store's content and of the write in progress. -/
def StoreHolds (P : Content → Prop) (st : Store) : Prop := P st.held ∧ ∀ c, st.current = some c → P c.content

theorem askWrite_held (areas ws) (st : Store) : (askWrite areas ws st).held = st.held := rfl

theorem askWrite_current (areas ws) (st : Store) : (askWrite areas ws st).current = st.current := rfl

theorem placeWrites_held (own asks) (st : Store) : (placeWrites own asks st).held = st.held := by
  have list : (asks.foldl (fun st a => askWrite a [] st) st).held = st.held :=
    foldl_keeps (R := fun a b : Store => b.held = a.held) (fun _ => rfl) (fun p q => q.trans p)
      (fun st a => askWrite_held a [] st) asks st
  unfold placeWrites
  dsimp only
  split
  · rw [askWrite_held, list]
  · exact list

theorem placeWrites_current (own asks) (st : Store) : (placeWrites own asks st).current = st.current := by
  have list : (asks.foldl (fun st a => askWrite a [] st) st).current = st.current :=
    foldl_keeps (R := fun a b : Store => b.current = a.current) (fun _ => rfl) (fun p q => q.trans p)
      (fun st a => askWrite_current a [] st) asks st
  unfold placeWrites
  dsimp only
  split
  · rw [askWrite_current, list]
  · exact list

section
variable {I : Hall → Prop} {P : Content → Prop} (w : Written I P)
include w

theorem storeHolds_finish {h : Hall} (i : I h) (own asks) {st : Store} (p : StoreHolds P st) :
    StoreHolds P (beginWrite h (placeWrites own asks st)) := by
  have placed : StoreHolds P (placeWrites own asks st) := by
    unfold StoreHolds
    rw [placeWrites_held, placeWrites_current]
    exact p
  unfold beginWrite
  split
  · exact ⟨placed.1, fun c e => by cases e; exact w.ofHall h _ i⟩
  · exact placed

theorem storeHolds_complete (x : CurrentWrite) (bad now) {st : Store} (p : StoreHolds P st)
    (hx : st.current = some x) : StoreHolds P (completeWrite x bad now st) :=
  ⟨w.store _ _ _ p.1 (p.2 x hx), fun _ e => by cases e⟩

end

/-- No verdict touches the store before the event's end. -/
theorem meant_store {i : Instr} {s : State} {v : Verdict} (m : Meant i s v) : (state v).store = s.store := by
  cases m <;> simp only [state, refuse, restarted]

/-! ### Laws of the blocks and the store at every step -/

/-- A law of the blocks with a law of contents that every event keeps: given for each shape of an event. -/
structure StepLaw (I : Hall → Prop) (P : Content → Prop) : Prop where
  written : Written I P
  same    : ∀ h k, Booked h k → Housed h k → I h → I k
  meant   : ∀ i s v, Meant i s v → I s.hall → I (state v).hall
  rise    : ∀ h, I h → I (riseMinute h)
  due     : ∀ h n, I h → I (takeDue n h)
  started : ∀ bad s, P (goodContent bad s) → I (rebuild bad (checkedHall bad s))

section
variable {I : Hall → Prop} {P : Content → Prop} (law : StepLaw I P)
include law

theorem StepLaw.stays {h k : Hall} (p : Stays h k) (i : I h) : I k := law.same h k p.booked p.housed i

theorem StepLaw.rested {h : Hall} (i : I h) : I h.rested := law.same h _ (booked_rested h) (housed_rested h) i

theorem StepLaw.event {i : Instr} {f : Hall → Hall} (m : eventMeaning i = some f) {h : Hall} (l : I h) : I (f h) := by
  by_cases rise : i = .hallMinuteRise
  · subst rise
    cases m
    exact law.rise h l
  · by_cases due : ∃ n, i = .dueMinuteExpiry n
    · obtain ⟨n, rfl⟩ := due
      cases m
      exact law.due h n l
    · exact law.stays (stays_event h m rise fun n e => due ⟨n, e⟩) l

theorem storeHolds_ended {own} {s t : State} (e : Ended own s t) (i : I s.hall) (p : StoreHolds P s.store) :
    I t.hall ∧ StoreHolds P t.store := by
  rw [e.hall, e.store]
  exact ⟨law.rested i, storeHolds_finish law.written i _ _ p⟩

/-- A step keeps such a law. -/
theorem StepLaw.step {s t : State} (i : I s.hall) (p : StoreHolds P s.store) (e : step s = .next t) :
    I t.hall ∧ StoreHolds P t.store := by
  rcases step_cases e with ⟨c, rest, -, r⟩ | ⟨-, e⟩
  · cases r
    case ignored | overrun | deskOverrun | pfwLevel => exact ⟨i, p⟩
    case resetIdle => exact ⟨i, p.1, p.2⟩
    case order tag v _ r m =>
      have around : StoreHolds P (state v).store := by rw [meant_store m]; exact p
      exact storeHolds_ended law (ended_host tag v) (law.meant _ _ _ m i) around
    case request d tag v _ r m =>
      have around : StoreHolds P (state v).store := by rw [meant_store m]; exact p
      exact storeHolds_ended law (ended_desk d tag v) (law.meant _ _ _ m i) around
    case event f m r => exact storeHolds_ended law (ended_finish _ _) (law.event m i) p
    case completion bad w _ r hw =>
      refine storeHolds_ended law (ended_finish _ _) ?_ ?_
      · rw [completed_hall]
        exact law.stays (stays_logNotTaken _ _ _) i
      · rw [completed_store]
        exact storeHolds_complete law.written w bad _ p hw
    case rewrite =>
      refine storeHolds_ended law (ended_finish _ _) ?_ ⟨p.1, p.2⟩
      rw [rewritten_hall]
      exact i
    case pfwAsserted =>
      refine storeHolds_ended law (ended_finish _ _) ?_ (by rw [warned_store]; exact p)
      rw [warned_hall]
      exact law.stays ((stays_bringUpSpells _).trans (stays_ask _ _)) i
    case resetWrites r w hw =>
      rw [resetTaken_hall, resetTaken_store]
      exact ⟨i, storeHolds_complete law.written w _ _ ⟨p.1, p.2⟩ hw⟩
    case started =>
      refine storeHolds_ended law (ended_finish _ _) ?_ ?_
      · rw [startState_hall]
        exact law.started _ _ (law.written.spoil _ _ p.1)
      · rw [startState_store]
        exact ⟨law.written.spoil _ _ p.1, fun _ e => by cases e⟩
  · obtain ⟨n, f⟩ := tick_frame s
    rw [e, f]
    exact ⟨law.same s.hall _ ⟨rfl, rfl, rfl, rfl, rfl, rfl⟩ ⟨rfl, fun _ => rfl⟩ i, p⟩

end

end Sys2Proof.StepProofs
end

-- ==== Proofs: Books ====
section
/-! PROOFS. The account's books at every step: the settlement queue (R141, R142) and the session log (R137 to R139). -/

namespace Sys2Proof.StepProofs

open Machine

/-! ### The law of the part's books -/

/-- No interval lies in the future of minute `now` (R139). -/
def Past (log : List Interval) (now : Nat) : Prop := ∀ v ∈ log, v.start ≤ now ∧ ∀ e, v.finish = some e → e ≤ now

/-- The account's laws, and no interval in the future. -/
def BooksLawful (h : Hall) : Prop := h.account.Lawful ∧ Past h.account.log h.now

/-- The laws look at the session, the log and the queue alone. -/
theorem account_lawful_congr {a b : Account} (session : b.session = a.session) (last : b.lastSession = a.lastSession)
    (log : b.log = a.log) (queue : b.queue = a.queue) (seq : b.seq = a.seq) (l : a.Lawful) : b.Lawful where
  queueRoom := queue ▸ l.queueRoom
  inOrder := queue ▸ l.inOrder
  numbered := by rw [queue, seq]; exact l.numbered
  logRoom := log ▸ l.logRoom
  ordered := log ▸ l.ordered
  sessions := by rw [log, last]; exact l.sessions
  last := by rw [log, last]; exact l.last
  openOne := by rw [log, session]; exact l.openOne
  present := by rw [session, last]; exact l.present

theorem books_same {h k : Hall} (p : Booked h k) (l : BooksLawful h) : BooksLawful k := by
  refine ⟨account_lawful_congr p.session p.last p.log p.queue p.seq l.1, ?_⟩
  unfold Hall.now
  rw [p.log, p.minute]
  exact l.2

theorem past_mono {log : List Interval} {m n : Nat} (le : m ≤ n) (p : Past log m) : Past log n := fun v hv =>
  ⟨(p v hv).1.trans le, fun e he => ((p v hv).2 e he).trans le⟩

/-- The books with the same account at a later minute. -/
theorem books_later {h k : Hall} (account : k.account = h.account) (le : h.now ≤ k.now) (l : BooksLawful h) :
    BooksLawful k := by
  unfold BooksLawful
  rw [account]
  exact ⟨l.1, past_mono le l.2⟩

/-- With no session there is no open interval: each has ended. -/
theorem all_ended {a : Account} (l : a.Lawful) (n : ∀ m k, a.session ≠ .running m k) {v : Interval} (hv : v ∈ a.log) :
    ∃ e, v.finish = some e :=
  Option.ne_none_iff_exists'.mp fun none => by
    obtain ⟨m, k, e⟩ := l.openOne.mp ⟨v, hv, none⟩
    exact n m k e

/-! ### The session log (R137, R138) -/

/-- An interval of session `n` begun at the log's end, all before it ended; `m` is the last session then. -/
theorem lawful_begin {a : Account} {now n m : Nat} {k : CentreId} (l : a.Lawful) (p : Past a.log now)
    (idle : ∀ m j, a.session ≠ .running m j) (room : a.log.length < 64) (one : 1 ≤ n) (nm : n ≤ m)
    (le : a.lastSession ≤ m) (next : m ≤ a.lastSession + 1) (kz : k ≠ 0) :
    Account.Lawful { a with session := .running n k, log := a.log ++ [⟨n, k, now, none⟩], lastSession := m } where
  queueRoom := l.queueRoom
  inOrder := l.inOrder
  numbered := l.numbered
  logRoom := by simp only [List.length_append, List.length_singleton]; omega
  ordered := by
    refine ⟨fun v hv e he => ?_, List.pairwise_append.mpr ⟨l.ordered.2, List.pairwise_singleton _ _, fun v hv w hw => ?_⟩⟩
    · rcases List.mem_append.mp hv with hv | hv
      · exact l.ordered.1 v hv e he
      · cases List.mem_singleton.mp hv
        cases he
    · cases List.mem_singleton.mp hw
      obtain ⟨e, he⟩ := all_ended l idle hv
      exact ⟨e, he, (p v hv).2 e he⟩
  sessions := by
    intro v hv
    rcases List.mem_append.mp hv with hv | hv
    · obtain ⟨h1, h2, h3⟩ := l.sessions v hv
      exact ⟨h1, h2.trans le, h3⟩
    · cases List.mem_singleton.mp hv
      exact ⟨one, nm, kz⟩
  last := by
    have := l.last
    simp only [List.length_append, List.length_singleton]
    omega
  openOne := ⟨fun _ => ⟨n, k, rfl⟩, fun _ => ⟨_, List.mem_append_right _ (.head _), rfl⟩⟩
  present := by
    rintro _ _ (e | e)
    · cases e
      exact ⟨one, nm, kz⟩
    · cases e

theorem mem_endInterval {now : Nat} {log : List Interval} {v : Interval} (hv : v ∈ endInterval now log) :
    ∃ w ∈ log, v.session = w.session ∧ v.centre = w.centre ∧ v.start = w.start ∧
      v.finish = some (w.finish.getD now) := by
  obtain ⟨w, hw, rfl⟩ := List.mem_map.mp hv
  refine ⟨w, hw, ?_⟩
  split
  · next h => simp [Option.isNone_iff_eq_none.mp h]
  · next h =>
    cases f : w.finish with
    | none => exact absurd (by rw [f]; rfl) h
    | some e => exact ⟨rfl, rfl, rfl, rfl⟩

theorem past_endInterval {now : Nat} {log : List Interval} (p : Past log now) : Past (endInterval now log) now := by
  intro v hv
  obtain ⟨w, hw, -, -, hs, hf⟩ := mem_endInterval hv
  refine ⟨hs ▸ (p w hw).1, fun e he => ?_⟩
  cases f : w.finish with
  | none => rw [f, he] at hf; cases hf; exact Nat.le_refl _
  | some x => rw [f, he] at hf; cases hf; exact (p w hw).2 x f

/-- The open interval ended now: the session is held or over. -/
theorem lawful_end {a : Account} {now : Nat} {v : Session} (l : a.Lawful) (p : Past a.log now)
    (stopped : ∀ n k, v ≠ .running n k) (same : ∀ n k, v = .suspended n k → 1 ≤ n ∧ n ≤ a.lastSession ∧ k ≠ 0) :
    Account.Lawful { a with session := v, log := endInterval now a.log } where
  queueRoom := l.queueRoom
  inOrder := l.inOrder
  numbered := l.numbered
  logRoom := by simp only [endInterval, List.length_map]; exact l.logRoom
  ordered := by
    constructor
    · intro v hv e he
      obtain ⟨w, hw, -, -, hs, hf⟩ := mem_endInterval hv
      rw [he] at hf
      cases f : w.finish with
      | none => rw [f] at hf; cases hf; rw [hs]; exact (p w hw).1
      | some x => rw [f] at hf; cases hf; rw [hs]; exact l.ordered.1 w hw x f
    · refine List.pairwise_map.mpr (l.ordered.2.imp fun {v w} h => ?_)
      obtain ⟨e, he, le⟩ := h
      refine ⟨e, by simp [he], ?_⟩
      split <;> exact le
  sessions := by
    intro v hv
    obtain ⟨w, hw, hn, hc, -⟩ := mem_endInterval hv
    rw [hn, hc]
    exact l.sessions w hw
  last := by simp only [endInterval, List.length_map]; exact l.last
  openOne := by
    constructor
    · rintro ⟨v, hv, he⟩
      obtain ⟨w, -, -, -, -, hf⟩ := mem_endInterval hv
      rw [he] at hf
      cases hf
    · rintro ⟨n, k, e⟩
      exact absurd e (stopped n k)
  present := by
    rintro n k (e | e)
    · exact absurd e (stopped n k)
    · exact same n k e

theorem booked_setSession (h : Hall) (v log last) :
    Booked { h with account := { h.account with session := v, log := log, lastSession := last } } (setSession v log last h) :=
  (stays_spellsAll _).booked

theorem booked_peaksSet (h : Hall) : Booked h (peaksSet h) := by
  unfold peaksSet
  exact ⟨rfl, rfl, rfl, rfl, rfl, rfl⟩

/-- A session run from an interval begun now. -/
theorem books_run {h : Hall} {n m : Nat} {k : CentreId} (l : BooksLawful h)
    (idle : ∀ m j, h.account.session ≠ .running m j) (room : h.account.log.length < 64) (one : 1 ≤ n) (nm : n ≤ m)
    (le : h.account.lastSession ≤ m) (next : m ≤ h.account.lastSession + 1) (kz : k ≠ 0) :
    BooksLawful (setSession (.running n k) (h.account.log ++ [⟨n, k, h.now, none⟩]) m h) := by
  refine books_same (booked_setSession h _ _ _) ⟨lawful_begin l.1 l.2 idle room one nm le next kz, fun v hv => ?_⟩
  rcases List.mem_append.mp hv with hv | hv
  · exact l.2 v hv
  · cases List.mem_singleton.mp hv
    exact ⟨Nat.le_refl _, fun _ e => by cases e⟩

/-- The open interval ended now. -/
theorem books_stop {h : Hall} {v : Session} (l : BooksLawful h) (stopped : ∀ n k, v ≠ .running n k)
    (same : ∀ n k, v = .suspended n k → 1 ≤ n ∧ n ≤ h.account.lastSession ∧ k ≠ 0) :
    BooksLawful (setSession v (endInterval h.now h.account.log) h.account.lastSession h) :=
  books_same (booked_setSession h _ _ _) ⟨lawful_end l.1 l.2 stopped same, past_endInterval l.2⟩

/-! ### The settlement queue (R141, R142, R144) -/

/-- A record placed at the queue's end under the next number, or counted unitemised. -/
theorem placeRecord_account (r : Settlement) (h : Hall) :
    ∃ day, (placeRecord r h).1.account = { h.account with day := day } ∨
      (placeRecord r h).1.account = { h.account with day := day, seq := h.account.seq + 1 } ∨
      h.account.queue.length < 256 ∧ (placeRecord r h).1.account = { h.account with
        seq := h.account.seq + 1, queue := h.account.queue ++ [{ r with seq := h.account.seq + 1 }] } := by
  unfold placeRecord
  dsimp only
  split
  · exact ⟨_, .inl rfl⟩
  · split
    · refine ⟨h.account.day, .inr (.inr ⟨‹_›, ?_⟩)⟩
      split <;> rfl
    · exact ⟨_, .inr (.inl rfl)⟩

theorem lawful_seq {a : Account} (l : a.Lawful) : Account.Lawful { a with seq := a.seq + 1 } :=
  { l with numbered := fun r hr => (l.numbered r hr).trans (Nat.le_succ _) }

theorem lawful_enqueue {a : Account} (l : a.Lawful) (r : Settlement) (room : a.queue.length < 256) :
    Account.Lawful { a with seq := a.seq + 1, queue := a.queue ++ [{ r with seq := a.seq + 1 }] } :=
  { l with
    queueRoom := by simp only [List.length_append, List.length_singleton]; omega
    inOrder := List.pairwise_append.mpr ⟨l.inOrder, List.pairwise_singleton _ _, fun x hx y hy => by
      cases List.mem_singleton.mp hy
      exact Nat.lt_succ_of_le (l.numbered x hx)⟩
    numbered := fun x hx => by
      rcases List.mem_append.mp hx with hx | hx
      · exact (l.numbered x hx).trans (Nat.le_succ _)
      · cases List.mem_singleton.mp hx
        exact Nat.le_refl _ }

/-- A change of the day's figures is none of the books. -/
theorem lawful_day {a : Account} (l : a.Lawful) (day : DayRecord) : Account.Lawful { a with day := day } :=
  account_lawful_congr (a := a) rfl rfl rfl rfl rfl l

theorem placeRecord_log (r : Settlement) (h : Hall) : (placeRecord r h).1.account.log = h.account.log := by
  obtain ⟨day, e | e | ⟨-, e⟩⟩ := placeRecord_account r h <;> rw [e]

theorem books_placeRecord (r : Settlement) {h : Hall} (l : BooksLawful h) : BooksLawful (placeRecord r h).1 := by
  constructor
  · obtain ⟨day, e | e | ⟨room, e⟩⟩ := placeRecord_account r h <;> rw [e]
    · exact lawful_day l.1 day
    · exact lawful_day (lawful_seq l.1) day
    · exact lawful_enqueue l.1 r room
  · have minute : (placeRecord r h).1.now = h.now := by
      rw [placeRecord_frame]
      rfl
    rw [placeRecord_log, minute]
    exact l.2

theorem books_release {h : Hall} (n : Nat) (l : BooksLawful h) : BooksLawful { h with account := { h.account with
    queue := h.account.queue.filter fun x => n < x.seq } } :=
  ⟨{ l.1 with
      queueRoom := (List.length_filter_le _ _).trans l.1.queueRoom
      inOrder := l.1.inOrder.filter _
      numbered := fun r hr => l.1.numbered r (List.mem_of_mem_filter hr) }, l.2⟩

/-! ### The day and the clock -/

/-- Without a session and with an empty log the laws are those of the queue. -/
theorem lawful_unlogged {a : Account} (room : a.queue.length ≤ 256) (inOrder : a.queue.Pairwise fun x y => x.seq < y.seq)
    (numbered : ∀ r ∈ a.queue, r.seq ≤ a.seq) (session : a.session = .none) (log : a.log = []) (last : a.lastSession = 0) :
    a.Lawful where
  queueRoom := room
  inOrder := inOrder
  numbered := numbered
  logRoom := by rw [log]; exact Nat.zero_le _
  ordered := by rw [log]; exact ⟨fun _ h => absurd h List.not_mem_nil, .nil⟩
  sessions := by rw [log]; exact fun _ h => absurd h List.not_mem_nil
  last := by rw [last]; exact Nat.zero_le _
  openOne := by simp [log, session]
  present := by simp [session]

theorem lawful_opened {a : Account} (l : a.Lawful) (d hires : Nat) : (a.opened d hires).Lawful :=
  lawful_unlogged l.queueRoom l.inOrder l.numbered rfl rfl rfl

theorem books_startDay {h : Hall} (d : Nat) (l : BooksLawful h) : BooksLawful (startDay d h) :=
  books_same (stays_startDay h d).booked ⟨lawful_opened l.1 d _, fun _ hv => by cases hv⟩

theorem booked_endDay (h : Hall) : Booked h (endDay h) := by
  have closed : Booked h { h with account := { h.account with day := { h.account.day with isOpen := false } } } :=
    ⟨rfl, rfl, rfl, rfl, rfl, rfl⟩
  exact closed.trans (stays_endDay h).booked

theorem booked_moveMinute (m : Nat) (h : Hall) : (moveMinute m h).account = h.account := by
  unfold moveMinute
  rfl

/-- SET CLOCK moves the minute back only over an empty log (R173). -/
theorem books_clock {h : Hall} (m : Nat) (back : m < h.now → h.account.log = []) (l : BooksLawful h) :
    BooksLawful (takeSetClock m h) := by
  have moved : BooksLawful (minuteMoved m h) := by
    unfold minuteMoved
    split
    · exact l
    · have up := (stays_bringUpSpells h).booked
      refine ⟨(booked_moveMinute m _).symm ▸ (books_same up l).1, ?_⟩
      rw [booked_moveMinute, up.log]
      by_cases lt : m < h.now
      · rw [back lt]; intro _ hv; cases hv
      · exact past_mono (by omega : h.now ≤ m) l.2
  rw [takeSetClock_eq]
  split
  · exact books_same (hireWork_takeAllDue _).booked moved
  · exact moved

theorem books_rise {h : Hall} (l : BooksLawful h) : BooksLawful (riseMinute h) := by
  unfold riseMinute
  dsimp only
  split
  · exact books_later (h := h) rfl (Nat.le_succ h.now) l
  · exact books_later (h := h) rfl (Nat.le_refl h.now) l

/-! ### Start-up -/

theorem lawful_default : Account.default.Lawful :=
  lawful_unlogged (Nat.zero_le _) .nil (fun _ h => absurd h List.not_mem_nil) rfl rfl rfl

theorem loadedAccount_lawful {bad : AreaSet} {s : State} (p : ∀ a, (goodContent bad s).account = some a → a.Lawful) :
    (loadedAccount bad s).Lawful := by
  refine account_lawful_congr (a := (goodContent bad s).account.getD Account.default) rfl rfl rfl rfl rfl ?_
  cases e : (goodContent bad s).account with
  | none => exact lawful_default
  | some a => exact p a e

theorem le_foldl_max (l : List Nat) (n : Nat) : n ≤ l.foldl max n ∧ ∀ x ∈ l, x ≤ l.foldl max n := by
  induction l generalizing n with
  | nil => exact ⟨Nat.le_refl n, fun _ h => by cases h⟩
  | cons a l ih =>
    obtain ⟨h1, h2⟩ := ih (max n a)
    refine ⟨(Nat.le_max_left n a).trans h1, fun x hx => ?_⟩
    rcases List.mem_cons.mp hx with rfl | hx
    · exact (Nat.le_max_right n x).trans h1
    · exact h2 x hx

/-- No stamp of the log lies behind the resume minute (R175). -/
theorem past_resume (fleet : Fleet) (log : List Interval) (clock : Option Nat) :
    Past log (resumeMinute clock (resumeStamps fleet log)) := by
  have stamp := (le_foldl_max (resumeStamps fleet log) (clock.getD 0)).2
  intro v hv
  constructor
  · exact stamp _ (List.mem_append_left _ (List.mem_append_right _ (List.mem_map_of_mem hv)))
  · intro e he
    exact stamp _ (List.mem_append_right _ (List.mem_filterMap.mpr ⟨v, hv, he⟩))

theorem booked_recounted (bad : AreaSet) (h : Hall) : Booked h (recounted bad h) := by
  have moved : Booked h (if bad.settings then h.strayHires.foldl moveStray h else h) := by
    split
    · exact (hireWork_foldl (fun k x => hireWork_putHire k (k.moved x 0)) _ h).booked
    · exact (HireWork.refl h).booked
  have counted (k : Hall) : Booked k (if bad.account then defaultPeak (zeroSnapshots k) else k) := by
    split
    · exact ⟨rfl, rfl, rfl, rfl, rfl, rfl⟩
    · exact (HireWork.refl k).booked
  have recount (k : Hall) : Booked k (recountDemand k) := by
    unfold recountDemand
    exact ⟨rfl, rfl, rfl, rfl, rfl, rfl⟩
  exact (moved.trans (counted _)).trans (recount _)

theorem booked_relisted (h : Hall) : Booked h (relisted h) := by
  unfold relisted setLowFlags raiseLimit
  exact ⟨rfl, rfl, rfl, rfl, rfl, rfl⟩

theorem stays_levels (h : Hall) (v) : Stays h { h with levels := v } := quiet_rfl rfl rfl

theorem booked_setLevels (h : Hall) : Booked h (setLevels h) := by
  unfold setLevels
  exact ((stays_levels h _).trans (stays_metered (metered_clearAllRunning _))).booked

theorem booked_rebuild (bad : AreaSet) (h : Hall) : Booked h (rebuild bad h) := by
  rw [rebuild_eq]
  exact ((((((booked_recounted bad h).trans (stays_deriveServices _).booked).trans (stays_build _).booked).trans
    (booked_relisted _)).trans (stays_spellsAll _).booked).trans (booked_setLevels _)).trans (hireWork_takeAllDue _).booked

theorem stays_checkedHall (bad : AreaSet) (s : State) : Stays (loadedHall bad s) (checkedHall bad s) := by
  unfold checkedHall
  refine .foldl (fun k a => ?_) _ _
  split
  · exact stays_logFault k _ _
  · exact .refl k

theorem books_started {bad : AreaSet} {s : State} (p : ∀ a, (goodContent bad s).account = some a → a.Lawful) :
    BooksLawful (rebuild bad (checkedHall bad s)) :=
  books_same ((stays_checkedHall bad s).booked.trans (booked_rebuild bad _))
    ⟨loadedAccount_lawful p, past_resume _ _ _⟩

/-! ### Every verdict and every step -/

theorem books_restarted {h : Hall} {s : State} (l : BooksLawful h) : BooksLawful (restarted h s).hall := by
  rw [restarted_hall]
  exact books_same (hireWork_takeDueExpiries _).booked (books_same (booked_work h _) l)

theorem works_setTariff (h : Hall) (t new) : Works h (h.setTariff t new) := works_settings h _

theorem meant_books {i : Instr} {s : State} {v : Verdict} (m : Meant i s v) (l : BooksLawful s.hall) :
    BooksLawful (state v).hall := by
  cases m <;> dsimp only [state, refuse, gatherAsks]
  case refused | read | fetched | acknowledged | faultsCleared => exact l
  case tariff => exact books_same (works_setTariff _ _ _).booked l
  case centre => exact books_same (works_settings s.hall _).booked l
  case channel c a own r ho => exact books_same ((around_applyChannel _ c a).booked.trans (booked_work _ _)) l
  case booth => exact books_same (works_applyBooth _ _ _).booked l
  case console => exact books_same (works_assignConsole _ _ _).booked l
  case relayList => exact books_same (works_applyRelayList _ _ _).booked l
  case window => exact books_same (works_applyFleet _ _ _).booked l
  case hall => exact books_same (works_applyHall _ _).booked l
  case meter => exact books_same (works_applyMeter _ _ _).booked l
  case clock back => exact books_clock _ (fun lt => (back lt).2) l
  case openDay => exact books_startDay _ l
  case closeDay => exact books_same (booked_endDay _) l
  case openSession k r hk idle room =>
    rw [startSession_eq]
    exact books_same (booked_peaksSet _) (books_run l (by rw [idle]; intro _ _ e; cases e) room (by omega) (Nat.le_refl _)
      (by omega) (Nat.le_refl _) hk)
  case suspend n k r run =>
    exact books_stop l (fun _ _ e => by cases e) fun _ _ e => by cases e; exact l.1.present n k (.inl run)
  case resume n k r held room =>
    obtain ⟨one, le, kz⟩ := l.1.present n k (.inr held)
    exact books_run l (by rw [held]; intro _ _ e; cases e) room one le (Nat.le_refl _) (by omega) kz
  case endSession => exact books_stop l (fun _ _ e => by cases e) fun _ _ e => by cases e
  case release => exact books_release _ l
  case lost => rw [loseHire_hall]; exact books_placeRecord _ (books_same (hireWork_closeHire _ _ _ _).booked l)
  case faulty | repaired => exact books_same (hireWork_moveReceiver _ _ _).booked l
  case removed => exact books_same (hireWork_removed _ _).booked l
  case debt => exact books_same (hireWork_putBadge _ _).booked l
  case readmit => exact books_same (stays_modConsole _ _ _).booked l
  case force => exact books_same ((stays_forceOff _ _).trans (stays_settle _)).booked l
  case clearMeter => exact books_same (stays_metered (metered_clearResults _ _)).booked l
  case restartNow | restartWaits => exact books_restarted (books_same (stays_takeDown _).booked l)
  case restartHold => exact books_restarted l
  case created p => exact books_same ((hireWork_presented _ p).trans (hireWork_lowStockTests _ _)).booked l
  case battery p _ =>
    exact books_same (((hireWork_presented _ p).trans (hireWork_refuseBattery _ _ _ _ _ _)).trans (hireWork_lowStockTests _ _)).booked l
  case issued p _ =>
    exact books_same (((hireWork_presented _ p).trans (hireWork_openHire _ _ _ _ _ _ _)).trans (hireWork_lowStockTests _ _)).booked l
  case retuned => exact books_same (hireWork_retune _ _ _ _).booked l
  case found p _ =>
    rw [findReceiver_hall]
    exact books_placeRecord _ (books_same ((hireWork_presented _ p).trans (hireWork_afterFound _ _ _ _ _)).booked l)
  case returned p _ _ =>
    rw [returnHire_hall]
    exact books_placeRecord _ (books_same ((hireWork_presented _ p).trans (hireWork_afterClose _ _ _ _ _ _)).booked l)

theorem books_law : StepLaw BooksLawful fun c => ∀ a, c.account = some a → a.Lawful where
  written := written_account fun _ l => l.1
  same _ _ p _ l := books_same p l
  meant _ _ _ m l := meant_books m l
  rise _ l := books_rise l
  due h n l := books_same (hireWork_takeDue h n).booked l
  started _ _ p := books_started p

/-- Settles O6: the books move by sessions, records placed and released, a new day and the clock alone. -/
theorem stepKeepsAccountsLawful : Obligations.StepKeepsAccountsLawful := by
  rintro s t ⟨l, past, held, current⟩ e
  obtain ⟨⟨l', past'⟩, held', current'⟩ := books_law.step ⟨l, past⟩ ⟨held, fun c hc a => current c a hc⟩ e
  exact ⟨l', past', held', fun c a hc => current' c hc a⟩

end Sys2Proof.StepProofs
end

-- ==== Proofs: Tables ====
section
/-! PROOFS. The fleet's tables: what each operation makes of them, and their strict order at every step (R100, R102,
R103). -/

namespace Sys2Proof.StepProofs

open Machine

/-! ### Demand rises and falls (R15) -/

theorem stays_reordered (c : ChannelId) (f : ChannelRun → ChannelRun) (h : Hall) :
    Housed (h.modChannel c f) (allocEvent reorder (h.modChannel c f)) :=
  Housed.trans (k := reorder (h.modChannel c f)) ⟨rfl, fun _ => rfl⟩
    ((stays_serveList _ 32).trans (stays_allocReport _ (h.modChannel c f))).housed

theorem demandRise_fleet (d : ChannelId) (h : Hall) : (demandRise d h).fleet = h.fleet := (stays_reordered d _ h).fleet

theorem demandFall_fleet (d : ChannelId) (h : Hall) : (demandFall d h).fleet = h.fleet := (stays_reordered d _ h).fleet

theorem modChannel_get (c d : ChannelId) (f : ChannelRun → ChannelRun) (h : Hall) :
    (h.modChannel d f).channels[c] = if c = d then f h.channels[c] else h.channels[c] := by
  rw [Hall.modChannel, vmod_get]
  by_cases e : c = d
  · rw [if_pos e, if_pos e.symm]
  · rw [if_neg e, if_neg (Ne.symm e)]

theorem demandRise_demand (d : ChannelId) (h : Hall) (c : ChannelId) :
    (demandRise d h).channels[c].demand = h.channels[c].demand + if c = d then 1 else 0 := by
  refine ((stays_reordered d _ h).demand c).trans ?_
  rw [modChannel_get]
  split <;> rfl

theorem demandFall_demand (d : ChannelId) (h : Hall) (c : ChannelId) :
    (demandFall d h).channels[c].demand = h.channels[c].demand - if c = d then 1 else 0 := by
  refine ((stays_reordered d _ h).demand c).trans ?_
  rw [modChannel_get]
  split <;> rfl

/-! ### The fleet behind each operation -/

theorem moveHire_fleet (d : ChannelId) (h : Hall) (x : Hire) : (moveHire d h x).fleet = (h.putHire (h.moved x d)).fleet :=
  (demandRise_fleet _ _).trans (demandFall_fleet _ _)

theorem openHire_fleet (desk r badge tar ch bat) (h : Hall) : (openHire desk r badge tar ch bat h).fleet =
    (booked (newHire desk r.serial badge tar ch h) (issuedReceiver r bat h) (listedBadge badge h) h).fleet := by
  rw [openHire_eq, meterEvent_fleet, handOpenHires_fleet]
  exact demandRise_fleet _ _

/-- A settled badge, of a badge's entry known. -/
theorem settleBadge_fleet (x : Hire) (owe : Nat) (h k : Hall) (e : k.fleet = h.fleet) :
    (settleBadge x owe k).fleet = (settleBadge x owe h).fleet := by
  unfold settleBadge Hall.badge
  rw [e]
  split
  · unfold Hall.putBadge
    rw [e]
  · exact e

/-- The fleet of a close: the receiver set, the hire dropped, the badge settled. -/
theorem closeHire_fleet (rec : Settlement) (x : Hire) (r : Receiver) (h : Hall) : (closeHire rec x r h).fleet =
    (settleBadge x rec.outstanding ((h.putReceiver r).dropHire x.number)).fleet := by
  unfold closeHire
  rw [handOpenHires_fleet, demandFall_fleet]
  exact settleBadge_fleet _ _ _ _ rfl

/-- The receiver of a hire that becomes OVERDUE. -/
def receiverOverdue (x : Hire) (h : Hall) : Hall :=
  match h.receiver x.serial with
  | some r => h.putReceiver { r with state := .overdue x.number }
  | none => h

theorem makeOverdue_housed (x : Hire) (h : Hall) :
    Housed (receiverOverdue x (h.putHire { x with overdue := true })) (makeOverdue x h) := by
  unfold makeOverdue
  exact (((stays_post _ .hire .overdue x.serial.toNat x.number).trans (stays_meterEvent _ _)).trans (stays_ask _ _)).housed

theorem lowStockTests_housed (before h : Hall) : Housed h (lowStockTests before h) := (stays_lowStockTests h before).housed

theorem placeRecord_housed (r : Settlement) (h : Hall) : Housed h (placeRecord r h).1 := by
  rw [placeRecord_frame]
  exact ⟨rfl, fun _ => rfl⟩

theorem endDay_housed (h : Hall) : Housed h (endDay h) :=
  Housed.trans (k := { h with account := { h.account with day := { h.account.day with isOpen := false } } })
    ⟨rfl, fun _ => rfl⟩ (stays_endDay h).housed

theorem startDay_housed (d) (h : Hall) : Housed h (startDay d h) := (housed_account h _).trans (stays_startDay h d).housed

theorem setSession_housed (v log last) (h : Hall) : Housed h (setSession v log last h) :=
  (housed_account h _).trans (stays_spellsAll _).housed

theorem peaksSet_fleet (h : Hall) : (peaksSet h).fleet = h.fleet := by
  unfold peaksSet
  rfl

theorem startSession_housed (k) (h : Hall) : Housed h (startSession k h) := by
  rw [startSession_eq]
  exact (setSession_housed _ _ _ h).trans ⟨peaksSet_fleet _, peaksSet_demand _⟩

theorem moveMinute_housed (m : Nat) (h : Hall) : Housed h (moveMinute m h) := by
  refine ⟨?_, fun c => ?_⟩
  · unfold moveMinute
    rfl
  · simp only [moveMinute, vtab_get, ChannelRun.restamp]

theorem clockSet_housed (h : Hall) : Housed h (clockSet h) := ⟨rfl, fun _ => rfl⟩

theorem minuteMoved_housed (m : Nat) (h : Hall) : Housed h (minuteMoved m h) := by
  unfold minuteMoved
  split
  · exact (Stays.refl h).housed
  · exact (stays_bringUpSpells h).housed.trans (moveMinute_housed m _)

theorem riseMinute_housed (h : Hall) : Housed h (riseMinute h) := by
  unfold riseMinute
  dsimp only
  split
  · exact (housed_clock h _).trans (stays_ask _ _).housed
  · exact housed_clock h _

theorem setLevels_housed (h : Hall) : Housed h (setLevels h) := by
  unfold setLevels
  exact ((stays_levels h _).trans (stays_metered (metered_clearAllRunning _))).housed

theorem relisted_housed (h : Hall) : Housed h (relisted h) := by
  unfold relisted setLowFlags raiseLimit
  exact ⟨rfl, fun _ => rfl⟩

/-! ### A law of the fleet and the demand -/

/-- A law of the fleet and the demand that the hire unit's own operations keep, and a start-up's recount gives. -/
structure FleetLaw (I : Hall → Prop) (Q : Fleet → Prop) : Prop where
  same     : ∀ h k, Housed h k → I h → I k
  fleet    : ∀ h, I h → Q h.fleet
  empty    : Q Fleet.default
  distinct : ∀ h, I h → h.fleet.hires.Pairwise fun x y => x.number < y.number
  moved    : ∀ h x d, x ∈ h.fleet.hires → I h → I (moveHire d h x)
  overdue  : ∀ h x, x ∈ h.fleet.hires → x.overdue = false → I h → I (makeOverdue x h)
  standing : ∀ h r v, h.receiver r.serial = some r → r.state.hire? = none → v.serial = r.serial → v.state.hire? = none →
    I h → I (h.putReceiver v)
  created  : ∀ h r, h.receiver r.serial = none → h.tableFull = false → r.state = .stock → I h → I (h.putReceiver r)
  removed  : ∀ h r, h.receiver r.serial = some r → r.state.hire? = none → I h → I (h.dropReceiver r.serial)
  cleared  : ∀ h b, h.badge b.number = some b → I h → I (h.putBadge { b with debt := 0 })
  opened   : ∀ h desk r badge tar ch bat, h.receiver r.serial = some r → r.state = .stock → I h →
    I (openHire desk r badge tar ch bat h)
  closed   : ∀ h rec x r v, h.receiver r.serial = some r → r.state.hire?.bind h.hire = some x → v.serial = r.serial →
    v.state.hire? = none → I h → I (closeHire rec x v h)
  counted  : ∀ bad h, Q h.fleet → I (recounted bad h)

theorem receiver_serial {h : Hall} {k : Serial} {r : Receiver} (e : h.receiver k = some r) : r.serial = k := by
  have := List.find?_some e
  simpa using this

theorem badge_number {h : Hall} {k : Serial} {b : Badge} (e : h.badge k = some b) : b.number = k := by
  have := List.find?_some e
  simpa using this

theorem hire_number {h : Hall} {n : Nat} {x : Hire} (e : h.hire n = some x) : x.number = n := by
  have := List.find?_some e
  simpa using this

theorem receiver_mem {h : Hall} {k : Serial} {r : Receiver} (e : h.receiver k = some r) : r ∈ h.fleet.receivers :=
  List.mem_of_find?_eq_some e

theorem hire_mem {h : Hall} {n : Nat} {x : Hire} (e : h.hire n = some x) : x ∈ h.fleet.hires := List.mem_of_find?_eq_some e

theorem badge_mem {h : Hall} {k : Serial} {b : Badge} (e : h.badge k = some b) : b ∈ h.fleet.badges :=
  List.mem_of_find?_eq_some e

theorem mem_putHire {h : Hall} {x y : Hire} :
    y ∈ (h.putHire x).fleet.hires ↔ y = x ∨ y ∈ h.fleet.hires ∧ y.number ≠ x.number := by
  simp only [Hall.putHire, mem_insertBy, List.mem_filter, bne_iff_ne]

theorem mem_putReceiver {h : Hall} {x y : Receiver} :
    y ∈ (h.putReceiver x).fleet.receivers ↔ y = x ∨ y ∈ h.fleet.receivers ∧ y.serial ≠ x.serial := by
  simp only [Hall.putReceiver, mem_insertBy, List.mem_filter, bne_iff_ne]

/-- A hire moved leaves the others. -/
theorem mem_moveHire {h : Hall} {d : ChannelId} {x y : Hire} (mem : y ∈ h.fleet.hires) (ne : y.number ≠ x.number) :
    y ∈ (moveHire d h x).fleet.hires := by
  rw [moveHire_fleet]
  exact mem_putHire.mpr (.inr ⟨mem, ne⟩)

/-- The receiver found or created at a presentation is the one of the table. -/
theorem presented_receiver {ser : Serial} {h k : Hall} {r : Receiver} {new : Bool} (p : presented ser h = .ok (r, k, new)) :
    k.receiver r.serial = some r := by
  rcases presented_cases p with ⟨e, rfl, -⟩ | ⟨w, -, -, -, rfl, rfl, -⟩
  · rw [receiver_serial e]
    exact e
  · have present : (⟨ser, w, .stock, 0, none⟩ : Receiver) ∈ (createReceiver ser w h).fleet.receivers :=
      mem_putReceiver.mpr (.inl rfl)
    have single : ∀ y ∈ (createReceiver ser w h).fleet.receivers, y.serial = ser → y = ⟨ser, w, .stock, 0, none⟩ :=
      fun y hy e => (mem_putReceiver.mp hy).resolve_right fun n => n.2 e
    cases f : (createReceiver ser w h).receiver ser with
    | none => exact absurd (List.find?_eq_none.mp f _ present) (by simp)
    | some y => rw [single y (receiver_mem f) (receiver_serial f)]

section
variable {I : Hall → Prop} {Q : Fleet → Prop} (law : FleetLaw I Q)
include law

theorem FleetLaw.stays {h k : Hall} (p : Stays h k) (i : I h) : I k := law.same h k p.housed i

theorem FleetLaw.takeDue {h : Hall} (n : Nat) (i : I h) : I (takeDue n h) := by
  unfold Machine.takeDue
  split
  · split
    · next x e c => exact law.overdue h x (hire_mem e) c.1 i
    · exact i
  · exact i

theorem FleetLaw.takeAllDue {h : Hall} (i : I h) : I (takeAllDue h) :=
  List.foldlRecOn (motive := I) _ _ i fun _ i x _ => law.takeDue x.number i

theorem FleetLaw.takeExpiry {h : Hall} (e : Nat × Expiry) (i : I h) : I (takeExpiry h e) := by
  unfold Machine.takeExpiry
  split
  · exact law.stays (stays_expireHandover h _) i
  · exact law.stays (stays_expireHold h _) i
  · exact law.stays (stays_takeShiftReminder h _) i
  · exact law.stays (stays_takeGoodRun h _) i
  · exact law.stays (stays_expireProbe h _) i
  · exact law.stays (stays_endFlash h _) i
  · exact law.takeDue _ i
  · exact law.stays (stays_takeWindowClose h _) i

theorem FleetLaw.takeDueExpiries {h : Hall} (i : I h) : I (takeDueExpiries h) := by
  unfold Machine.takeDueExpiries
  exact List.foldlRecOn (motive := I) _ _ i fun _ i e _ => law.takeExpiry e i

/-- Hires of different numbers moved one after the other. -/
theorem FleetLaw.moveHires (d : ChannelId) {l : List Hire} (distinct : l.Pairwise fun x y => x.number < y.number) {h : Hall}
    (mem : ∀ x ∈ l, x ∈ h.fleet.hires) (i : I h) : I (l.foldl (moveHire d) h) := by
  induction l generalizing h with
  | nil => exact i
  | cons x l ih =>
    obtain ⟨below, rest⟩ := List.pairwise_cons.mp distinct
    have step := law.moved h x d (mem x (.head _)) i
    rw [List.foldl_cons]
    refine ih rest (fun y hy => ?_) step
    exact mem_moveHire (mem y (.tail _ hy)) (Nat.ne_of_gt (below y hy))

theorem FleetLaw.applyChannel {h : Hall} (c a) (i : I h) : I (applyChannel c a h) := by
  rw [applyChannel_eq]
  refine law.same _ _ (works_channelSettings c a _ _).housed ?_
  unfold hiresMovedOff
  split
  · exact law.moveHires 0 ((law.distinct h i).filter _) (fun x hx => List.mem_of_mem_filter hx) i
  · exact i

theorem FleetLaw.takeSetClock {h : Hall} (m : Nat) (i : I h) : I (takeSetClock m h) := by
  have set := law.same _ _ ((minuteMoved_housed m h).trans (clockSet_housed _)) i
  rw [takeSetClock_eq]
  split
  · exact law.takeAllDue set
  · exact set

theorem FleetLaw.lowStock {h : Hall} (before : Hall) (i : I h) : I (lowStockTests before h) :=
  law.same _ _ (lowStockTests_housed before h) i

theorem FleetLaw.meterEvent {h : Hall} (e) (i : I h) : I (meterEvent e h) := law.stays (stays_meterEvent h e) i

theorem FleetLaw.placeRecord {h : Hall} (r) (i : I h) : I (placeRecord r h).1 := law.same _ _ (placeRecord_housed r h) i

theorem FleetLaw.presented {ser : Serial} {h k : Hall} {r : Receiver} {new : Bool} (p : presented ser h = .ok (r, k, new))
    (i : I h) : I k := by
  rcases presented_cases p with ⟨-, rfl, -⟩ | ⟨w, none, -, room, -, rfl, -⟩
  · exact i
  · exact law.created h _ none room rfl i

theorem FleetLaw.restarted {h : Hall} {s : State} (i : I h) : I (restarted h s).hall := by
  rw [restarted_hall]
  exact law.takeDueExpiries (law.same _ _ (housed_work h _) i)

/-- Every verdict keeps the law. -/
theorem FleetLaw.meant {i : Instr} {s : State} {v : Verdict} (m : Meant i s v) (l : I s.hall) : I (state v).hall := by
  cases m <;> dsimp only [state, refuse, gatherAsks]
  case refused | read | fetched | acknowledged | faultsCleared => exact l
  case tariff => exact law.same _ _ (works_setTariff _ _ _).housed l
  case centre => exact law.same _ _ (works_settings s.hall _).housed l
  case channel c a own r ho => exact law.same _ _ (housed_work _ _) (law.applyChannel c a l)
  case booth => exact law.same _ _ (works_applyBooth _ _ _).housed l
  case console => exact law.same _ _ (works_assignConsole _ _ _).housed l
  case relayList => exact law.same _ _ (works_applyRelayList _ _ _).housed l
  case window => exact law.same _ _ (works_applyFleet _ _ _).housed l
  case hall => exact law.same _ _ (works_applyHall _ _).housed l
  case meter => exact law.same _ _ (works_applyMeter _ _ _).housed l
  case clock => exact law.takeSetClock _ l
  case openDay => exact law.same _ _ (startDay_housed _ _) l
  case closeDay => exact law.same _ _ (endDay_housed _) l
  case openSession => exact law.same _ _ (startSession_housed _ _) l
  case suspend | resume | endSession => exact law.same _ _ (setSession_housed _ _ _ _) l
  case release => exact law.same _ _ (housed_account s.hall _) l
  case lost k r x v hr hx =>
    rw [loseHire_hall]
    exact law.placeRecord _ (law.closed _ _ _ _ _ (receiver_serial hr ▸ hr) hx rfl rfl l)
  case faulty k r v hr st => exact law.lowStock _ (law.standing _ r _ (receiver_serial hr ▸ hr) (by rw [st]; rfl) rfl rfl l)
  case repaired k r v hr st => exact law.lowStock _ (law.standing _ r _ (receiver_serial hr ▸ hr) (by rw [st]; rfl) rfl rfl l)
  case removed hr st =>
    exact law.lowStock _ (law.removed _ _ (receiver_serial hr ▸ hr) (by rcases st with e | e <;> rw [e] <;> rfl) l)
  case debt hb => exact law.cleared _ _ (badge_number hb ▸ hb) l
  case readmit => exact law.stays (stays_modConsole _ _ _) l
  case force => exact law.stays ((stays_forceOff _ _).trans (stays_settle _)) l
  case clearMeter => exact law.stays (stays_metered (metered_clearResults _ _)) l
  case restartNow | restartWaits => exact law.restarted (law.stays (stays_takeDown _) l)
  case restartHold => exact law.restarted l
  case created p => exact law.lowStock _ (law.presented p l)
  case battery p st =>
    exact law.lowStock _ (law.meterEvent _ (law.standing _ _ _ (presented_receiver p) (by rw [st]; rfl) rfl (by rw [st]; rfl)
      (law.presented p l)))
  case issued p st => exact law.lowStock _ (law.opened _ _ _ _ _ _ _ (presented_receiver p) st (law.presented p l))
  case retuned desk ser x ch v hx =>
    refine law.meterEvent _ (law.moved _ x ch ?_ l)
    obtain ⟨r, -, h1⟩ := Option.bind_eq_some_iff.mp hx
    obtain ⟨n, -, h2⟩ := Option.bind_eq_some_iff.mp h1
    exact hire_mem h2
  case found desk cond bat ser r h new v p st =>
    rw [findReceiver_hall]
    exact law.placeRecord _ (law.lowStock _ (law.meterEvent _ (law.standing _ _ (returnedReceiver cond bat r)
      (presented_receiver p) (by rw [st]; rfl) rfl (by cases cond <;> rfl) (law.presented p l))))
  case returned desk cond bat ser r h new n x v p st hx =>
    rw [returnHire_hall]
    exact law.placeRecord _ (law.lowStock _ (law.meterEvent _ (law.closed _ _ x r (returnedReceiver cond bat r)
      (presented_receiver p) (by rw [st]; exact hx) rfl (by cases cond <;> rfl) (law.presented p l))))

theorem FleetLaw.rebuilt {bad : AreaSet} {h : Hall} (q : Q h.fleet) : I (rebuild bad h) := by
  rw [rebuild_eq]
  refine law.takeAllDue (law.same _ _ ?_ (law.counted bad h q))
  exact ((((stays_deriveServices _).housed.trans (stays_build _).housed).trans (relisted_housed _)).trans
    (stays_spellsAll _).housed).trans (setLevels_housed _)

/-- Such a law holds at every step, in the part and in the store. -/
theorem FleetLaw.stepLaw : StepLaw I fun c => ∀ f, c.fleet = some f → Q f where
  written := written_fleet law.fleet
  same h k _ p i := law.same h k p i
  meant _ _ _ m i := law.meant m i
  rise h i := law.same _ _ (riseMinute_housed h) i
  due _ n i := law.takeDue n i
  started bad s p := by
    refine law.rebuilt ?_
    rw [(stays_checkedHall bad s).fleet]
    show Q (loadedFleet bad s)
    unfold loadedFleet
    cases e : (goodContent bad s).fleet with
    | none => exact law.empty
    | some f => exact p f e

end

/-! ### The order of the tables -/

section
variable {h : Hall}

theorem ordered_putReceiver (r : Receiver) (o : h.fleet.ordered) : (h.putReceiver r).fleet.ordered := by
  refine ⟨?_, o.2⟩
  have := insertBy_pairwise (before := fun x y : Receiver => decide (x.serial < y.serial)) (x := r)
    (l := h.fleet.receivers.filter fun x => x.serial != r.serial) (fun x y z => ?_) (fun y hy lt => ?_) ?_
  · simpa [Hall.putReceiver] using this
  · simp only [decide_eq_true_eq]; exact fun a b => by bv_omega
  · have ne : y.serial ≠ r.serial := by simpa using (List.mem_filter.mp hy).2
    simp only [decide_eq_true_eq, decide_eq_false_iff_not] at lt ⊢
    bv_omega
  · simpa using o.1.filter _

theorem ordered_putHire (x : Hire) (o : h.fleet.ordered) : (h.putHire x).fleet.ordered := by
  refine ⟨o.1, ?_, o.2.2⟩
  have := insertBy_pairwise (before := fun x y : Hire => decide (x.number < y.number)) (x := x)
    (l := h.fleet.hires.filter fun y => y.number != x.number) (fun x y z => ?_) (fun y hy lt => ?_) ?_
  · simpa [Hall.putHire] using this
  · simp only [decide_eq_true_eq]; omega
  · have ne : y.number ≠ x.number := by simpa using (List.mem_filter.mp hy).2
    simp only [decide_eq_true_eq, decide_eq_false_iff_not] at lt ⊢
    omega
  · simpa using o.2.1.filter _

theorem ordered_putBadge (b : Badge) (o : h.fleet.ordered) : (h.putBadge b).fleet.ordered := by
  refine ⟨o.1, o.2.1, ?_⟩
  have others := o.2.2.filter fun x => x.number != b.number
  have := insertBy_pairwise (before := fun x y : Badge => decide (x.number < y.number)) (x := b)
    (l := h.fleet.badges.filter fun x => x.number != b.number) (fun x y z => ?_) (fun y hy lt => ?_) ?_
  · unfold Hall.putBadge
    dsimp only
    split
    · exact others
    · simpa using this
  · simp only [decide_eq_true_eq]; exact fun a b => by bv_omega
  · have ne : y.number ≠ b.number := by simpa using (List.mem_filter.mp hy).2
    simp only [decide_eq_true_eq, decide_eq_false_iff_not] at lt ⊢
    bv_omega
  · simpa using others

theorem ordered_dropReceiver (s : Serial) (o : h.fleet.ordered) : (h.dropReceiver s).fleet.ordered := ⟨o.1.filter _, o.2⟩

theorem ordered_dropHire (n : Nat) (o : h.fleet.ordered) : (h.dropHire n).fleet.ordered := ⟨o.1, o.2.1.filter _, o.2.2⟩

theorem ordered_settleBadge (x : Hire) (owe : Nat) (o : h.fleet.ordered) : (settleBadge x owe h).fleet.ordered := by
  unfold settleBadge
  split
  · exact ordered_putBadge _ o
  · exact o

theorem ordered_receiverOverdue (x : Hire) (o : h.fleet.ordered) : (receiverOverdue x h).fleet.ordered := by
  unfold receiverOverdue
  split
  · exact ordered_putReceiver _ o
  · exact o

theorem ordered_booked (x : Hire) (r : Receiver) (b : Badge) (o : h.fleet.ordered) : (booked x r b h).fleet.ordered :=
  ordered_putBadge b (ordered_putReceiver r (ordered_putHire (h := { h with account := _ }) x o))

theorem ordered_recounted (bad : AreaSet) (o : h.fleet.ordered) : (recounted bad h).fleet.ordered := by
  have moved : (if bad.settings then h.strayHires.foldl moveStray h else h).fleet.ordered := by
    split
    · exact List.foldlRecOn (motive := fun k : Hall => k.fleet.ordered) _ _ o fun k i x _ => ordered_putHire _ i
    · exact o
  have zeroed (k : Hall) (i : k.fleet.ordered) : (if bad.account then defaultPeak (zeroSnapshots k) else k).fleet.ordered := by
    split
    · exact ⟨i.1, List.pairwise_map.mpr i.2.1, i.2.2⟩
    · exact i
  have recount (k : Hall) : (recountDemand k).fleet = k.fleet := by
    unfold recountDemand
    rfl
  unfold recounted
  dsimp only
  rw [recount]
  exact zeroed _ moved

end

theorem tables_law : FleetLaw (fun h => h.fleet.ordered) Fleet.ordered where
  same _ _ p o := p.fleet ▸ o
  fleet _ o := o
  empty := ⟨.nil, .nil, .nil⟩
  distinct _ o := o.2.1
  moved h x d _ o := by rw [moveHire_fleet]; exact ordered_putHire _ o
  overdue h x _ _ o := by rw [(makeOverdue_housed x h).fleet]; exact ordered_receiverOverdue x (ordered_putHire _ o)
  standing h _ v _ _ _ _ o := ordered_putReceiver v o
  created h r _ _ _ o := ordered_putReceiver r o
  removed h r _ _ o := ordered_dropReceiver _ o
  cleared h b _ o := ordered_putBadge _ o
  opened h desk r badge tar ch bat _ _ o := by rw [openHire_fleet]; exact ordered_booked _ _ _ o
  closed h rec x r v _ _ _ _ o := by
    rw [closeHire_fleet]
    exact ordered_settleBadge x _ (ordered_dropHire _ (ordered_putReceiver v o))
  counted bad h o := ordered_recounted bad o

/-- Settles O5: records are entered in their place and taken out, nothing else moves the tables. -/
theorem stepKeepsTablesOrdered : Obligations.StepKeepsTablesOrdered := by
  rintro s t ⟨o, held, current⟩ e
  obtain ⟨o', held', current'⟩ := tables_law.stepLaw.step o ⟨held, fun c hc f => current c f hc⟩ e
  exact ⟨o', held', fun c f hc => current' c hc f⟩

end Sys2Proof.StepProofs
end

-- ==== Proofs: Fleet ====
section
/-! PROOFS. The laws of receivers, hires and badges, and demand as the count of the hires, at every step (R15, R100, R102,
R103). -/

namespace Sys2Proof.StepProofs

open Machine

/-! ### One record of each key -/

/-- In a strictly rising table each key has one record. -/
theorem unique_of_rising {α β : Type} {key : α → β} {lt : β → β → Prop} (irrefl : ∀ b, ¬ lt b b) {l : List α}
    (rising : l.Pairwise fun x y => lt (key x) (key y)) {x y : α} (hx : x ∈ l) (hy : y ∈ l) (e : key x = key y) : x = y := by
  by_contra ne
  have apart : l.Pairwise fun x y => key x ≠ key y := rising.imp (S := fun x y => key x ≠ key y) fun {x y} h e => irrefl (key y) (by rw [e] at h; exact h)
  have : Std.Symm fun x y => key x ≠ key y := ⟨fun _ _ h => Ne.symm h⟩
  exact apart.forall hx hy ne e

section
variable {h : Hall} (o : h.fleet.ordered)
include o

theorem receiver_unique {x y : Receiver} (hx : x ∈ h.fleet.receivers) (hy : y ∈ h.fleet.receivers) (e : x.serial = y.serial) :
    x = y := unique_of_rising (key := Receiver.serial) (lt := (· < ·)) (fun b => BitVec.lt_irrefl b) o.1 hx hy e

theorem hire_unique {x y : Hire} (hx : x ∈ h.fleet.hires) (hy : y ∈ h.fleet.hires) (e : x.number = y.number) : x = y :=
  unique_of_rising (key := Hire.number) (lt := (· < ·)) (fun b => Nat.lt_irrefl b) o.2.1 hx hy e

theorem badge_unique {x y : Badge} (hx : x ∈ h.fleet.badges) (hy : y ∈ h.fleet.badges) (e : x.number = y.number) : x = y :=
  unique_of_rising (key := Badge.number) (lt := (· < ·)) (fun b => BitVec.lt_irrefl b) o.2.2 hx hy e

theorem receiver_find {r : Receiver} (hr : r ∈ h.fleet.receivers) : h.receiver r.serial = some r := by
  cases f : h.receiver r.serial with
  | none => exact absurd (List.find?_eq_none.mp f r hr) (by simp)
  | some y => rw [receiver_unique o (receiver_mem f) hr (receiver_serial f)]

theorem badge_find {b : Badge} (hb : b ∈ h.fleet.badges) : h.badge b.number = some b := by
  cases f : h.badge b.number with
  | none => exact absurd (List.find?_eq_none.mp f b hb) (by simp)
  | some y => rw [badge_unique o (badge_mem f) hb (badge_number f)]

end

theorem mem_dropReceiver {h : Hall} {s : Serial} {y : Receiver} :
    y ∈ (h.dropReceiver s).fleet.receivers ↔ y ∈ h.fleet.receivers ∧ y.serial ≠ s := by
  simp only [Hall.dropReceiver, List.mem_filter, bne_iff_ne]

theorem mem_dropHire {h : Hall} {n : Nat} {y : Hire} :
    y ∈ (h.dropHire n).fleet.hires ↔ y ∈ h.fleet.hires ∧ y.number ≠ n := by
  simp only [Hall.dropHire, List.mem_filter, bne_iff_ne]

/-- An entry put stands, but where it lists no hire and owes nothing. -/
theorem mem_putBadge {h : Hall} {b y : Badge} : y ∈ (h.putBadge b).fleet.badges ↔
    y = b ∧ (b.hires ≠ [] ∨ 0 < b.debt) ∨ y ∈ h.fleet.badges ∧ y.number ≠ b.number := by
  unfold Hall.putBadge
  dsimp only
  split
  · next c => simp [c.1, c.2]
  · next c =>
    have keeps : b.hires ≠ [] ∨ 0 < b.debt := by
      by_cases e : b.hires = []
      · exact .inr (Nat.pos_of_ne_zero fun z => c ⟨e, z⟩)
      · exact .inl e
    simp only [mem_insertBy, List.mem_filter, bne_iff_ne, keeps, and_true]

/-! ### Records that leave the laws -/

/-- The state a receiver holds for a hire (R100). -/
def Hire.outState (x : Hire) : ReceiverState := if x.overdue then .overdue x.number else .issued x.number

theorem outState_hire (x : Hire) : (Hire.outState x).hire? = some x.number := by
  unfold Hire.outState
  split <;> rfl

theorem lawful_receiver {f : Fleet} (l : f.Lawful) {x : Hire} (hx : x ∈ f.hires) :
    ∃ r ∈ f.receivers, r.serial = x.serial ∧ r.state = Hire.outState x := (l.hires x hx).2.2

/-- Hires that agree with those of a lawful fleet in number, receiver, badge and state. -/
theorem lawful_hires {f : Fleet} (l : f.Lawful) {hires : List Hire} (rising : hires.Pairwise fun x y => x.number < y.number)
    (old : ∀ x ∈ hires, ∃ y ∈ f.hires, x.number = y.number ∧ x.serial = y.serial ∧ x.badge = y.badge ∧ x.overdue = y.overdue)
    (new : ∀ y ∈ f.hires, ∃ x ∈ hires, x.number = y.number ∧ x.serial = y.serial ∧ x.badge = y.badge ∧
      x.overdue = y.overdue) : Fleet.Lawful { f with hires := hires } where
  ordered := ⟨l.ordered.1, rising, l.ordered.2.2⟩
  room := l.room
  hires x hx := by
    obtain ⟨y, hy, hn, hs, -, ho⟩ := old x hx
    rw [hn, hs, ho]
    exact l.hires y hy
  out r hr n e := by
    obtain ⟨y, hy, rfl, hs⟩ := l.out r hr n e
    obtain ⟨x, hx, hn, hs', -⟩ := new y hy
    exact ⟨x, hx, hn, hs'.trans hs⟩
  badges b hb := by
    obtain ⟨nodup, keeps, lists⟩ := l.badges b hb
    refine ⟨nodup, keeps, fun n => (lists n).trans ⟨?_, ?_⟩⟩
    · rintro ⟨y, hy, hn, hb⟩
      obtain ⟨x, hx, hn', -, hb', -⟩ := new y hy
      exact ⟨x, hx, hn'.trans hn, hb'.trans hb⟩
    · rintro ⟨x, hx, hn, hb⟩
      obtain ⟨y, hy, hn', -, hb', -⟩ := old x hx
      exact ⟨y, hy, hn'.symm.trans hn, hb'.symm.trans hb⟩
  listed x hx := by
    obtain ⟨y, hy, -, -, hb, -⟩ := old x hx
    rw [hb]
    exact l.listed y hy

section
variable {h : Hall} (l : h.fleet.Lawful)
include l

/-- A hire replaced by one of its number, receiver, badge and state. -/
theorem lawful_replaceHire {x y : Hire} (hx : x ∈ h.fleet.hires) (number : y.number = x.number) (serial : y.serial = x.serial)
    (badge : y.badge = x.badge) (overdue : y.overdue = x.overdue) : (h.putHire y).fleet.Lawful := by
  refine lawful_hires l (ordered_putHire y l.ordered).2.1 (fun z hz => ?_) fun z hz => ?_
  · rcases mem_putHire.mp hz with rfl | ⟨hz, -⟩
    · exact ⟨x, hx, number, serial, badge, overdue⟩
    · exact ⟨z, hz, rfl, rfl, rfl, rfl⟩
  · by_cases e : z.number = y.number
    · rw [hire_unique l.ordered hz hx (e.trans number)]
      exact ⟨y, mem_putHire.mpr (.inl rfl), number, serial, badge, overdue⟩
    · exact ⟨z, mem_putHire.mpr (.inr ⟨hz, e⟩), rfl, rfl, rfl, rfl⟩

theorem receiver_of_hire {x : Hire} (hx : x ∈ h.fleet.hires) {r : Receiver} (hr : r ∈ h.fleet.receivers)
    (e : r.serial = x.serial) : r.state = Hire.outState x := by
  obtain ⟨r', hr', hs, st⟩ := lawful_receiver l hx
  rw [receiver_unique l.ordered hr hr' (e.trans hs.symm)]
  exact st

/-- A receiver that is not out, entered for one that is not out or for none. -/
theorem lawful_putReceiver {r : Receiver} (idle : ∀ y ∈ h.fleet.receivers, y.serial = r.serial → y.state.hire? = none)
    (state : r.state.hire? = none)
    (room : (∃ y ∈ h.fleet.receivers, y.serial = r.serial) ∨ h.fleet.receivers.length < 4096) :
    (h.putReceiver r).fleet.Lawful where
  ordered := ordered_putReceiver r l.ordered
  room := by
    show (insertBy _ r _).length ≤ 4096
    rw [insertBy_length]
    rcases room with ⟨y, hy, e⟩ | lt
    · have fewer : (h.fleet.receivers.filter fun x => x.serial != r.serial).length < h.fleet.receivers.length :=
        List.length_filter_lt_length_iff_exists.mpr ⟨y, hy, by simp [e]⟩
      exact fewer.trans_le l.room
    · exact (Nat.succ_le_succ (List.length_filter_le _ _)).trans lt
  hires x hx := by
    obtain ⟨low, high, y, hy, hs, st⟩ := l.hires x hx
    refine ⟨low, high, y, mem_putReceiver.mpr (.inr ⟨hy, fun e => ?_⟩), hs, st⟩
    have out := outState_hire x
    rw [← receiver_of_hire l hx hy hs, idle y hy e] at out
    cases out
  out y hy n e := by
    rcases mem_putReceiver.mp hy with rfl | ⟨hy, -⟩
    · rw [state] at e
      cases e
    · exact l.out y hy n e
  badges := l.badges
  listed := l.listed

/-- A receiver that is not out taken from the table. -/
theorem lawful_dropReceiver {r : Receiver} (hr : r ∈ h.fleet.receivers) (idle : r.state.hire? = none) :
    (h.dropReceiver r.serial).fleet.Lawful where
  ordered := ordered_dropReceiver _ l.ordered
  room := (List.length_filter_le _ _).trans l.room
  hires x hx := by
    obtain ⟨low, high, y, hy, hs, st⟩ := l.hires x hx
    refine ⟨low, high, y, mem_dropReceiver.mpr ⟨hy, fun e => ?_⟩, hs, st⟩
    have out := outState_hire x
    rw [← receiver_of_hire l hx hy hs, receiver_unique l.ordered hy hr e, idle] at out
    cases out
  out y hy n e := l.out y (mem_dropReceiver.mp hy).1 n e
  badges := l.badges
  listed := l.listed

/-- A debt cleared; the entry falls where it lists no hire. -/
theorem lawful_clearDebt {b : Badge} (hb : b ∈ h.fleet.badges) : (h.putBadge { b with debt := 0 }).fleet.Lawful where
  ordered := ordered_putBadge _ l.ordered
  room := l.room
  hires := l.hires
  out := l.out
  badges y hy := by
    rcases mem_putBadge.mp hy with ⟨rfl, keeps⟩ | ⟨hy, -⟩
    · obtain ⟨nodup, -, lists⟩ := l.badges b hb
      exact ⟨nodup, keeps, lists⟩
    · exact l.badges y hy
  listed x hx := by
    obtain ⟨y, hy, e⟩ := l.listed x hx
    by_cases same : y.number = b.number
    · have lists : x.number ∈ b.hires := ((l.badges b hb).2.2 x.number).mpr ⟨x, hx, rfl, e.symm.trans same⟩
      exact ⟨{ b with debt := 0 }, mem_putBadge.mpr (.inl ⟨rfl, .inl (List.ne_nil_of_mem lists)⟩), same.symm.trans e⟩
    · exact ⟨y, mem_putBadge.mpr (.inr ⟨hy, same⟩), e⟩

/-! ### Overdue, issue, close -/

/-- A hire and its receiver become OVERDUE together. -/
theorem lawful_overdue {x : Hire} (hx : x ∈ h.fleet.hires) :
    (receiverOverdue x (h.putHire { x with overdue := true })).fleet.Lawful := by
  obtain ⟨r, hr, hs, st⟩ := lawful_receiver l hx
  have found : (h.putHire { x with overdue := true }).receiver x.serial = some r := by
    rw [← hs]
    exact receiver_find (h := h) l.ordered hr
  unfold receiverOverdue
  rw [found]
  have hires {y : Hire} : y ∈ ((h.putHire { x with overdue := true }).putReceiver
      { r with state := .overdue x.number }).fleet.hires ↔ y = { x with overdue := true } ∨ y ∈ h.fleet.hires ∧
        y.number ≠ x.number := mem_putHire
  have receivers {y : Receiver} : y ∈ ((h.putHire { x with overdue := true }).putReceiver
      { r with state := .overdue x.number }).fleet.receivers ↔ y = { r with state := .overdue x.number } ∨
        y ∈ h.fleet.receivers ∧ y.serial ≠ r.serial := mem_putReceiver
  have sameHires (P : Nat → Serial → Prop) : (∃ y ∈ h.fleet.hires, P y.number y.badge) ↔
      ∃ y ∈ ((h.putHire { x with overdue := true }).putReceiver { r with state := .overdue x.number }).fleet.hires,
        P y.number y.badge := by
    constructor
    · rintro ⟨y, hy, p⟩
      by_cases e : y.number = x.number
      · rw [hire_unique l.ordered hy hx e] at p
        exact ⟨_, hires.mpr (.inl rfl), p⟩
      · exact ⟨y, hires.mpr (.inr ⟨hy, e⟩), p⟩
    · rintro ⟨y, hy, p⟩
      rcases hires.mp hy with rfl | ⟨hy, -⟩
      · exact ⟨x, hx, p⟩
      · exact ⟨y, hy, p⟩
  refine
  { ordered := ordered_putReceiver _ (ordered_putHire _ l.ordered)
    room := ?_
    hires := fun y hy => ?_
    out := fun y hy n e => ?_
    badges := fun b hb => ?_
    listed := fun y hy => ?_ }
  · show (insertBy _ _ _).length ≤ 4096
    rw [insertBy_length]
    have fewer : (h.fleet.receivers.filter fun y => y.serial != r.serial).length < h.fleet.receivers.length :=
      List.length_filter_lt_length_iff_exists.mpr ⟨r, hr, by simp⟩
    exact fewer.trans_le l.room
  · rcases hires.mp hy with rfl | ⟨hy, ne⟩
    · exact ⟨(l.hires x hx).1, (l.hires x hx).2.1, _, receivers.mpr (.inl rfl), hs, rfl⟩
    · obtain ⟨low, high, z, hz, hzs, zst⟩ := l.hires y hy
      refine ⟨low, high, z, receivers.mpr (.inr ⟨hz, fun e => ne ?_⟩), hzs, zst⟩
      have same := receiver_of_hire l hy hz hzs
      rw [receiver_unique l.ordered hz hr e, st] at same
      exact (Option.some.inj ((outState_hire x).symm.trans (same ▸ outState_hire y))).symm
  · rcases receivers.mp hy with rfl | ⟨hy, ne⟩
    · cases e
      exact ⟨_, hires.mpr (.inl rfl), rfl, hs.symm⟩
    · obtain ⟨z, hz, rfl, hzs⟩ := l.out y hy n e
      refine ⟨z, hires.mpr (.inr ⟨hz, fun e => ne ?_⟩), rfl, hzs⟩
      rw [hire_unique l.ordered hz hx e] at hzs
      exact hzs.symm.trans hs.symm
  · obtain ⟨nodup, keeps, lists⟩ := l.badges b hb
    exact ⟨nodup, keeps, fun n => (lists n).trans (sameHires fun m g => m = n ∧ g = b.number)⟩
  · obtain ⟨z, hz, e⟩ := (sameHires fun _ g => g = y.badge).mpr ⟨y, hy, rfl⟩
    obtain ⟨b, hb, hbn⟩ := l.listed z hz
    exact ⟨b, hb, hbn.trans e⟩

/-- An open hire entered under a free number, its receiver ISSUED on it and its badge listing it. -/
theorem lawful_booked {x : Hire} {r v : Receiver} {b : Badge} (hr : r ∈ h.fleet.receivers) (idle : r.state.hire? = none)
    (fresh : ∀ y ∈ h.fleet.hires, y.number ≠ x.number) (low : 1 ≤ x.number) (high : x.number ≤ 65535)
    (serial : r.serial = x.serial) (vs : v.serial = r.serial) (state : v.state = Hire.outState x) (bn : b.number = x.badge)
    (lists : b.hires = ((h.badge x.badge).map Badge.hires).getD [] ++ [x.number]) : (booked x v b h).fleet.Lawful := by
  have hires {y : Hire} : y ∈ (booked x v b h).fleet.hires ↔ y = x ∨ y ∈ h.fleet.hires := by
    refine (mem_putHire (h := { h with account := _ })).trans (or_congr_right ?_)
    exact ⟨fun a => a.1, fun a => ⟨a, fresh y a⟩⟩
  have receivers {y : Receiver} : y ∈ (booked x v b h).fleet.receivers ↔
      y = v ∨ y ∈ h.fleet.receivers ∧ y.serial ≠ r.serial := vs ▸ mem_putReceiver (h := Hall.putHire x { h with account := _ })
  have badges {y : Badge} : y ∈ (booked x v b h).fleet.badges ↔ y = b ∨ y ∈ h.fleet.badges ∧ y.number ≠ x.badge := by
    have keeps : b.hires ≠ [] ∨ 0 < b.debt := .inl (by rw [lists]; exact List.append_ne_nil_of_right_ne_nil _ (by simp))
    refine (mem_putBadge (h := Hall.putReceiver v (Hall.putHire x { h with account := _ }))).trans ?_
    rw [bn]
    exact or_congr_left (and_iff_left keeps)
  have apart {y : Hire} (hy : y ∈ h.fleet.hires) {z : Receiver} (hz : z ∈ h.fleet.receivers) (e : z.serial = y.serial) :
      z.serial ≠ r.serial := fun same => by
    have out := outState_hire y
    rw [← receiver_of_hire l hy hz e, receiver_unique l.ordered hz hr same, idle] at out
    cases out
  have oldLists (n : Nat) : n ∈ ((h.badge x.badge).map Badge.hires).getD [] ↔
      ∃ y ∈ h.fleet.hires, y.number = n ∧ y.badge = x.badge := by
    cases f : h.badge x.badge with
    | none =>
      refine ⟨fun m => absurd m List.not_mem_nil, fun ⟨y, hy, _, e⟩ => ?_⟩
      obtain ⟨b', hb', e'⟩ := l.listed y hy
      exact absurd (List.find?_eq_none.mp f b' hb') (by simp [e', e])
    | some b' => exact badge_number f ▸ (l.badges b' (badge_mem f)).2.2 n
  refine
  { ordered := ordered_booked x v b l.ordered
    room := ?_
    hires := fun y hy => ?_
    out := fun y hy n e => ?_
    badges := fun y hy => ?_
    listed := fun y hy => ?_ }
  · show (insertBy _ _ _).length ≤ 4096
    rw [insertBy_length]
    have fewer : (h.fleet.receivers.filter fun y => y.serial != v.serial).length < h.fleet.receivers.length :=
      List.length_filter_lt_length_iff_exists.mpr ⟨r, hr, by simp [vs]⟩
    exact fewer.trans_le l.room
  · rcases hires.mp hy with rfl | hy
    · exact ⟨low, high, v, receivers.mpr (.inl rfl), vs.trans serial, state⟩
    · obtain ⟨low, high, z, hz, hs, st⟩ := l.hires y hy
      exact ⟨low, high, z, receivers.mpr (.inr ⟨hz, apart hy hz hs⟩), hs, st⟩
  · rcases receivers.mp hy with rfl | ⟨hy, -⟩
    · rw [state, outState_hire] at e
      cases e
      exact ⟨x, hires.mpr (.inl rfl), rfl, (vs.trans serial).symm⟩
    · obtain ⟨z, hz, hn, hs⟩ := l.out y hy n e
      exact ⟨z, hires.mpr (.inr hz), hn, hs⟩
  · rcases badges.mp hy with rfl | ⟨hy, ne⟩
    · rw [lists, bn]
      refine ⟨?_, .inl (by simp), fun n => ?_⟩
      · rw [List.nodup_append]
        refine ⟨?_, List.nodup_singleton _, fun n hn m hm e => ?_⟩
        · cases f : h.badge x.badge with
          | none => exact List.nodup_nil
          | some b' => exact (l.badges b' (badge_mem f)).1
        · obtain ⟨z, hz, hzn, -⟩ := (oldLists n).mp hn
          rw [List.mem_singleton] at hm
          exact fresh z hz (hzn.trans (e.trans hm))
      · rw [List.mem_append, oldLists, List.mem_singleton]
        constructor
        · rintro (⟨z, hz, a, c⟩ | rfl)
          · exact ⟨z, hires.mpr (.inr hz), a, c⟩
          · exact ⟨x, hires.mpr (.inl rfl), rfl, rfl⟩
        · rintro ⟨z, hz, a, c⟩
          rcases hires.mp hz with rfl | hz
          · exact .inr a.symm
          · exact .inl ⟨z, hz, a, c⟩
    · obtain ⟨nodup, keeps, mem⟩ := l.badges y hy
      refine ⟨nodup, keeps, fun n => (mem n).trans ⟨?_, ?_⟩⟩
      · rintro ⟨z, hz, a, c⟩
        exact ⟨z, hires.mpr (.inr hz), a, c⟩
      · rintro ⟨z, hz, a, c⟩
        rcases hires.mp hz with rfl | hz
        · exact absurd c.symm ne
        · exact ⟨z, hz, a, c⟩
  · by_cases e : y.badge = x.badge
    · exact ⟨b, badges.mpr (.inl rfl), bn.trans e.symm⟩
    · rcases hires.mp hy with rfl | hy
      · exact absurd rfl e
      · obtain ⟨z, hz, hn⟩ := l.listed y hy
        exact ⟨z, badges.mpr (.inr ⟨hz, fun a => e (hn.symm.trans a)⟩), hn⟩

/-- A hire closed: its receiver no longer out, the hire dropped, its badge's list without it. -/
theorem lawful_closed {x : Hire} {r v : Receiver} (owe : Nat) (hx : x ∈ h.fleet.hires) (hr : r ∈ h.fleet.receivers)
    (out : r.state.hire? = some x.number) (vs : v.serial = r.serial) (idle : v.state.hire? = none) :
    (settleBadge x owe ((h.putReceiver v).dropHire x.number)).fleet.Lawful := by
  have serial : x.serial = r.serial := by
    obtain ⟨z, hz, hn, hs⟩ := l.out r hr _ out
    rw [← hire_unique l.ordered hz hx hn]
    exact hs
  obtain ⟨b, hb, hbn⟩ := l.listed x hx
  have found : ((h.putReceiver v).dropHire x.number).badge x.badge = some b := by
    rw [← hbn]
    exact badge_find (h := h) l.ordered hb
  obtain ⟨nodup, -, mem⟩ := l.badges b hb
  unfold settleBadge
  rw [found]
  dsimp only
  generalize hc : ({ number := b.number, hires := b.hires.filter fun n => n != x.number, debt := satMoney (b.debt + owe) } :
    Badge) = c
  have cn : c.number = b.number := by rw [← hc]
  have cl (n : Nat) : n ∈ c.hires ↔ n ∈ b.hires ∧ n ≠ x.number := by
    rw [← hc]
    simp only [List.mem_filter, bne_iff_ne]
  have hires {y : Hire} : y ∈ (((h.putReceiver v).dropHire x.number).putBadge c).fleet.hires ↔
      y ∈ h.fleet.hires ∧ y.number ≠ x.number := mem_dropHire (h := h.putReceiver v)
  have receivers {y : Receiver} : y ∈ (((h.putReceiver v).dropHire x.number).putBadge c).fleet.receivers ↔
      y = v ∨ y ∈ h.fleet.receivers ∧ y.serial ≠ r.serial := vs ▸ mem_putReceiver (h := h)
  have badges {y : Badge} : y ∈ (((h.putReceiver v).dropHire x.number).putBadge c).fleet.badges ↔
      y = c ∧ (c.hires ≠ [] ∨ 0 < c.debt) ∨ y ∈ h.fleet.badges ∧ y.number ≠ b.number :=
    cn ▸ mem_putBadge (h := (h.putReceiver v).dropHire x.number)
  refine
  { ordered := ordered_putBadge c (ordered_dropHire x.number (ordered_putReceiver v l.ordered))
    room := ?_
    hires := fun y hy => ?_
    out := fun y hy n e => ?_
    badges := fun y hy => ?_
    listed := fun y hy => ?_ }
  · show (insertBy _ _ _).length ≤ 4096
    rw [insertBy_length]
    have fewer : (h.fleet.receivers.filter fun y => y.serial != v.serial).length < h.fleet.receivers.length :=
      List.length_filter_lt_length_iff_exists.mpr ⟨r, hr, by simp [vs]⟩
    exact fewer.trans_le l.room
  · obtain ⟨hy, ne⟩ := hires.mp hy
    obtain ⟨low, high, z, hz, hs, st⟩ := l.hires y hy
    refine ⟨low, high, z, receivers.mpr (.inr ⟨hz, fun e => ne ?_⟩), hs, st⟩
    have same := outState_hire y
    rw [← receiver_of_hire l hy hz hs, receiver_unique l.ordered hz hr e, out] at same
    exact (Option.some.inj same).symm
  · rcases receivers.mp hy with rfl | ⟨hy, ne⟩
    · rw [idle] at e
      cases e
    · obtain ⟨z, hz, rfl, hs⟩ := l.out y hy n e
      refine ⟨z, hires.mpr ⟨hz, fun e => ne ?_⟩, rfl, hs⟩
      rw [← hs, hire_unique l.ordered hz hx e, serial]
  · rcases badges.mp hy with ⟨rfl, keeps⟩ | ⟨hy, ne⟩
    · refine ⟨by rw [← hc]; exact nodup.filter _, keeps, fun n => (cl n).trans ?_⟩
      rw [mem n, cn]
      constructor
      · rintro ⟨⟨z, hz, rfl, e⟩, ne⟩
        exact ⟨z, hires.mpr ⟨hz, ne⟩, rfl, e⟩
      · rintro ⟨z, hz, rfl, e⟩
        exact ⟨⟨z, (hires.mp hz).1, rfl, e⟩, (hires.mp hz).2⟩
    · obtain ⟨nodup, keeps, mem⟩ := l.badges y hy
      refine ⟨nodup, keeps, fun n => (mem n).trans ⟨?_, ?_⟩⟩
      · rintro ⟨z, hz, a, e⟩
        refine ⟨z, hires.mpr ⟨hz, fun same => ne ?_⟩, a, e⟩
        rw [← e, hire_unique l.ordered hz hx same, hbn]
      · rintro ⟨z, hz, a, e⟩
        exact ⟨z, (hires.mp hz).1, a, e⟩
  · obtain ⟨hy, ne⟩ := hires.mp hy
    by_cases e : y.badge = x.badge
    · have lists : y.number ∈ c.hires := (cl _).mpr ⟨(mem _).mpr ⟨y, hy, rfl, e.trans hbn.symm⟩, ne⟩
      exact ⟨c, badges.mpr (.inl ⟨rfl, .inl (List.ne_nil_of_mem lists)⟩), cn.trans (hbn.trans e.symm)⟩
    · obtain ⟨z, hz, hn⟩ := l.listed y hy
      exact ⟨z, badges.mpr (.inr ⟨hz, fun a => e (hn.symm.trans (a.trans hbn))⟩), hn⟩

/-! ### The number of the next hire (R102) -/

/-- Each open hire has a receiver of its own. -/
theorem hires_le_receivers : h.fleet.hires.length ≤ h.fleet.receivers.length := by
  have nodup : (h.fleet.hires.map Hire.serial).Nodup := by
    refine List.Nodup.map_on (fun x hx y hy e => ?_) (l.ordered.2.1.imp fun lt e => Nat.ne_of_lt lt (congrArg _ e))
    obtain ⟨r, hr, hs, st⟩ := lawful_receiver l hx
    have both := receiver_of_hire l hy hr (hs.trans e)
    have same : some x.number = some y.number := by rw [← outState_hire x, ← st, both, outState_hire]
    exact hire_unique l.ordered hx hy (Option.some.inj same)
  have sub : h.fleet.hires.map Hire.serial ⊆ h.fleet.receivers.map Receiver.serial := fun s hs => by
    obtain ⟨x, hx, rfl⟩ := List.mem_map.mp hs
    obtain ⟨r, hr, e, -⟩ := lawful_receiver l hx
    exact List.mem_map.mpr ⟨r, hr, e⟩
  simpa using (nodup.subperm sub).length_le

end

/-- A counter in its range, `i` steps on. -/
theorem stepCounter_iterate (n i : Nat) (low : 1 ≤ n) (high : n ≤ 65535) :
    stepCounter^[i] n = (n - 1 + i) % 65535 + 1 := by
  induction i with
  | zero => simp only [Function.iterate_zero, id_eq]; omega
  | succ i ih =>
    rw [Function.iterate_succ_apply', ih]
    unfold stepCounter
    split <;> omega

theorem stepCounter_range (n : Nat) : 1 ≤ stepCounter n ∧ stepCounter n ≤ 65535 := by
  unfold stepCounter
  split <;> omega

theorem drawNumber_range (h : Hall) (k n : Nat) (low : 1 ≤ n) (high : n ≤ 65535) :
    1 ≤ drawNumber h k n ∧ drawNumber h k n ≤ 65535 := by
  induction k generalizing n with
  | zero => exact ⟨low, high⟩
  | succ k ih =>
    unfold drawNumber
    split
    · exact ih _ (stepCounter_range n).1 (stepCounter_range n).2
    · exact ⟨low, high⟩

/-- A drawn number that is taken comes behind numbers that are all taken. -/
theorem drawNumber_taken (h : Hall) (k n : Nat) (taken : (h.hire (drawNumber h k n)).isSome = true) :
    ∀ i ≤ k, (h.hire (stepCounter^[i] n)).isSome = true := by
  induction k generalizing n with
  | zero =>
    intro i hi
    obtain rfl : i = 0 := by omega
    exact taken
  | succ k ih =>
    unfold drawNumber at taken
    split at taken
    · next first =>
      intro i hi
      cases i with
      | zero => exact first
      | succ i => exact ih (stepCounter n) taken i (by omega)
    · next first => exact absurd taken first

/-- Fewer hires than numbers tried: the number drawn is free. -/
theorem nextNumber_free (h : Hall) (room : h.fleet.hires.length ≤ 4096) : h.hire h.nextNumber = none := by
  by_contra ne
  have start := stepCounter_range h.account.hireCounter
  have taken := drawNumber_taken h 4096 (stepCounter h.account.hireCounter) (Option.isSome_iff_ne_none.mpr ne)
  have nodup : ((List.range 4097).map fun i => stepCounter^[i] (stepCounter h.account.hireCounter)).Nodup := by
    refine List.Nodup.map_on (fun i hi j hj e => ?_) List.nodup_range
    rw [stepCounter_iterate _ _ start.1 start.2, stepCounter_iterate _ _ start.1 start.2] at e
    rw [List.mem_range] at hi hj
    omega
  have sub : ((List.range 4097).map fun i => stepCounter^[i] (stepCounter h.account.hireCounter)) ⊆
      h.fleet.hires.map Hire.number := fun n hn => by
    obtain ⟨i, hi, rfl⟩ := List.mem_map.mp hn
    obtain ⟨x, hx⟩ := Option.isSome_iff_exists.mp (taken i (by have := List.mem_range.mp hi; omega))
    exact List.mem_map.mpr ⟨x, hire_mem hx, hire_number hx⟩
  have := (nodup.subperm sub).length_le
  simp only [List.length_map, List.length_range] at this
  omega

theorem nextNumber_range (h : Hall) : 1 ≤ h.nextNumber ∧ h.nextNumber ≤ 65535 :=
  drawNumber_range h 4096 _ (stepCounter_range _).1 (stepCounter_range _).2

/-! ### Demand is the count of the hires (R15) -/

/-- The number of hires preset to a channel. -/
def presetCount (c : ChannelId) (l : List Hire) : Nat := (l.filter fun x => x.preset == c).length

/-- Each channel's demand is the number of open hires preset to it. -/
def DemandCounts (h : Hall) : Prop := ∀ c : ChannelId, h.channels[c].demand = presetCount c h.fleet.hires

theorem presetCount_perm (c : ChannelId) {l m : List Hire} (p : l.Perm m) : presetCount c l = presetCount c m :=
  (p.filter _).length_eq

theorem presetCount_cons (c : ChannelId) (x : Hire) (l : List Hire) :
    presetCount c (x :: l) = presetCount c l + if c = x.preset then 1 else 0 := by
  unfold presetCount
  rw [List.filter_cons]
  by_cases e : x.preset = c
  · simp [e]
  · simp [e, Ne.symm e]

/-- A hire of a rising table in front of the others. -/
theorem hires_perm {l : List Hire} (rising : l.Pairwise fun x y => x.number < y.number) {x : Hire} (hx : x ∈ l) :
    l.Perm (x :: l.filter fun y => y.number != x.number) := by
  induction l with
  | nil => cases hx
  | cons y l ih =>
    obtain ⟨below, rest⟩ := List.pairwise_cons.mp rising
    rcases List.mem_cons.mp hx with rfl | hx
    · have others : (l.filter fun y => y.number != x.number) = l :=
        List.filter_eq_self.mpr fun z hz => by simpa using Nat.ne_of_gt (below z hz)
      rw [List.filter_cons_of_neg (by simp), others]
    · rw [List.filter_cons_of_pos (by simpa using Nat.ne_of_lt (below x hx))]
      exact ((ih rest hx).cons y).trans (.swap _ _ _)

theorem putHire_perm (x : Hire) (h : Hall) :
    (h.putHire x).fleet.hires.Perm (x :: h.fleet.hires.filter fun y => y.number != x.number) := insertBy_perm _ _

theorem demand_moveHire {h : Hall} {x : Hire} (d : ChannelId) (o : h.fleet.ordered) (hx : x ∈ h.fleet.hires)
    (counts : DemandCounts h) : DemandCounts (moveHire d h x) := by
  intro c
  have before := presetCount_perm c (hires_perm o.2.1 hx)
  have after := presetCount_perm c (putHire_perm (h.moved x d) h)
  rw [presetCount_cons] at before after
  have number : (h.moved x d).number = x.number := rfl
  have preset : (h.moved x d).preset = d := rfl
  rw [number, preset] at after
  unfold moveHire
  rw [demandRise_demand, demandFall_demand, demandRise_fleet, demandFall_fleet, after]
  show h.channels[c].demand - _ + _ = _
  rw [counts c, before]
  omega

/-! ### The laws together, at every step -/

/-- The laws of the fleet and of the demand. -/
def FleetCounted (h : Hall) : Prop := h.fleet.Lawful ∧ DemandCounts h

theorem fleetCounted_same {h k : Hall} (p : Housed h k) (l : FleetCounted h) : FleetCounted k :=
  ⟨p.fleet ▸ l.1, fun c => by rw [p.demand, p.fleet]; exact l.2 c⟩

theorem fleetCounted_overdue {h : Hall} {x : Hire} (hx : x ∈ h.fleet.hires) (l : FleetCounted h) :
    FleetCounted (makeOverdue x h) := by
  refine fleetCounted_same (makeOverdue_housed x h) ⟨lawful_overdue l.1 hx, fun c => ?_⟩
  have hires : (receiverOverdue x (h.putHire { x with overdue := true })).fleet.hires =
      (h.putHire { x with overdue := true }).fleet.hires := by
    unfold receiverOverdue
    split <;> rfl
  have demand : (receiverOverdue x (h.putHire { x with overdue := true })).channels = h.channels := by
    unfold receiverOverdue
    split <;> rfl
  rw [hires, demand, l.2 c, presetCount_perm c (hires_perm l.1.ordered.2.1 hx), presetCount_perm c (putHire_perm _ h),
    presetCount_cons, presetCount_cons]

theorem listedBadge_hires (badge : Serial) (h : Hall) :
    (listedBadge badge h).hires = ((h.badge badge).map Badge.hires).getD [] ++ [h.nextNumber] := by
  unfold listedBadge
  cases h.badge badge <;> rfl

theorem listedBadge_number (badge : Serial) (h : Hall) : (listedBadge badge h).number = badge := by
  unfold listedBadge
  cases e : h.badge badge with
  | none => rfl
  | some b => exact badge_number (b := b) e

theorem fleetCounted_openHire {h : Hall} {r : Receiver} (desk badge tar ch bat) (found : h.receiver r.serial = some r)
    (st : r.state = .stock) (l : FleetCounted h) : FleetCounted (openHire desk r badge tar ch bat h) := by
  have free := nextNumber_free h ((hires_le_receivers l.1).trans l.1.room)
  have fresh : ∀ y ∈ h.fleet.hires, y.number ≠ h.nextNumber := fun y hy e =>
    absurd (List.find?_eq_none.mp free y hy) (by simp [e])
  constructor
  · rw [openHire_fleet]
    exact lawful_booked l.1 (receiver_mem found) (by rw [st]; rfl) fresh (nextNumber_range h).1 (nextNumber_range h).2 rfl
      rfl rfl (listedBadge_number badge h) (listedBadge_hires badge h)
  · intro c
    have hires : (openHire desk r badge tar ch bat h).fleet.hires.Perm
        (newHire desk r.serial badge tar ch h :: h.fleet.hires) := by
      rw [openHire_fleet]
      refine (putHire_perm (newHire desk r.serial badge tar ch h) { h with account := _ }).trans (List.Perm.of_eq ?_)
      congr 1
      exact List.filter_eq_self.mpr fun y hy => bne_iff_ne.mpr (fresh y hy)
    rw [presetCount_perm c hires, presetCount_cons, openHire_eq, meterEvent_channels, handOpenHires_channels]
    refine (demandRise_demand ch _ c).trans ?_
    exact congrArg (· + _) (l.2 c)

theorem fleetCounted_closeHire {h : Hall} {x : Hire} {r v : Receiver} (rec) (found : h.receiver r.serial = some r)
    (open_ : r.state.hire?.bind h.hire = some x) (vs : v.serial = r.serial) (idle : v.state.hire? = none)
    (l : FleetCounted h) : FleetCounted (closeHire rec x v h) := by
  obtain ⟨n, out, hx⟩ := Option.bind_eq_some_iff.mp open_
  obtain rfl := hire_number hx
  constructor
  · rw [closeHire_fleet]
    exact lawful_closed l.1 _ (hire_mem hx) (receiver_mem found) out vs idle
  · intro c
    have hires : (closeHire rec x v h).fleet.hires = h.fleet.hires.filter fun y => y.number != x.number := by
      rw [closeHire_fleet]
      unfold settleBadge
      split <;> rfl
    have before := presetCount_perm c (hires_perm l.1.ordered.2.1 (hire_mem hx))
    rw [presetCount_cons] at before
    have demand : ∀ k, (settleBadge x rec.outstanding k).channels = k.channels := fun k => by
      unfold settleBadge
      split <;> rfl
    rw [hires]
    unfold closeHire
    rw [handOpenHires_channels, demandFall_demand, demand]
    show h.channels[c].demand - _ = _
    rw [l.2 c, before]
    omega

theorem lawful_moveStray {h : Hall} {x : Hire} (hx : x ∈ h.fleet.hires) (l : h.fleet.Lawful) :
    (moveStray h x).fleet.Lawful := lawful_replaceHire l hx rfl rfl rfl rfl

/-- Hires of different numbers moved off their channels one after the other. -/
theorem lawful_moveStrays {l : List Hire} (distinct : l.Pairwise fun x y => x.number < y.number) {h : Hall}
    (mem : ∀ x ∈ l, x ∈ h.fleet.hires) (lawful : h.fleet.Lawful) : (l.foldl moveStray h).fleet.Lawful := by
  induction l generalizing h with
  | nil => exact lawful
  | cons x l ih =>
    obtain ⟨below, rest⟩ := List.pairwise_cons.mp distinct
    rw [List.foldl_cons]
    exact ih rest (fun y hy => mem_putHire.mpr (.inr ⟨mem y (.tail _ hy), Nat.ne_of_gt (below y hy)⟩))
      (lawful_moveStray (mem x (.head _)) lawful)

theorem lawful_zeroSnapshots {h : Hall} (l : h.fleet.Lawful) : (zeroSnapshots h).fleet.Lawful := by
  refine lawful_hires l (List.pairwise_map.mpr l.ordered.2.1) (fun x hx => ?_) fun y hy => ?_
  · obtain ⟨y, hy, rfl⟩ := List.mem_map.mp hx
    exact ⟨y, hy, rfl, rfl, rfl, rfl⟩
  · exact ⟨_, List.mem_map_of_mem hy, rfl, rfl, rfl, rfl⟩

theorem demand_recount (h : Hall) : DemandCounts (recountDemand h) := by
  intro c
  simp only [recountDemand, vtab_get, presetCount]

theorem fleetCounted_recounted (bad : AreaSet) {h : Hall} (l : h.fleet.Lawful) : FleetCounted (recounted bad h) := by
  have moved : (if bad.settings then h.strayHires.foldl moveStray h else h).fleet.Lawful := by
    split
    · exact lawful_moveStrays (l.ordered.2.1.filter _) (fun x hx => List.mem_of_mem_filter hx) l
    · exact l
  have zeroed (k : Hall) (i : k.fleet.Lawful) : (if bad.account then defaultPeak (zeroSnapshots k) else k).fleet.Lawful := by
    split
    · exact lawful_zeroSnapshots i
    · exact i
  refine ⟨?_, demand_recount _⟩
  have recount (k : Hall) : (recountDemand k).fleet = k.fleet := by
    unfold recountDemand
    rfl
  unfold recounted
  dsimp only
  rw [recount]
  exact zeroed _ moved

theorem fleet_law : FleetLaw FleetCounted Fleet.Lawful where
  same _ _ p l := fleetCounted_same p l
  fleet _ l := l.1
  empty :=
    { ordered := ⟨.nil, .nil, .nil⟩
      room := Nat.zero_le _
      hires := fun _ h => absurd h List.not_mem_nil
      out := fun _ h => absurd h List.not_mem_nil
      badges := fun _ h => absurd h List.not_mem_nil
      listed := fun _ h => absurd h List.not_mem_nil }
  distinct _ l := l.1.ordered.2.1
  moved h x d hx l :=
    ⟨by rw [moveHire_fleet]; exact lawful_replaceHire l.1 hx rfl rfl rfl rfl, demand_moveHire d l.1.ordered hx l.2⟩
  overdue h x hx _ l := fleetCounted_overdue hx l
  standing h r v found idle vs state l := by
    refine ⟨lawful_putReceiver l.1 (fun y hy e => ?_) state (.inl ⟨r, receiver_mem found, vs.symm⟩), l.2⟩
    rw [receiver_unique l.1.ordered hy (receiver_mem found) (e.trans vs)]
    exact idle
  created h r none room st l := by
    refine ⟨lawful_putReceiver l.1 (fun y hy e => ?_) (by rw [st]; rfl) (.inr ?_), l.2⟩
    · exact absurd (List.find?_eq_none.mp none y hy) (by simp [e])
    · simpa [Hall.tableFull] using room
  removed h r found idle l := ⟨lawful_dropReceiver l.1 (receiver_mem found) idle, l.2⟩
  cleared h b found l := ⟨lawful_clearDebt l.1 (badge_mem found), l.2⟩
  opened h desk r badge tar ch bat found st l := fleetCounted_openHire desk badge tar ch bat found st l
  closed h rec x r v found open_ vs idle l := fleetCounted_closeHire rec found open_ vs idle l
  counted bad h l := fleetCounted_recounted bad l

/-- Settles O8: every operation of the hire unit moves a hire with its receiver, its badge and the demand. -/
theorem stepKeepsFleetLawful : Obligations.StepKeepsFleetLawful := by
  rintro s t ⟨l, counts, held, current⟩ e
  obtain ⟨⟨l', counts'⟩, held', current'⟩ := fleet_law.stepLaw.step ⟨l, counts⟩ ⟨held, fun c hc f => current c f hc⟩ e
  exact ⟨l', counts', held', fun c f hc => current' c hc f⟩

end Sys2Proof.StepProofs
end

-- ==== Proofs: Written ====
section
/-! PROOFS. Retained state is written through (R1, R170): each operation leaves an area as it was, asks for its write, or
is part of an order whose own write takes it. -/

namespace Sys2Proof.StepProofs

open Machine

/-! ### The areas an operation moves -/

/-- An area's part of the blocks is the same. -/
def Same (h k : Hall) : Area → Prop
  | .settings => k.settings = h.settings
  | .fleet => k.fleet = h.fleet
  | .account => k.account = h.account
  | .clock => k.clock.minute = h.clock.minute ∧ k.clock.stale = h.clock.stale

/-- A write of the area is asked for. -/
def Asked (h : Hall) (a : Area) : Prop := ∃ x ∈ h.work.asks, x.has a = true

/-- Each area is as it was, in the event's own write, or asked for. -/
def Covered (own : AreaSet) (h k : Hall) : Prop := ∀ a, Same h k a ∨ own.has a = true ∨ Asked k a

/-- `Covered`, and what was asked for is asked for still. -/
structure Thru (own : AreaSet) (h k : Hall) : Prop where
  covered : Covered own h k
  keeps   : ∀ a, Asked h a → Asked k a

theorem Same.refl (h : Hall) (a : Area) : Same h h a := by
  cases a
  case clock => exact ⟨rfl, rfl⟩
  all_goals exact rfl

theorem Same.trans {h k l : Hall} {a : Area} (p : Same h k a) (q : Same k l a) : Same h l a := by
  cases a
  case clock => exact ⟨q.1.trans p.1, q.2.trans p.2⟩
  all_goals exact Eq.trans q p

theorem Thru.refl (own : AreaSet) (h : Hall) : Thru own h h := ⟨fun a => .inl (.refl h a), fun _ => id⟩

theorem Thru.trans {own : AreaSet} {h k l : Hall} (p : Thru own h k) (q : Thru own k l) : Thru own h l where
  covered a := by
    rcases p.covered a with s | o | e
    · rcases q.covered a with s' | o | e
      · exact .inl (s.trans s')
      · exact .inr (.inl o)
      · exact .inr (.inr e)
    · exact .inr (.inl o)
    · exact .inr (.inr (q.keeps a e))
  keeps a := q.keeps a ∘ p.keeps a

theorem Thru.foldl {own : AreaSet} {α : Type} {f : Hall → α → Hall} (hf : ∀ h x, Thru own h (f h x)) (l : List α) (h : Hall) :
    Thru own h (l.foldl f h) := foldl_keeps (Thru.refl own) Thru.trans hf l h

theorem same_parts {h k : Hall} (settings : k.settings = h.settings) (fleet : k.fleet = h.fleet)
    (account : k.account = h.account) (minute : k.clock.minute = h.clock.minute) (stale : k.clock.stale = h.clock.stale)
    (a : Area) : Same h k a := by
  cases a
  case settings => exact settings
  case fleet => exact fleet
  case account => exact account
  case clock => exact ⟨minute, stale⟩

theorem asked_append {h k : Hall} {l : List AreaSet} (e : k.work.asks = h.work.asks ++ l) {a : Area} (n : Asked h a) :
    Asked k a := by
  obtain ⟨x, hx, t⟩ := n
  exact ⟨x, by rw [e]; exact List.mem_append_left l hx, t⟩

theorem asked_of_append {h k : Hall} {l : List AreaSet} (e : k.work.asks = h.work.asks ++ l) {x : AreaSet} (hx : x ∈ l)
    {a : Area} (t : x.has a = true) : Asked k a := ⟨x, by rw [e]; exact List.mem_append_right _ hx, t⟩

theorem Works.thru {h k : Hall} (p : Works h k) {own : AreaSet} (settings : own.settings = true ∨ k.settings = h.settings) :
    Thru own h k := by
  obtain ⟨l, e, account⟩ := p.asks
  refine ⟨fun a => ?_, fun a => asked_append e⟩
  cases a with
  | settings => exact settings.elim (fun o => .inr (.inl o)) .inl
  | fleet => exact .inl p.fleet
  | account =>
    by_cases same : k.account = h.account
    · exact .inl same
    · obtain ⟨x, hx, t⟩ := account same
      exact .inr (.inr (asked_of_append e hx t))
  | clock => exact .inl ⟨p.minute, p.stale⟩

theorem Stays.thru {h k : Hall} (p : Stays h k) (own : AreaSet) : Thru own h k := p.toWorks.thru (.inr p.settings)

theorem Works.thruSettings {h k : Hall} (p : Works h k) : Thru onlySettings h k := p.thru (.inl rfl)

/-- What the hire unit does is within the FLEET and the ACCOUNT area. -/
theorem HireWork.thru {h k : Hall} (p : HireWork h k) {own : AreaSet} (fleet : own.fleet = true) (account : own.account = true) :
    Thru own h k := by
  obtain ⟨l, e⟩ := p.grows
  refine ⟨fun a => ?_, fun a => asked_append e⟩
  cases a with
  | settings => exact .inl p.settings
  | fleet => exact .inr (.inl fleet)
  | account => exact .inr (.inl account)
  | clock => exact .inl ⟨p.minute, p.stale⟩

section
variable (own : AreaSet) (h : Hall)

/-- An edit of the fleet's tables under the event's own FLEET write. -/
theorem thru_fleet (f : Fleet) (o : own.fleet = true) : Thru own h { h with fleet := f } :=
  ⟨fun a => by
    cases a with
    | fleet => exact .inr (.inl o)
    | clock => exact .inl ⟨rfl, rfl⟩
    | _ => exact .inl rfl, fun _ => id⟩

/-- An edit of the account under the event's own ACCOUNT write. -/
theorem thru_account (x : Account) (o : own.account = true) : Thru own h { h with account := x } :=
  ⟨fun a => by
    cases a with
    | account => exact .inr (.inl o)
    | clock => exact .inl ⟨rfl, rfl⟩
    | _ => exact .inl rfl, fun _ => id⟩

/-- An edit of the clock under the event's own CLOCK write. -/
theorem thru_clock (c : Clock) (o : own.clock = true) : Thru own h { h with clock := c } :=
  ⟨fun a => by
    cases a with
    | clock => exact .inr (.inl o)
    | _ => exact .inl rfl, fun _ => id⟩

/-- A change of demand moves no area but through the allocator. -/
theorem thru_demand (c : ChannelId) (f : ChannelRun → ChannelRun) : Thru own h (allocEvent reorder (h.modChannel c f)) := by
  have first : Thru own h (reorder (h.modChannel c f)) :=
    ⟨fun a => by
      cases a with
      | clock => exact .inl ⟨rfl, rfl⟩
      | _ => exact .inl rfl, fun _ => id⟩
  exact first.trans (((stays_serveList _ 32).trans (stays_allocReport _ (h.modChannel c f))).thru own)

theorem thru_demandRise (c) : Thru own h (demandRise c h) := thru_demand own h c _

theorem thru_demandFall (c) : Thru own h (demandFall c h) := thru_demand own h c _

/-- A hire moved under the event's own FLEET write. -/
theorem thru_moveHire (o : own.fleet = true) (d : ChannelId) (x : Hire) : Thru own h (moveHire d h x) := by
  have put : Thru own h (h.putHire (h.moved x d)) := thru_fleet own h _ o
  exact (put.trans (thru_demandFall own _ _)).trans (thru_demandRise own _ d)

/-- Records edited, with the FLEET write asked for behind them. -/
theorem thru_overdue (x : Hire) : Thru own h (makeOverdue x h) := by
  have edited : Thru onlyFleet h (receiverOverdue x (h.putHire { x with overdue := true })) := by
    unfold receiverOverdue
    split
    · exact (thru_fleet _ h _ rfl).trans (thru_fleet _ _ _ rfl)
    · exact thru_fleet _ h _ rfl
  have posted : Thru onlyFleet h (meterEvent (hireEvent .overdue x.desk x.tariff x.preset)
      ((receiverOverdue x (h.putHire { x with overdue := true })).post .hire .overdue x.serial.toNat x.number)) :=
    edited.trans (((stays_post _ _ _ _ _).trans (stays_meterEvent _ _)).thru _)
  have asked := stays_ask (meterEvent (hireEvent .overdue x.desk x.tariff x.preset)
      ((receiverOverdue x (h.putHire { x with overdue := true })).post .hire .overdue x.serial.toNat x.number)) onlyFleet
  refine ⟨fun a => ?_, fun a n => (asked.thru own).keeps a (posted.keeps a n)⟩
  have fleet : Asked (makeOverdue x h) .fleet := ⟨onlyFleet, List.mem_append_right _ (.head _), rfl⟩
  rcases posted.covered a with s | o | n
  · rcases (asked.thru own).covered a with s' | o | n
    · exact .inl (s.trans s')
    · exact .inr (.inl o)
    · exact .inr (.inr n)
  · cases a
    case fleet => exact .inr (.inr fleet)
    all_goals cases o
  · exact .inr (.inr ((asked.thru own).keeps a n))

theorem thru_takeDue (n : Nat) : Thru own h (takeDue n h) := by
  unfold takeDue
  split
  · split
    · exact thru_overdue own h _
    · exact .refl own h
  · exact .refl own h

theorem thru_takeAllDue : Thru own h (takeAllDue h) :=
  .foldl (f := fun k (x : Hire) => takeDue x.number k) (fun k x => thru_takeDue own k x.number) _ _

theorem thru_takeExpiry (e) : Thru own h (takeExpiry h e) := by
  unfold takeExpiry
  split
  · exact (stays_expireHandover h _).thru own
  · exact (stays_expireHold h _).thru own
  · exact (stays_takeShiftReminder h _).thru own
  · exact (stays_takeGoodRun h _).thru own
  · exact (stays_expireProbe h _).thru own
  · exact (stays_endFlash h _).thru own
  · exact thru_takeDue own h _
  · exact (stays_takeWindowClose h _).thru own

theorem thru_takeDueExpiries : Thru own h (takeDueExpiries h) := by
  unfold takeDueExpiries
  exact .foldl (thru_takeExpiry own) _ _

/-- A receiver presented, its record created where it had none. -/
theorem thru_presented {ser : Serial} {h k : Hall} {r : Receiver} {new : Bool} (p : presented ser h = .ok (r, k, new)) :
    Thru onlyFleet h k := by
  rcases presented_cases p with ⟨-, rfl, -⟩ | ⟨w, -, -, -, -, rfl, -⟩
  · exact .refl _ k
  · exact thru_fleet onlyFleet h _ rfl

theorem thru_restarted (s : State) : Thru own h (restarted h s).hall := by
  rw [restarted_hall]
  refine Thru.trans (k := { h with work := { h.work with posts := [] } }) ?_ (thru_takeDueExpiries own _)
  exact ⟨fun a => .inl (same_parts rfl rfl rfl rfl rfl a), fun _ => id⟩

/-- The minute moved with the running stamps under the event's own CLOCK write. -/
theorem thru_moveMinute (o : own.clock = true) (m : Nat) : Thru own h (moveMinute m h) := by
  unfold moveMinute
  exact ⟨fun a => by
    cases a with
    | clock => exact .inr (.inl o)
    | _ => exact .inl rfl, fun _ => id⟩

theorem thru_takeSetClock (m : Nat) : Thru onlyClock h (takeSetClock m h) := by
  have moved : Thru onlyClock h (minuteMoved m h) := by
    unfold minuteMoved
    split
    · exact .refl _ h
    · exact ((stays_bringUpSpells h).thru _).trans (thru_moveMinute _ _ rfl m)
  have set := moved.trans (thru_clock onlyClock _ { (minuteMoved m h).clock with
    stale := false, minuteStart := (minuteMoved m h).clock.ticks } rfl)
  rw [takeSetClock_eq]
  split
  · exact set.trans (thru_takeAllDue _ _)
  · exact set

theorem thru_riseMinute : Thru own h (riseMinute h) := by
  unfold riseMinute
  dsimp only
  split
  · refine ⟨fun a => ?_, fun a n => asked_append (l := [onlyClock]) rfl n⟩
    cases a with
    | clock => exact .inr (.inr ⟨onlyClock, List.mem_append_right _ (.head _), rfl⟩)
    | _ => exact .inl rfl
  · exact ⟨fun a => by
      cases a with
      | clock => exact .inl ⟨rfl, rfl⟩
      | _ => exact .inl rfl, fun _ => id⟩

theorem thru_event {i : Instr} {f : Hall → Hall} (m : eventMeaning i = some f) : Thru own h (f h) := by
  by_cases rise : i = .hallMinuteRise
  · subst rise
    cases m
    exact thru_riseMinute own h
  · by_cases due : ∃ n, i = .dueMinuteExpiry n
    · obtain ⟨n, rfl⟩ := due
      cases m
      exact thru_takeDue own h n
    · exact (stays_event h m rise fun n e => due ⟨n, e⟩).thru own

theorem thru_placeRecord (o : own.account = true) (r : Settlement) : Thru own h (placeRecord r h).1 := by
  rw [placeRecord_frame]
  have asks : (placeRecord r h).1.work.asks = h.work.asks := by
    unfold placeRecord unitemise Hall.post
    dsimp only
    split
    · rfl
    · split
      · split <;> rfl
      · rfl
  refine ⟨fun a => ?_, fun a n => ?_⟩
  · cases a with
    | account => exact .inr (.inl o)
    | clock => exact .inl ⟨rfl, rfl⟩
    | _ => exact .inl rfl
  · obtain ⟨x, hx, t⟩ := n
    exact ⟨x, by rw [← asks] at hx; exact hx, t⟩

theorem thru_setSession (v log last) : Thru onlyAccount h (setSession v log last h) :=
  (thru_account onlyAccount h { h.account with session := v, log := log, lastSession := last } rfl).trans
    ((stays_spellsAll _).thru _)

theorem peaksSet_rest : (peaksSet h).settings = h.settings ∧ (peaksSet h).account = h.account ∧
    (peaksSet h).clock = h.clock ∧ (peaksSet h).work = h.work := by
  unfold peaksSet
  exact ⟨rfl, rfl, rfl, rfl⟩

theorem thru_peaksSet : Thru own h (peaksSet h) := by
  obtain ⟨settings, account, clock, work⟩ := peaksSet_rest h
  refine ⟨fun a => .inl (same_parts settings (peaksSet_fleet h) account (by rw [clock]) (by rw [clock]) a), fun a n => ?_⟩
  unfold Asked
  rw [work]
  exact n

theorem thru_startSession (k : CentreId) : Thru onlyAccount h (startSession k h) := by
  rw [startSession_eq]
  exact (thru_setSession h _ _ _).trans (thru_peaksSet _ _)

theorem thru_startDay (d : Nat) : Thru onlyAccount h (startDay d h) :=
  (thru_account onlyAccount h (h.account.opened d h.openHires) rfl).trans ((stays_startDay h d).thru _)

theorem thru_endDay : Thru onlyAccount h (endDay h) :=
  (thru_account onlyAccount h { h.account with day := { h.account.day with isOpen := false } } rfl).trans
    ((stays_endDay h).thru _)

/-- A disable with hires to move takes FLEET and ACCOUNT into its own write; without, nothing of either moves (R6). -/
theorem thru_applyChannel (c : ChannelId) (a : SetChannelArgs) (settings : own.settings = true)
    (moves : 0 < hiresMoved c a h → own.fleet = true ∧ own.account = true) : Thru own h (applyChannel c a h) := by
  have first : Thru own h (hiresMovedOff c a h) := by
    unfold hiresMovedOff
    split
    · next dis =>
      by_cases none : h.hiresOn c = []
      · rw [none]
        exact .refl own h
      · have count : 0 < hiresMoved c a h := by
          unfold hiresMoved
          dsimp only
          rw [if_pos dis]
          exact List.length_pos_iff.mpr none
        exact .foldl (fun k x => thru_moveHire own k (moves count).1 0 x) _ _
    · exact .refl own h
  rw [applyChannel_eq]
  exact first.trans ((works_channelSettings c a _ _).thru (.inl settings))

end

/-! ### Every verdict -/

/-- The areas of an answer's own write. -/
def ownSet (v : Verdict) : AreaSet := (ownAreas v).getD AreaSet.none

theorem union_has (x y : AreaSet) (a : Area) : (x.union y).has a = (x.has a || y.has a) := by
  cases a <;> rfl

theorem foldl_union_has (l : List AreaSet) (own : AreaSet) (a : Area) :
    (l.foldl AreaSet.union own).has a = true ↔ own.has a = true ∨ ∃ x ∈ l, x.has a = true := by
  induction l generalizing own with
  | nil => simp
  | cons y l ih =>
    rw [List.foldl_cons, ih, union_has]
    simp [or_assoc]

/-- What the consequences asked for is in the one write (R2). -/
theorem covered_gathered {own : AreaSet} {h k : Hall} (p : Thru own h k) :
    Covered (gatherAsks own k).1 h (gatherAsks own k).2 := fun a => by
  have gathered : (gatherAsks own k).1.has a = true ↔ own.has a = true ∨ Asked k a := foldl_union_has _ _ a
  rcases p.covered a with s | o | n
  · exact .inl (s.trans (same_parts rfl rfl rfl rfl rfl a))
  · exact .inr (.inl (gathered.mpr (.inl o)))
  · exact .inr (.inl (gathered.mpr (.inr n)))

/-- Every verdict's changes are in its own write or asked for. -/
theorem meant_covered {i : Instr} {s : State} {v : Verdict} (m : Meant i s v) :
    Covered (ownSet v) s.hall (state v).hall := by
  cases m <;> dsimp only [state, refuse, ownSet, ownAreas, Option.getD]
  case refused | read | fetched | acknowledged | faultsCleared => exact (Thru.refl _ s.hall).covered
  case tariff => exact (works_setTariff _ _ _).thruSettings.covered
  case centre => exact (works_settings s.hall _).thruSettings.covered
  case channel c a own r ho =>
    refine covered_gathered (thru_applyChannel own s.hall c a ?_ fun pos => ?_)
    · rw [ho]; split <;> rfl
    · rw [ho, if_pos pos]; exact ⟨rfl, rfl⟩
  case booth => exact (works_applyBooth _ _ _).thruSettings.covered
  case console => exact (works_assignConsole _ _ _).thruSettings.covered
  case relayList => exact (works_applyRelayList _ _ _).thruSettings.covered
  case window => exact (works_applyFleet _ _ _).thruSettings.covered
  case hall => exact (works_applyHall _ _).thruSettings.covered
  case meter => exact (works_applyMeter _ _ _).thruSettings.covered
  case clock => exact (thru_takeSetClock _ _).covered
  case openDay => exact (thru_startDay _ _).covered
  case closeDay => exact (thru_endDay _).covered
  case openSession => exact (thru_startSession _ _).covered
  case suspend | resume | endSession => exact (thru_setSession _ _ _ _).covered
  case release => exact (thru_account onlyAccount s.hall _ rfl).covered
  case lost =>
    rw [loseHire_hall]
    exact (((hireWork_closeHire _ _ _ _).thru rfl rfl).trans (thru_placeRecord fleetAccount _ rfl _)).covered
  case faulty | repaired =>
    exact ((thru_fleet onlyFleet s.hall _ rfl).trans ((stays_lowStockTests _ _).thru _)).covered
  case removed => exact ((thru_fleet onlyFleet s.hall _ rfl).trans ((stays_lowStockTests _ _).thru _)).covered
  case debt => exact (thru_fleet onlyFleet s.hall _ rfl).covered
  case readmit => exact ((stays_modConsole _ _ _).thru _).covered
  case force => exact (((stays_forceOff _ _).trans (stays_settle _)).thru _).covered
  case clearMeter => exact ((stays_metered (metered_clearResults _ _)).thru _).covered
  case restartNow | restartWaits => exact (((stays_takeDown _).thru _).trans (thru_restarted _ _ _)).covered
  case restartHold => exact (thru_restarted _ _ _).covered
  case created p =>
    exact ((thru_presented p).trans ((stays_lowStockTests _ _).thru _)).covered
  case battery p _ =>
    exact (((thru_presented p).trans ((thru_fleet onlyFleet _ _ rfl).trans ((stays_meterEvent _ _).thru _))).trans
      ((stays_lowStockTests _ _).thru _)).covered
  case issued p _ =>
    exact (((hireWork_presented _ p).trans (hireWork_openHire _ _ _ _ _ _ _)).trans
      (hireWork_lowStockTests _ _)).thru rfl rfl |>.covered
  case retuned => exact ((thru_moveHire onlyFleet s.hall rfl _ _).trans ((stays_meterEvent _ _).thru _)).covered
  case found p _ =>
    rw [findReceiver_hall]
    exact ((((hireWork_presented _ p).trans (hireWork_afterFound _ _ _ _ _)).thru rfl rfl).trans
      (thru_placeRecord fleetAccount _ rfl _)).covered
  case returned p _ _ =>
    rw [returnHire_hall]
    exact ((((hireWork_presented _ p).trans (hireWork_afterClose _ _ _ _ _ _)).thru rfl rfl).trans
      (thru_placeRecord fleetAccount _ rfl _)).covered

/-! ### Sets of areas, and the rewrite times -/

theorem diff_has (x y : AreaSet) (a : Area) : (x.diff y).has a = (x.has a && !y.has a) := by
  cases a <;> rfl

theorem inter_has (x y : AreaSet) (a : Area) : (x.inter y).has a = (x.has a && y.has a) := by
  cases a <;> rfl

theorem none_has (a : Area) : AreaSet.none.has a = false := by
  cases a <;> rfl

theorem single_has (a : Area) : (AreaSet.single a).has a = true := by
  cases a <;> rfl

theorem subset_has {x y : AreaSet} (e : x.subset y = true) {a : Area} (hx : x.has a = true) : y.has a = true := by
  have none : x.diff y = AreaSet.none := by simpa [AreaSet.subset] using e
  have := diff_has x y a
  rw [none, none_has, hx] at this
  simpa using this

theorem rewrites_get_set (r : Rewrites) (a b : Area) (t : Option Nat) :
    (r.set a t).get b = if a = b then t else r.get b := by
  cases a <;> cases b <;> rfl

/-- A completion sets the time of a failed area, drops that of a taken one, and leaves the others'. -/
theorem completed_rewrite (w : CurrentWrite) (bad : AreaSet) (now : Nat) (st : Store) (a : Area) :
    (completeWrite w bad now st).rewrite.get a =
      if (w.areas.inter bad).has a then some (now + 10)
      else if (w.areas.diff bad).has a then none else st.rewrite.get a := by
  have pass (r : Rewrites) (b : Area) :
      (if (w.areas.inter bad).has b then r.set b (some (now + 10))
        else if (w.areas.diff bad).has b then r.set b none else r).get a =
      if b = a then
        if (w.areas.inter bad).has a then some (now + 10) else if (w.areas.diff bad).has a then none else r.get a
      else r.get a := by
    by_cases e : b = a
    · rw [e, if_pos rfl]
      split
      · rw [rewrites_get_set, if_pos rfl]
      · split
        · rw [rewrites_get_set, if_pos rfl]
        · rfl
    · rw [if_neg e]
      split
      · rw [rewrites_get_set, if_neg e]
      · split
        · rw [rewrites_get_set, if_neg e]
        · rfl
  unfold completeWrite allAreas
  dsimp only [List.foldl]
  rw [pass, pass, pass, pass]
  cases a <;> simp

/-! ### The write list at an event's end -/

theorem askWrite_has (x : AreaSet) (ws : List Waiter) (st : Store) {a : Area}
    (n : (∃ y ∈ st.writes, y.areas.has a = true) ∨ x.has a = true) :
    ∃ y ∈ (askWrite x ws st).writes, y.areas.has a = true := by
  rcases n with ⟨y, hy, t⟩ | t
  · obtain ⟨z, hz, e, -⟩ := joinWrites_keeps x ws hy
    exact ⟨z, hz, e ▸ t⟩
  · obtain ⟨z, hz, e, -⟩ := joinWrites_mem x ws st.writes
    exact ⟨z, hz, subset_has e t⟩

theorem askWrites_has (l : List AreaSet) (st : Store) {a : Area}
    (n : (∃ y ∈ st.writes, y.areas.has a = true) ∨ ∃ x ∈ l, x.has a = true) :
    ∃ y ∈ (l.foldl (fun st x => askWrite x [] st) st).writes, y.areas.has a = true := by
  induction l generalizing st with
  | nil => exact n.resolve_right fun ⟨_, h, _⟩ => absurd h List.not_mem_nil
  | cons x l ih =>
    refine ih _ ?_
    rcases n with n | ⟨y, hy, t⟩
    · exact .inl (askWrite_has x [] st (.inl n))
    · rcases List.mem_cons.mp hy with rfl | hy
      · exact .inl (askWrite_has y [] st (.inr t))
      · exact .inr ⟨y, hy, t⟩

/-- The areas of an event's own write. -/
def ownWriteSet : Option (AreaSet × Waiter) → AreaSet
  | none => AreaSet.none
  | some (areas, _) => areas

theorem placeWrites_has (own : Option (AreaSet × Waiter)) (asks : List AreaSet) (st : Store) {a : Area}
    (n : (∃ x ∈ st.writes, x.areas.has a = true) ∨ (∃ x ∈ asks, x.has a = true) ∨ (ownWriteSet own).has a = true) :
    ∃ x ∈ (placeWrites own asks st).writes, x.areas.has a = true := by
  unfold placeWrites
  dsimp only
  split
  · rcases n with n | n | n
    · exact askWrite_has _ _ _ (.inl (askWrites_has asks st (.inl n)))
    · exact askWrite_has _ _ _ (.inl (askWrites_has asks st (.inr n)))
    · exact askWrite_has _ _ _ (.inr n)
  · rcases n with n | n | n
    · exact askWrites_has asks st (.inl n)
    · exact askWrites_has asks st (.inr n)
    · rw [ownWriteSet, none_has] at n
      cases n

/-- The part's content of an area, as `h` has it, is what `k` has too. -/
theorem holds_same {c : Content} {h k : Hall} {a : Area} (s : Same h k a) (n : c.holds h a) : c.holds k a := by
  cases a
  case clock => exact Eq.trans n (congrArg some s.1.symm)
  all_goals exact Eq.trans n (congrArg some (Eq.symm s))

theorem contentOf_holds (h : Hall) {x : AreaSet} {a : Area} (t : x.has a = true) : (contentOf h x).holds h a := by
  cases a <;> exact if_pos t

/-- An area of a list's write is being written through behind the event's end: the write begins now or waits. -/
theorem written_begun {t : State} {h : Hall} {st : Store} {a : Area} (store : t.store = beginWrite h st)
    (same : Same h t.hall a) (n : ∃ x ∈ st.writes, x.areas.has a = true) : t.written a := by
  obtain ⟨x, hx, hax⟩ := n
  unfold State.written
  rw [store]
  unfold beginWrite
  split
  · next w rest _ list =>
    rw [list] at hx
    rcases List.mem_cons.mp hx with rfl | hx
    · exact .inr ⟨_, rfl, hax, holds_same same (contentOf_holds h hax)⟩
    · exact .inl ⟨x, hx, hax⟩
  · exact .inl ⟨x, hx, hax⟩

/-- A begun write takes the areas of the list's first. -/
theorem begun_current {h : Hall} {st : Store} {c : CurrentWrite} (e : (beginWrite h st).current = some c) :
    st.current = some c ∨ ∃ x ∈ st.writes, x.areas = c.areas := by
  unfold beginWrite at e
  split at e
  · next w rest _ list =>
    cases e
    exact .inr ⟨w, by rw [list]; exact .head _, rfl⟩
  · exact .inl e

theorem begun_keeps {h : Hall} {st : Store} {c : CurrentWrite} (e : st.current = some c) :
    (beginWrite h st).current = some c := by
  unfold beginWrite
  rw [e]
  exact e

theorem same_rested (h : Hall) (a : Area) : Same h h.rested a :=
  same_parts (rested_settings h) (rested_fleet h) (rested_account h) (by rw [rested_clock]) (by rw [rested_clock]) a

section
variable {own : Option (AreaSet × Waiter)} {s t : State} (e : Ended own s t)
include e

theorem ended_same (a : Area) : Same s.hall t.hall a := e.hall ▸ same_rested s.hall a

/-- What an event asks for, and what stood on the list, is being written through at its end. -/
theorem ended_written {a : Area}
    (n : (∃ x ∈ s.store.writes, x.areas.has a = true) ∨ Asked s.hall a ∨ (ownWriteSet own).has a = true) : t.written a :=
  written_begun e.store (ended_same e a) (placeWrites_has own _ _ n)

/-- An area written through or stored is so at the event's end. -/
theorem ended_keeps {a : Area} (n : s.written a ∨ s.stored a ∨ a = .clock ∧ s.hall.clock.stale = true) :
    t.written a ∨ t.stored a ∨ a = .clock ∧ t.hall.clock.stale = true := by
  rcases n with (list | ⟨c, hc, hac, holds⟩) | ⟨idle, kept⟩ | ⟨rfl, stale⟩
  · exact .inl (ended_written e (.inl list))
  · refine .inl (.inr ⟨c, ?_, hac, holds_same (ended_same e a) holds⟩)
    rw [e.store]
    exact begun_keeps (by rw [placeWrites_current]; exact hc)
  · by_cases n : ∃ c, t.store.current = some c ∧ c.areas.has a = true
    · obtain ⟨c, hc, hac⟩ := n
      rw [e.store] at hc
      rcases begun_current hc with old | ⟨x, hx, hxc⟩
      · rw [placeWrites_current] at old
        rw [idle c old] at hac
        cases hac
      · exact .inl (written_begun e.store (ended_same e a) ⟨x, hx, by rw [hxc]; exact hac⟩)
    · refine .inr (.inl ⟨fun c hc => Bool.eq_false_iff.mpr fun hac => n ⟨c, hc, hac⟩, ?_⟩)
      obtain ⟨held, failed, rewrite⟩ := storeEnd_frame own s.hall.work.asks s.hall s.store
      rw [e.store, held, failed, rewrite]
      exact kept.imp_left (holds_same (ended_same e a))
  · refine .inr (.inr ⟨rfl, ?_⟩)
    rw [(ended_same e .clock).2]
    exact stale

/-- An event over the same store whose changes are asked for keeps the areas written through. -/
theorem ended_through {s0 : State} (store : s.store = s0.store)
    (n : ∀ a, s0.written a ∨ s0.stored a ∨ a = .clock ∧ s0.hall.clock.stale = true)
    (p : Covered (ownWriteSet own) s0.hall s.hall) (a : Area) :
    t.written a ∨ t.stored a ∨ a = .clock ∧ t.hall.clock.stale = true := by
  rcases p a with same | o | asked
  · refine ended_keeps e ?_
    rcases n a with (list | ⟨c, hc, hac, holds⟩) | ⟨idle, kept⟩ | ⟨rfl, stale⟩
    · exact .inl (.inl (by rw [store]; exact list))
    · exact .inl (.inr ⟨c, by rw [store]; exact hc, hac, holds_same same holds⟩)
    · exact .inr (.inl ⟨by rw [store]; exact idle, by rw [store]; exact kept.imp_left (holds_same same)⟩)
    · exact .inr (.inr ⟨rfl, by rw [same.2]; exact stale⟩)
  · exact .inl (ended_written e (.inr (.inr o)))
  · exact .inl (ended_written e (.inr (.inl asked)))

/-- A change of an area's part is being written through. -/
theorem ended_change {s0 : State} (p : Covered (ownWriteSet own) s0.hall s.hall) {a : Area}
    (changed : ¬ Same s0.hall t.hall a) : t.written a := by
  rcases p a with same | o | asked
  · exact absurd (same.trans (ended_same e a)) changed
  · exact ended_written e (.inr (.inr o))
  · exact ended_written e (.inr (.inl asked))

end

theorem ownWriteSet_host (tag : Tag) (v : Verdict) : ownWriteSet (ownWrite (.host tag) v) = ownSet v := by
  cases v <;> rfl

theorem ownWriteSet_desk (d : DeskId) (tag : Tag) (v : Verdict) : ownWriteSet (ownWrite (.desk d tag) v) = ownSet v := by
  cases v <;> rfl

/-! ### Completion and rewrite -/

theorem store_holds (old new : Content) (x : AreaSet) (h : Hall) (a : Area) :
    (old.store new x).holds h a ↔ if x.has a then new.holds h a else old.holds h a := by
  cases a <;> simp only [Content.store, Content.holds, AreaSet.has] <;> split <;> simp [*]

theorem logNotTaken_account (code : FaultCode) (bad : AreaSet) (h : Hall) : (logNotTaken code bad h).account = h.account := by
  unfold logNotTaken
  refine List.foldlRecOn (motive := fun k : Hall => k.account = h.account) _ _ rfl fun k i x _ => ?_
  split
  · exact i
  · exact i

theorem same_logNotTaken (code : FaultCode) (bad : AreaSet) (h : Hall) (a : Area) : Same h (logNotTaken code bad h) a :=
  have logged := stays_logNotTaken h code bad
  same_parts logged.settings logged.fleet (logNotTaken_account code bad h) logged.minute logged.stale a

/-- A completed write's areas are stored, or failed with their rewrite set; the others stand as they did. -/
theorem completed_keeps {s : State} {w : CurrentWrite} (bad : AreaSet) (hw : s.store.current = some w) {a : Area}
    (n : s.written a ∨ s.stored a ∨ a = .clock ∧ s.hall.clock.stale = true) :
    (completed w bad s).written a ∨ (completed w bad s).stored a ∨
      a = .clock ∧ (completed w bad s).hall.clock.stale = true := by
  have same : Same s.hall (completed w bad s).hall a := by
    rw [completed_hall]
    exact same_logNotTaken _ _ _ a
  have idle : ∀ c, (completed w bad s).store.current = some c → c.areas.has a = false := by
    rw [completed_store]
    exact fun c hc => by cases hc
  have held : (completed w bad s).store.held.holds s.hall a ↔
      if (w.areas.diff bad).has a then w.content.holds s.hall a else s.store.held.holds s.hall a := by
    rw [completed_store]
    exact store_holds _ _ _ _ a
  have failed : (completed w bad s).store.failed.has a =
      (s.store.failed.has a && !(w.areas.diff bad).has a || (w.areas.inter bad).has a) := by
    rw [completed_store, ← diff_has, ← union_has]
    rfl
  have rewrite : (completed w bad s).store.rewrite.get a = if (w.areas.inter bad).has a then some (s.hall.tenths + 10)
      else if (w.areas.diff bad).has a then none else s.store.rewrite.get a := by
    rw [completed_store]
    exact completed_rewrite w bad _ _ a
  rw [diff_has] at held failed rewrite
  rw [inter_has] at failed rewrite
  rcases n with (list | ⟨c, hc, hac, holds⟩) | ⟨apart, kept⟩ | ⟨rfl, stale⟩
  · exact .inl (.inl (by rw [completed_store]; exact list))
  · obtain rfl : w = c := Option.some.inj (hw.symm.trans hc)
    refine .inr (.inl ⟨idle, ?_⟩)
    cases b : bad.has a with
    | true => exact .inr ⟨by rw [failed]; simp [hac, b], by rw [rewrite]; simp [hac, b]⟩
    | false => exact .inl (holds_same same (held.mpr (by simpa [hac, b] using holds)))
  · have out := apart w hw
    refine .inr (.inl ⟨idle, ?_⟩)
    rcases kept with holds | ⟨f, r⟩
    · exact .inl (holds_same same (held.mpr (by simpa [out] using holds)))
    · exact .inr ⟨by rw [failed]; simp [out, f], by rw [rewrite]; simpa [out] using r⟩
  · exact .inr (.inr ⟨rfl, by rw [same.2]; exact stale⟩)

/-- A rewrite taken puts its area on the list, and leaves the others' times. -/
theorem rewritten_keeps {s : State} (b : Area) {a : Area}
    (n : s.written a ∨ s.stored a ∨ a = .clock ∧ s.hall.clock.stale = true) :
    (rewritten b s).written a ∨ (rewritten b s).stored a ∨ a = .clock ∧ (rewritten b s).hall.clock.stale = true := by
  by_cases e : b = a
  · exact .inl (.inl ⟨⟨AreaSet.single b, []⟩, List.mem_append_right _ (.head _), e ▸ single_has b⟩)
  · rcases n with (⟨x, hx, t⟩ | cur) | ⟨apart, kept⟩ | stale
    · exact .inl (.inl ⟨x, List.mem_append_left _ hx, t⟩)
    · exact .inl (.inr cur)
    · refine .inr (.inl ⟨apart, kept.imp_right fun k => ⟨k.1, ?_⟩⟩)
      show (s.store.rewrite.set b none).get a ≠ none
      rw [rewrites_get_set, if_neg e]
      exact k.2
    · exact .inr (.inr stale)

/-! ### Start-up -/

/-- FLEET is moved by a start-up before its due minutes: hires off a lost channel, or snapshots of a lost account. -/
def fleetMoved (bad : AreaSet) (h : Hall) : Bool :=
  (bad.settings && h.strayHires != []) || (bad.account && h.fleet.hires.any fun x => x.snapshot != 0)

theorem recounted_rest (bad : AreaSet) (h : Hall) : (recounted bad h).settings = h.settings ∧
    (recounted bad h).clock = h.clock ∧ (recounted bad h).work = h.work := by
  have moved : ∀ k : Hall, k = (if bad.settings then h.strayHires.foldl moveStray h else h) →
      k.settings = h.settings ∧ k.clock = h.clock ∧ k.work = h.work := by
    rintro k rfl
    split
    · exact List.foldlRecOn (motive := fun k : Hall => k.settings = h.settings ∧ k.clock = h.clock ∧ k.work = h.work) _ _
        ⟨rfl, rfl, rfl⟩ fun k i x _ => i
    · exact ⟨rfl, rfl, rfl⟩
  have first := moved _ rfl
  unfold recounted recountDemand
  dsimp only
  split
  · exact first
  · exact first

theorem recounted_fleet {bad : AreaSet} {h : Hall} (still : fleetMoved bad h = false) : (recounted bad h).fleet = h.fleet := by
  obtain ⟨strays, snapshots⟩ := Bool.or_eq_false_iff.mp still
  have moved : (if bad.settings then h.strayHires.foldl moveStray h else h) = h := by
    split
    · next b =>
      have none : h.strayHires = [] := by simpa [b] using strays
      rw [none]
      rfl
    · rfl
  unfold recounted recountDemand
  dsimp only
  rw [moved]
  split
  · next b =>
    have zero : ∀ x ∈ h.fleet.hires, x.snapshot = 0 := by simpa [b] using snapshots
    show { h.fleet with hires := h.fleet.hires.map fun x => { x with snapshot := 0 } } = h.fleet
    have same : (h.fleet.hires.map fun x => { x with snapshot := 0 }) = h.fleet.hires :=
      (List.map_congr_left fun x hx => by rw [← zero x hx]).trans (List.map_id' _)
    rw [same]
  · rfl

theorem thru_recounted (bad : AreaSet) (h : Hall) : Thru ⟨true, fleetMoved bad h, true, false⟩ h (recounted bad h) := by
  obtain ⟨settings, clock, work⟩ := recounted_rest bad h
  refine ⟨fun a => ?_, fun a n => by unfold Asked; rw [work]; exact n⟩
  cases a with
  | settings => exact .inl settings
  | fleet =>
    cases m : fleetMoved bad h with
    | true => exact .inr (.inl rfl)
    | false => exact .inl (recounted_fleet m)
  | account => exact .inr (.inl rfl)
  | clock => exact .inl ⟨by rw [clock], by rw [clock]⟩

theorem thru_relisted {own : AreaSet} (o : own.settings = true) (h : Hall) : Thru own h (relisted h) := by
  unfold relisted setLowFlags raiseLimit
  exact ⟨fun a => by
    cases a with
    | settings => exact .inr (.inl o)
    | clock => exact .inl ⟨rfl, rfl⟩
    | _ => exact .inl rfl, fun _ => id⟩

theorem stays_setLevels (h : Hall) : Stays h (setLevels h) := by
  unfold setLevels
  exact (stays_levels h _).trans (stays_metered (metered_clearAllRunning _))

theorem thru_rebuild (bad : AreaSet) (h : Hall) : Thru ⟨true, fleetMoved bad h, true, false⟩ h (rebuild bad h) := by
  rw [rebuild_eq]
  exact (((((thru_recounted bad h).trans (((stays_deriveServices _).trans (stays_build _)).thru _)).trans
    (thru_relisted rfl _)).trans ((stays_spellsAll _).thru _)).trans ((stays_setLevels _).thru _)).trans
    (thru_takeAllDue _ _)

theorem fleetMoved_checked (bad : AreaSet) (s : State) : fleetMoved bad (checkedHall bad s) = fleetMoved bad (loadedHall bad s) := by
  have checked := stays_checkedHall bad s
  unfold fleetMoved Hall.strayHires
  rw [checked.settings, checked.fleet]

theorem changedAreas_settings (bad : AreaSet) (h k : Hall) :
    (changedAreas bad h k).has .settings = (k.settings != h.settings) := rfl

theorem changedAreas_account (bad : AreaSet) (h k : Hall) : (changedAreas bad h k).has .account = true := rfl

/-- The store has content of SETTINGS and of FLEET. -/
def Present (s : State) : Area → Prop
  | .settings => s.store.held.settings.isSome = true
  | .fleet => s.store.held.fleet.isSome = true
  | _ => True

/-- The areas a start-up does not write hold their content still (R174). -/
theorem started_through {bad : AreaSet} {s t : State} (present : ∀ a, bad.has a = false → Present s a)
    (e : Ended (startWrite bad s) (startState bad s) t) (a : Area) :
    t.written a ∨ t.stored a ∨ a = .clock ∧ t.hall.clock.stale = true := by
  have checked := stays_checkedHall bad s
  have hall : (startState bad s).hall = rebuild bad (checkedHall bad s) := startState_hall s bad
  have through := thru_rebuild bad (checkedHall bad s)
  have own {a : Area} (o : (bad.union (changedAreas bad (loadedHall bad s) (rebuild bad (checkedHall bad s)))).has a = true) :
      t.written a := ended_written e (.inr (.inr o))
  have asked {a : Area} (n : Asked (rebuild bad (checkedHall bad s)) a) : t.written a :=
    ended_written e (.inr (.inl (by rw [hall]; exact n)))
  have held {a : Area} (n : (goodContent bad s).holds (rebuild bad (checkedHall bad s)) a) :
      t.written a ∨ t.stored a ∨ a = .clock ∧ t.hall.clock.stale = true := by
    refine ended_keeps e (.inr (.inl ⟨fun c hc => ?_, .inl ?_⟩))
    · rw [startState_store] at hc
      cases hc
    · rw [startState_store, hall]
      exact n
  cases a with
  | settings =>
    by_cases b : bad.settings = true
    · exact .inl (own (by rw [union_has]; exact Bool.or_eq_true_iff.mpr (.inl b)))
    · by_cases same : (rebuild bad (checkedHall bad s)).settings = (loadedHall bad s).settings
      · obtain ⟨x, hx⟩ := Option.isSome_iff_exists.mp (present .settings (Bool.eq_false_iff.mpr b))
        have good : (goodContent bad s).settings = some x := (if_neg b).trans hx
        refine held ?_
        show (goodContent bad s).settings = some _
        rw [same, good]
        show some x = some ((goodContent bad s).settings.getD Settings.default)
        rw [good]
        rfl
      · refine .inl (own ?_)
        rw [union_has, changedAreas_settings]
        exact Bool.or_eq_true_iff.mpr (.inr (bne_iff_ne.mpr same))
  | fleet =>
    by_cases b : bad.fleet = true
    · exact .inl (own (by rw [union_has]; exact Bool.or_eq_true_iff.mpr (.inl b)))
    · rcases through.covered .fleet with same | o | n
      · obtain ⟨x, hx⟩ := Option.isSome_iff_exists.mp (present .fleet (Bool.eq_false_iff.mpr b))
        have good : (goodContent bad s).fleet = some x := (if_neg b).trans hx
        refine held ?_
        show (goodContent bad s).fleet = some _
        rw [show (rebuild bad (checkedHall bad s)).fleet = (checkedHall bad s).fleet from same, checked.fleet, good]
        show some x = some ((goodContent bad s).fleet.getD Fleet.default)
        rw [good]
        rfl
      · have moved : fleetMoved bad (loadedHall bad s) = true := (fleetMoved_checked bad s).symm.trans o
        refine .inl (own ?_)
        rw [union_has]
        exact Bool.or_eq_true_iff.mpr (.inr moved)
      · exact .inl (asked n)
  | account =>
    refine .inl (own ?_)
    rw [union_has]
    exact Bool.or_eq_true_iff.mpr (.inr (changedAreas_account _ _ _))
  | clock =>
    rcases through.covered .clock with same | o | n
    · refine .inr (.inr ⟨rfl, ?_⟩)
      rw [(ended_same e .clock).2, hall, same.2, checked.stale]
      simp only [loadedHall, loaded]
    · cases o
    · exact .inl (asked n)

/-- What is not bad at a start-up is there. -/
theorem badAt_present (cause : StartCause) (damaged : AreaSet) (s : State) (a : Area)
    (good : (badAt cause damaged s).has a = false) : Present s a := by
  unfold badAt badAreas at good
  rw [union_has, Bool.or_eq_false_iff] at good
  cases a
  case settings => simpa [Present, AreaSet.has, Option.isSome_iff_ne_none] using good.2
  case fleet => simpa [Present, AreaSet.has, Option.isSome_iff_ne_none] using good.2
  all_goals trivial

/-! ### Every step -/

/-- The four changes a statement of writing-through is about, from those of the areas. -/
theorem changes_written {s t : State} (n : ∀ a, ¬ Same s.hall t.hall a → t.written a) :
    (t.hall.settings ≠ s.hall.settings → t.written .settings) ∧ (t.hall.fleet ≠ s.hall.fleet → t.written .fleet) ∧
      (t.hall.account ≠ s.hall.account → t.written .account) ∧
      (t.hall.clock.minute ≠ s.hall.clock.minute → t.written .clock) :=
  ⟨fun c => n .settings c, fun c => n .fleet c, fun c => n .account c, fun c => n .clock fun same => c same.1⟩

/-- A change by a command other than a start-up is being written through behind it. -/
theorem ran_changes {i : Instr} {s t : State} (r : Ran i s t) (other : ∀ c d, i ≠ .startUp c d) (a : Area)
    (changed : ¬ Same s.hall t.hall a) : t.written a := by
  have unchanged {u : State} (e : u.hall = s.hall) (c : ¬ Same s.hall u.hall a) : u.written a :=
    absurd (e ▸ Same.refl s.hall a) c
  cases r
  case ignored | overrun | deskOverrun | pfwLevel | resetIdle => exact unchanged rfl changed
  case order tag v _ _ m =>
    exact ended_change (s0 := s.opened) (ended_host tag v) (by rw [ownWriteSet_host]; exact meant_covered m) changed
  case request d tag v _ _ m =>
    exact ended_change (s0 := s.opened) (ended_desk d tag v) (by rw [ownWriteSet_desk]; exact meant_covered m) changed
  case event f m r => exact ended_change (s0 := s.opened) (ended_finish _ _) (thru_event _ _ m).covered changed
  case completion bad w _ r hw =>
    refine ended_change (s0 := s.opened) (ended_finish _ _) (fun a => .inl ?_) changed
    rw [completed_hall]
    exact same_logNotTaken _ _ _ a
  case rewrite =>
    refine ended_change (s0 := s.opened) (ended_finish _ _) ?_ changed
    rw [rewritten_hall]
    exact (Thru.refl _ _).covered
  case pfwAsserted =>
    refine ended_change (s0 := s.opened) (ended_finish _ _) ?_ changed
    rw [warned_hall]
    exact (((stays_bringUpSpells s.hall).trans (stays_ask _ _)).thru _).covered
  case resetWrites => exact unchanged (resetTaken_hall _ _) changed
  case started cause damaged hi => exact absurd hi (other cause damaged)

theorem ran_through {i : Instr} {s t : State} (r : Ran i s t) (n : s.writtenThrough) : t.writtenThrough := by
  intro live
  cases r
  case ignored | overrun | deskOverrun | pfwLevel => exact n live
  case order tag v _ r m =>
    exact ended_through (s0 := s.opened) (ended_host tag v) (meant_store m) (n r) (by rw [ownWriteSet_host]; exact meant_covered m)
  case request d tag v _ r m =>
    exact ended_through (s0 := s.opened) (ended_desk d tag v) (meant_store m) (n r)
      (by rw [ownWriteSet_desk]; exact meant_covered m)
  case event f m r => exact ended_through (s0 := s.opened) (ended_finish _ _) rfl (n r) (thru_event _ _ m).covered
  case completion bad w _ r hw =>
    exact fun a => ended_keeps (ended_finish _ _) (completed_keeps (s := s.opened) bad hw (n r a))
  case rewrite b _ r => exact fun a => ended_keeps (ended_finish _ _) (rewritten_keeps (s := s.opened) b (n r a))
  case pfwAsserted _ r =>
    refine ended_through (s0 := s.opened) (ended_finish _ _) (warned_store _) (n r) ?_
    rw [warned_hall]
    exact (((stays_bringUpSpells s.hall).trans (stays_ask _ _)).thru _).covered
  case resetIdle => cases live
  case resetWrites =>
    rw [resetTaken_resetn] at live
    cases live
  case started cause damaged _ => exact started_through (badAt_present cause damaged s.opened) (ended_finish _ _)

/-- Settles O11: each operation moves an area under its own write or asks for one, and the store keeps what it took. -/
theorem changesWrittenThrough : Obligations.ChangesWrittenThrough := by
  refine ⟨fun i s t other e => changes_written (ran_changes (ran_of_exec e) other), fun s t n e => ?_⟩
  rcases step_cases e with ⟨i, rest, -, r⟩ | ⟨-, e⟩
  · exact ran_through r n
  · obtain ⟨k, f⟩ := tick_frame s
    rw [e, f]
    exact n

end Sys2Proof.StepProofs
end

-- ==== Proofs: Time ====
section
/-! PROOFS. The passing of time (R172), and the state after reset. -/

namespace Sys2Proof.StepProofs

open Machine

/-! ### Time -/

theorem tick_reset {s : State} (r : s.resetn = true) : s.tick = s.opened := if_pos r

/-- Settles O2: the tick is the step of an empty queue, the minute's rise an event of the hall clock alone. -/
theorem timePasses : Obligations.TimePasses := by
  constructor
  · intro s e
    refine ⟨s.tick, by simp only [step, e], ?_⟩
    cases r : s.resetn with
    | true =>
      rw [tick_reset r, if_pos rfl]
      exact ⟨rfl, rfl, rfl, rfl, rfl, rfl, rfl, r, rfl, rfl, e⟩
    | false =>
      rw [if_neg Bool.false_ne_true]
      unfold State.tick
      dsimp only
      rw [if_neg (by rw [State.opened_resetn, r]; exact Bool.false_ne_true)]
      exact ⟨rfl, rfl, rfl, rfl, rfl, rfl, rfl, r, rfl, rfl, rfl⟩
  · intro s live old start new
    refine ⟨riseMinute s.hall, finish none { s.opened with hall := riseMinute s.hall }, ?_,
      endsWith_finish none _, rfl, rfl, rfl, rfl, ?_, fun low => ?_⟩
    · rw [← event_taken riseMinute live]
      rfl
    · unfold riseMinute
      by_cases low : old.minute < 4294967295
      · have rises : s.hall.clock.minute < maxCount := low
        simp only [if_pos rises, if_pos low, new]
        rfl
      · have stands : ¬ s.hall.clock.minute < maxCount := low
        simp only [if_neg stands, if_neg low, new, List.append_nil]
        rfl
    · refine ended_written (ended_finish _ _) (.inr (.inl ⟨onlyClock, ?_, rfl⟩))
      show onlyClock ∈ (riseMinute s.hall).work.asks
      unfold riseMinute
      dsimp only
      rw [if_pos (show s.hall.clock.minute < maxCount from low)]
      exact List.mem_append_right _ (.head _)

/-! ### Reset -/

theorem reset_carrier (k : CarrierId) : Hall.reset.air.carriers[k] = if k = 0 then .onAir 0 0 else .free := vtab_get _ k

theorem reset_air : Hall.reset.AirLawful where
  floor := ⟨0, reset_carrier 0⟩
  single j k ne c hj hk := by
    rw [reset_carrier] at hj hk
    by_cases ej : j = 0
    · rw [if_neg (fun ek => ne (ej.trans ek.symm))] at hk
      cases hk
    · rw [if_neg ej] at hj
      cases hj
  waiters _ h := absurd h List.not_mem_nil
  ranked := .nil

theorem reset_account : Hall.reset.account.Lawful := lawful_day lawful_default _

theorem reset_channel (c : ChannelId) : Hall.reset.channels[c] = ⟨if c = 0 then .live else .off, none, 0, 0, none, none, none⟩ :=
  vtab_get _ c

theorem reset_conditions : State.reset.conditionsMet := by
  intro name a
  cases name
  case hallDark => exact ⟨fun h => (by cases h), fun h => absurd h.2 (by decide)⟩
  case quarantine =>
    refine ⟨fun h => ?_, fun h => ?_⟩
    · simp [State.reset, Conditions.get, Conditions.none] at h
    · simp [State.cause, State.reset, Hall.reset, ConsoleRun.blank] at h
  case settleOverflow => exact ⟨fun h => (by cases h), fun h => absurd (show 256 ≤ 0 from h) (by decide)⟩
  case storeFault => exact ⟨fun _ => (show AreaSet.all ≠ AreaSet.none by decide), fun _ => rfl⟩
  case clockStale => exact ⟨fun _ => rfl, fun _ => rfl⟩

theorem reset_written (a : Area) : State.reset.written a := by
  refine .inr ⟨_, rfl, ?_, ?_⟩ <;> cases a <;> rfl

/-- Settles O3, field by field of the default areas. -/
theorem resetState : Obligations.ResetState := by
  have lawful := fleet_law.empty
  have demand (c : ChannelId) : State.reset.hall.channels[c].demand = 0 :=
    congrArg ChannelRun.demand (reset_channel c)
  have channel (c : ChannelId) : State.reset.hall.settings.channels[c] = ChannelSettings.default c := vtab_get _ c
  refine ⟨⟨⟨⟨Nat.zero_le _, by decide⟩, rfl, rfl⟩, ⟨lawful.ordered, fun _ h => (by cases h), fun c f hc hf => ?_⟩,
    ⟨reset_account, fun _ h => absurd h List.not_mem_nil, fun _ h => (by cases h), fun c f hc hf => ?_⟩, reset_air,
    ⟨lawful, demand, fun _ h => (by cases h), fun c f hc hf => ?_⟩, reset_conditions, fun _ a => .inl (reset_written a)⟩,
    channel 0, fun c ne => ⟨(channel c).trans (if_neg ne), ?_⟩, ?_, fun c => ⟨?_, demand c, ?_⟩, fun b => ?_, fun a => ?_,
    fun t => ?_, fun w => ?_, rfl, fun m => ?_, rfl, rfl, rfl, rfl, rfl, rfl, rfl, rfl, rfl, reset_carrier 0,
    fun k ne => (reset_carrier k).trans (if_neg ne)⟩
  · cases hc; cases hf; exact lawful.ordered
  · cases hc; cases hf; exact reset_account
  · cases hc; cases hf; exact lawful
  · exact (congrArg ChannelRun.service (reset_channel c)).trans (if_neg ne)
  · exact congrArg ChannelRun.service (reset_channel 0)
  · exact congrArg ChannelRun.feeder (reset_channel c)
  all_goals simp [State.reset, Hall.reset, Settings.default, BoothSettings.default, BoothRun.blank, ConsoleRun.blank,
    Tariff.default, WindowSettings.default, MeterSettings.default]

end Sys2Proof.StepProofs
end

-- ==== Proofs: Readings ====
section
/-! PROOFS. The operands' tests, and the readings (R158, R160, R19, R42, R43, R95, R96, R118, R145, R146, R156, R168). -/

namespace Sys2Proof.StepProofs

open Machine

/-! ### Identifiers and numbers -/

section
variable {n : Nat}

@[simp] theorem idFrom0_val (c : Fin n) : idFrom0 n c.val = some c := by
  simp [idFrom0]

theorem idFrom0_none {m : Nat} (h : n ≤ m) : idFrom0 n m = none := by
  simp [idFrom0, Nat.not_lt.mpr h]

@[simp] theorem idFrom1_numOf (b : Fin n) : idFrom1 n (numOf b) = some b := by
  have : 1 ≤ b.val + 1 ∧ b.val + 1 ≤ n := ⟨by omega, b.isLt⟩
  simp [idFrom1, numOf, this]

theorem idFrom1_none {m : Nat} (h : m = 0 ∨ n < m) : idFrom1 n m = none := by
  have : ¬ (1 ≤ m ∧ m ≤ n) := by omega
  simp [idFrom1, this]

end

section
variable {n : Nat} {conv : Nat → Option (Fin n)}

theorem needId_val {m : Nat} {i : Fin n} (h : conv m = some i) : needId conv (.val m) = .ok i := by
  simp [needId, h]

theorem needId_out {m : Nat} (h : conv m = none) : needId conv (.val m) = .error .range := by
  simp [needId, h]

theorem rangeOnly_out {m : Nat} (h : conv m = none) : rangeOnly (needId conv (.val m)) = .error .range := by
  rw [needId_out h]
  rfl

end

@[simp] theorem needSerial_toNat (k : Serial) : needSerial (.val k.toNat) = .ok k := by
  have : k.toNat ≤ maxCount := by
    have := k.isLt
    unfold maxCount
    omega
  simp [needSerial, this]

theorem needSerial_out {m : Nat} (h : maxCount < m) : needSerial (.val m) = .error .range := by
  simp [needSerial, Nat.not_le.mpr h]

theorem needNat_in {lo hi m : Nat} (low : lo ≤ m) (high : m ≤ hi) : needNat lo hi (.val m) = .ok m := by
  simp [needNat, low, high]

theorem needNat_out {lo hi m : Nat} (h : m < lo ∨ hi < m) : needNat lo hi (.val m) = .error .range := by
  have : ¬ (lo ≤ m ∧ m ≤ hi) := by omega
  simp [needNat, this]

/-! ### A reading -/

section
variable {s : State} {i : Instr} {tag : Tag} (p : s.takesOrders)
include p

/-- A reading answered, given what it reads. -/
theorem read_answered {f : Hall → Except AnswerCode Reply} {r : Reply} (e : exec i s = .next (hostLine tag (hallReading f) s))
    (v : f s.hall = .ok r) : s.answersNow i tag (.ok r []) s.hall := by
  refine answersNow_of p e ?_
  show reading _ _ = _
  unfold reading
  dsimp only [State.opened]
  rw [v]

theorem read_refused {f : Hall → Except AnswerCode Reply} {c : AnswerCode}
    (e : exec i s = .next (hostLine tag (hallReading f) s)) (v : f s.hall = .error c) :
    s.answersNow i tag (.er c) s.hall := by
  refine refused_of p e ?_
  show reading _ _ = _
  unfold reading
  dsimp only [State.opened]
  rw [v]

end

section
variable {n : Nat} {g : Fin n → Reply}

theorem map_id0 (c : Fin n) : (rangeOnly (needId (idFrom0 n) (.val c.val))).map g = .ok (g c) := by
  rw [needId_val (idFrom0_val c)]
  rfl

theorem map_id1 (b : Fin n) : (rangeOnly (needId (idFrom1 n) (.val (numOf b)))).map g = .ok (g b) := by
  rw [needId_val (idFrom1_numOf b)]
  rfl

theorem map_out0 {m : Nat} (h : n ≤ m) : (rangeOnly (needId (idFrom0 n) (.val m))).map g = .error .range := by
  rw [rangeOnly_out (idFrom0_none h)]
  rfl

theorem map_out1 {m : Nat} (h : m = 0 ∨ n < m) : (rangeOnly (needId (idFrom1 n) (.val m))).map g = .error .range := by
  rw [rangeOnly_out (idFrom1_none h)]
  rfl

end

/-- SET TARIFF with TAR alone is a reading. -/
theorem exec_tariffReading (tag : Tag) (tar : Arg Nat) (s : State) : exec (.setTariffReading tag tar) s =
    .next (hostLine tag (hallReading fun h =>
      (rangeOnly (needId (idFrom1 8) tar)).map fun t => .tariff h.settings.tariffs[t]) s) := rfl

/-- The oldest settlement records are a reading. -/
theorem exec_peek (tag : Tag) (n : Arg Nat) (s : State) : exec (.peekSettlements tag n) s =
    .next (hostLine tag (hallReading fun h =>
      (rangeOnly (needNat 1 8 n)).map fun k => .settlements (h.account.queue.take k)) s) := rfl

/-- Settles O16: each reading gives the figures as its rule lists them. -/
theorem readingsAnswered : Obligations.ReadingsAnswered := by
  refine ⟨fun s tag p => ?_, fun s tag p => ?_⟩
  · exact ⟨read_answered p rfl rfl, read_answered p rfl rfl, answersNow_of p rfl rfl, answersNow_of p rfl rfl,
      answersNow_of p rfl rfl, read_answered p rfl rfl, read_answered p rfl rfl, read_answered p rfl rfl,
      read_answered p rfl rfl⟩
  · exact ⟨fun c => ⟨read_answered p rfl (map_id0 c), read_answered p rfl (map_id0 c)⟩,
      fun b => ⟨read_answered p rfl (map_id1 b), read_answered p rfl (map_id1 b)⟩,
      fun a => ⟨read_answered p rfl (map_id1 a), read_answered p rfl (map_id1 a)⟩,
      fun k => read_answered p rfl (map_id0 k), fun m => read_answered p rfl (map_id1 m),
      fun w => read_answered p rfl (map_id1 w), fun t => read_answered p (exec_tariffReading tag _ s) (map_id1 t)⟩

/-! ### Records by their key -/

/-- A record found, as it is read, or NOT_FOUND. -/
def orNotFound {α : Type} (g : α → Reply) : Option α → Except AnswerCode Reply
  | some a => .ok (g a)
  | none => .error .notFound

section
variable {s : State} {i : Instr} {tag : Tag} (p : s.takesOrders)
include p

/-- A record found is read, and one that is not there is NOT_FOUND. -/
theorem read_found {α : Type} {f : Hall → Except AnswerCode Reply} {o : Option α} {g : α → Reply}
    (e : exec i s = .next (hostLine tag (hallReading f) s)) (v : f s.hall = orNotFound g o) :
    s.answersNow i tag (match o.map g with | some a => .ok a [] | none => .er .notFound) s.hall := by
  cases o with
  | some a => exact read_answered p e v
  | none => exact read_refused p e v

end

theorem receiverAnswer_serial (k : Serial) (h : Hall) : receiverAnswer (.val k.toNat) .absent h =
    orNotFound (fun r => .receiver (h.receiverReading r)) (h.receiver k) := by
  have whole : receiverAnswer (.val k.toNat) .absent h = match rangeOnly (needSerial (.val k.toNat)) with
    | .error c => .error c
    | .ok k => orNotFound (fun r => .receiver (h.receiverReading r)) (h.receiver k) := by
    show (match rangeOnly (needSerial (.val k.toNat)) with | .error c => _ | .ok k => _) = _
    split
    · rfl
    · cases h.receiver _ <;> rfl
  rw [whole, needSerial_toNat]
  rfl

theorem badgeAnswer_serial (k : Serial) (h : Hall) :
    badgeAnswer (.val k.toNat) h = orNotFound (fun b => .badge b.hires b.debt) (h.badge k) := by
  unfold badgeAnswer
  rw [needSerial_toNat]
  dsimp only [rangeOnly]
  cases h.badge k <;> rfl

theorem hireAnswer_in {n : Nat} (low : 1 ≤ n) (high : n ≤ 65535) (h : Hall) :
    hireAnswer (.val n) h = orNotFound (fun x => .hire ⟨x, h.unservedNow x⟩) (h.hire n) := by
  unfold hireAnswer
  rw [needNat_in low high]
  dsimp only [rangeOnly]
  cases h.hire n <;> rfl

theorem sessionsAnswer_in {n : Nat} (low : 1 ≤ n) (high : n ≤ 64) (h : Hall) :
    sessionsAnswer (.val n) h = orNotFound Reply.interval h.account.log[n - 1]? := by
  unfold sessionsAnswer
  rw [needNat_in low high, if_neg (by exact Bool.false_ne_true)]
  dsimp only [rangeOnly]
  cases h.account.log[n - 1]? <;> rfl

/-- An argument that is given. -/
theorem isAbsent_given {x : Arg Nat} (h : x ≠ .absent) : x.isAbsent = false := by
  cases x with
  | absent => exact absurd rfl h
  | bad => rfl
  | val => rfl

/-- Settles O17: a key finds its record or none, and a number out of its range is RANGE. -/
theorem readingsByKeyAndRange : Obligations.ReadingsByKeyAndRange := by
  refine ⟨fun s tag p => ⟨fun n => ?_, fun n low high => ?_, fun n => ?_, fun n low high => ?_, fun n low high => ?_⟩,
    fun s d tag n p => ?_, fun s tag n p => ⟨fun h => ?_, fun h => ?_, fun h => ?_, fun h => ?_, fun h => ?_, fun h => ?_,
      fun h => ?_, fun h => ?_⟩, fun s tag p => ?_, fun s tag x y z p hx hy => ?_⟩
  · exact read_found p rfl (receiverAnswer_serial n s.hall)
  · exact read_found p rfl (hireAnswer_in low high s.hall)
  · exact read_found p rfl (badgeAnswer_serial n s.hall)
  · exact read_found p rfl (sessionsAnswer_in low high s.hall)
  · exact read_answered p (exec_peek tag _ s) (by rw [needNat_in low high]; rfl)
  · refine deskAnswersNow_of p rfl ?_
    show reading _ _ = _
    unfold reading
    dsimp only [State.opened]
    cases s.hall.receiver n <;> rfl
  · exact ⟨read_refused p rfl (map_out0 h), read_refused p rfl (map_out0 h)⟩
  · exact ⟨read_refused p rfl (map_out1 h), read_refused p rfl (map_out1 h)⟩
  · exact ⟨read_refused p rfl (map_out1 h), read_refused p rfl (map_out1 h)⟩
  · exact read_refused p rfl (map_out0 h)
  · exact ⟨read_refused p rfl (map_out1 h), read_refused p rfl (map_out1 h), 
      read_refused p (exec_tariffReading tag _ s) (map_out1 h),
      read_refused p (exec_peek tag _ s) (by rw [needNat_out (by omega)]; rfl)⟩
  · refine ⟨read_refused p rfl ?_, read_refused p rfl ?_⟩
    · show (match rangeOnly (needSerial (.val n)) with | .error c => _ | .ok k => _) = _
      rw [needSerial_out h]
      rfl
    · unfold badgeAnswer
      rw [needSerial_out h]
      rfl
  · refine read_refused p rfl ?_
    unfold hireAnswer
    rw [needNat_out (by omega)]
    rfl
  · refine read_refused p rfl ?_
    unfold sessionsAnswer
    rw [needNat_out (by omega)]
    rfl
  · have reading {i : Instr} {f : Hall → Except AnswerCode Reply} (e : exec i s = .next (hostLine tag (hallReading f) s))
        (v : f s.hall = .error .range) : s.answersNow i tag (.er .range) s.hall := read_refused p e v
    exact ⟨reading rfl rfl, reading rfl rfl, reading rfl rfl, reading rfl rfl, reading (exec_tariffReading _ _ _) rfl,
      reading (exec_peek _ _ _) rfl, reading rfl rfl, reading rfl rfl, reading rfl rfl, reading rfl rfl, reading rfl rfl,
      reading rfl rfl, reading rfl rfl, reading (exec_tariffReading _ _ _) rfl, reading (exec_peek _ _ _) rfl,
      reading rfl rfl, reading rfl rfl, reading rfl rfl, reading rfl rfl, reading rfl rfl, reading rfl rfl,
      reading rfl rfl, reading rfl rfl⟩
  · have gx := isAbsent_given hx
    have gy := isAbsent_given hy
    refine ⟨read_refused p rfl ?_, read_refused p rfl ?_, read_refused p rfl ?_, read_refused p rfl ?_⟩
    · simp [receiverAnswer, gx, gy]
    all_goals simp [dayAnswer, gx, gy]

end Sys2Proof.StepProofs
end

-- ==== Proofs: Settings ====
section
/-! PROOFS. The tests of an order in their order, and the settings orders of tables that no other block follows: SET
CENTRE, SET FLEET, SET TARIFF, SET HALL and SET METER (R97, R119, R120, R140, R153, R161). -/

namespace Sys2Proof.StepProofs

open Machine

/-! ### Tests in order, and clamp marks -/

theorem tested_nil (s : State) (v : Verdict) : tested [] s v = v := rfl

theorem tested_cons (b : Bool) (c : AnswerCode) (l : List (Bool × AnswerCode)) (s : State) (v : Verdict) :
    tested ((b, c) :: l) s v = if b then refuse c s else tested l s v := by
  cases b <;> rfl

theorem tested_fails {b : Bool} (h : b = true) (c : AnswerCode) (l : List (Bool × AnswerCode)) (s : State) (v : Verdict) :
    tested ((b, c) :: l) s v = refuse c s := by
  rw [tested_cons, if_pos h]

theorem tested_passes {b : Bool} (h : b = false) (c : AnswerCode) (l : List (Bool × AnswerCode)) (s : State) (v : Verdict) :
    tested ((b, c) :: l) s v = tested l s v := by
  rw [tested_cons, h]
  rfl

theorem ready_pfw {s : State} (p : s.ready) : s.opened.pfw = false := p.2.1

theorem needId_outOf1 {n : Nat} {x : Arg Nat} (h : x.outOf 1 n) : needId (idFrom1 n) x = .error .range := by
  rcases h with rfl | ⟨m, rfl, out⟩
  · rfl
  · exact needId_out (idFrom1_none (by omega))

theorem needId_outOf0 {n : Nat} {x : Arg Nat} (h : x.outOf 0 n) : needId (idFrom0 (n + 1)) x = .error .range := by
  rcases h with rfl | ⟨m, rfl, out⟩
  · rfl
  · exact needId_out (idFrom0_none (by omega))

theorem clampMark_eq (name : String) {lo hi : Nat} (le : lo ≤ hi) (x : Arg Nat) :
    clampMark name lo hi x = clamped name lo hi x := by
  cases x with
  | val n =>
    unfold clampMark clamped clampTo
    dsimp only
    by_cases low : n < lo
    · rw [if_pos low, if_neg (by omega), show max lo (min hi n) = lo by omega]
    · rw [if_neg low]
      by_cases high : hi < n
      · rw [if_pos high, if_neg (by omega), show max lo (min hi n) = hi by omega]
      · rw [if_neg high, if_pos (by omega)]
  | _ => rfl

theorem clampMarkTenths_eq (name : String) {lo hi : Nat} (le : lo ≤ hi) (x : Arg Decimal) :
    clampMarkTenths name lo hi x = clampedTenths name lo hi x := by
  unfold clampMarkTenths clampedTenths clampTo
  cases x.val?.bind Decimal.tenths? with
  | none => rfl
  | some n =>
    dsimp only
    by_cases low : n < lo
    · rw [if_pos low, if_neg (by omega), show max lo (min hi n) = lo by omega]
    · rw [if_neg low]
      by_cases high : hi < n
      · rw [if_pos high, if_neg (by omega), show max lo (min hi n) = hi by omega]
      · rw [if_neg high, if_pos (by omega)]

theorem tooFine_val {x : Arg Decimal} {d : Decimal} (h : x = .val d) (places : 1 < d.places.length) : tooFine x = true := by
  subst h
  show d.tenths?.isNone = true
  unfold Decimal.tenths?
  split
  · next e => rw [e] at places; simp at places
  · next e => rw [e] at places; simp at places
  · rfl

/-! ### SET CENTRE (R140) -/

section
variable {s : State} {tag : Tag}

theorem setCentre_taken {k : CentreId} {centre : Arg Nat} (h : centre = .val k.val) (label : Arg Text) :
    setCentre centre label s = tested
      [(label.isBad || label.any (fun t => !labelForm t), .syntaxError), (s.pfw, .powerFail)] s
      (.wait onlySettings (.ok .plain [])
        { s with hall := { s.hall with settings := { s.hall.settings with
          labels := vmod s.hall.settings.labels k label.or } } }) := by
  unfold setCentre
  rw [h, needId_val (idFrom0_val k)]

theorem badLabel_iff (label : Arg Text) : (label.isBad || label.any (fun t => !labelForm t)) = true ↔
    label = .bad ∨ ∃ t, label = .val t ∧ labelForm t = false := by
  cases label <;> simp [Arg.isBad, Arg.any, Arg.val?]

theorem setCentre_answers (p : s.takesOrders) (centre : Arg Nat) (label : Arg Text) :
    let refused (c : AnswerCode) : Prop := s.answersNow (.setCentre tag centre label) tag (.er c) s.hall
    (centre.outOf 0 15 → refused .range) ∧ (centre = .bad → refused .syntaxError) ∧
    ∀ k : CentreId, centre = .val k.val →
      (ifElse (label = .bad ∨ ∃ t, label = .val t ∧ labelForm t = false) (refused .syntaxError)
        (s.ready → s.answerWaits (.setCentre tag centre label) tag onlySettings (.ok .plain [])
          { s.hall with settings := { s.hall.settings with labels := vmod s.hall.settings.labels k label.or } })) := by
  refine ⟨fun out => refused_of p rfl ?_, fun bad => refused_of p rfl ?_, fun k h => ⟨fun bad => refused_of p rfl ?_,
    fun good ready => answerWaits_of p rfl ?_⟩⟩
  · unfold setCentre
    rw [needId_outOf0 out]
  · unfold setCentre
    rw [bad, needId]
  · rw [setCentre_taken h, tested_fails ((badLabel_iff label).mpr bad)]
  · rw [setCentre_taken h, tested_passes (Bool.eq_false_iff.mpr fun b => good ((badLabel_iff label).mp b)),
      tested_passes (ready_pfw ready), tested_nil]
    rfl

/-! ### SET FLEET (R97) -/

/-- The window after SET FLEET, as its rule lists the settings. -/
theorem setFleet_taken {w : WindowId} {a : SetFleetArgs} (h : a.win = .val (numOf w)) : setFleet a s =
    tested [(a.malformed, .syntaxError), (s.pfw, .powerFail),
      (((a.apply s.hall.settings.windows[w]).base != s.hall.settings.windows[w].base ||
        (a.apply s.hall.settings.windows[w]).mask != s.hall.settings.windows[w].mask) && s.hall.windowUsed w, .inUse)] s
      (.wait onlySettings (.ok (.window ((applyFleet w a s.hall).windowReading w)) a.clamps)
        { s with hall := applyFleet w a s.hall }) := by
  unfold setFleet
  rw [h, needId_val (idFrom1_numOf w)]

theorem fleetArgs_bad {a : SetFleetArgs} (h : a.en = .bad ∨ a.base = .bad ∨ a.mask = .bad ∨ a.label = .bad ∨ a.fee = .bad ∨
    a.lowStk = .bad ∨ (∃ n, (a.base = .val n ∨ a.mask = .val n) ∧ 4294967295 < n) ∨
    ∃ t, a.label = .val t ∧ labelForm t = false) : a.malformed = true := by
  rcases h with h | h | h | h | h | h | ⟨n, h | h, big⟩ | ⟨t, h, bad⟩
  case inr.inr.inr.inr.inr.inr.inl.inl | inr.inr.inr.inr.inr.inr.inl.inr =>
    have : maxCount < n := big
    simp [SetFleetArgs.malformed, h, Arg.any, Arg.val?, this]
  case inr.inr.inr.inr.inr.inr.inr => simp [SetFleetArgs.malformed, h, Arg.any, Arg.val?, bad]
  all_goals simp [SetFleetArgs.malformed, h, Arg.isBad]

theorem windowUsed_iff (h : Hall) (w : WindowId) : h.windowUsed w = true ↔ ∃ r ∈ h.fleet.receivers, r.window = w := by
  simp [Hall.windowUsed]

/-- The blocks after SET FLEET: the window's settings, and its low-stock flag as the count then gives it (R97, R99). -/
theorem applyFleet_eq (w : WindowId) (a : SetFleetArgs) (h : Hall) : applyFleet w a h =
    { h with
      settings := { h.settings with windows := vset h.settings.windows w (a.apply h.settings.windows[w]) }
      lowFired := vset h.lowFired w (decide (h.stockCount w < (a.apply h.settings.windows[w]).lowStock)) } := by
  have flag : Hall.lowFlag { h with settings := { h.settings with windows := vmod h.settings.windows w a.apply } } w =
      decide (h.stockCount w < (a.apply h.settings.windows[w]).lowStock) := by
    show decide (h.stockCount w < (vmod h.settings.windows w a.apply)[w].lowStock) = _
    rw [vmod_same]
  unfold applyFleet
  dsimp only
  rw [flag]
  rfl

theorem applyFleet_reading (w : WindowId) (a : SetFleetArgs) (h : Hall) : (applyFleet w a h).windowReading w =
    ⟨a.apply h.settings.windows[w], h.stockCount w, decide (h.stockCount w < (a.apply h.settings.windows[w]).lowStock)⟩ := by
  rw [applyFleet_eq]
  unfold Hall.windowReading
  dsimp only
  rw [vset_same, vset_same]
  rfl

theorem fleetClamps_eq (a : SetFleetArgs) : a.clamps = clamped "FEE" 0 99999999 a.fee ++ clamped "LOWSTK" 0 4096 a.lowStk := by
  unfold SetFleetArgs.clamps
  rw [clampMark_eq _ (Nat.zero_le _), clampMark_eq _ (Nat.zero_le _)]
  rfl

end

/-- Settles O18: the tests of each order in turn, and the one setting that it writes. -/
theorem setCentreAndFleet : Obligations.SetCentreAndFleet := by
  refine ⟨fun s tag centre label p => setCentre_answers p centre label, fun s tag a p => ?_, fun s tag w a p h good => ?_⟩
  · refine ⟨fun out => refused_of p rfl ?_, fun bad => refused_of p rfl ?_, fun w h bad => refused_of p rfl ?_⟩
    · unfold setFleet
      rw [needId_outOf1 out]
    · unfold setFleet
      rw [bad, needId]
    · rw [setFleet_taken h, tested_fails (fleetArgs_bad bad)]
  · refine ⟨fun inUse => refused_of p.1 rfl ?_, fun free => answerWaits_of p.1 rfl ?_⟩
    · have used := (windowUsed_iff s.hall w).mpr inUse.2
      have moved := inUse.1
      rw [setFleet_taken h, tested_passes good, tested_passes (ready_pfw p), tested_fails]
      rw [Bool.and_eq_true, Bool.or_eq_true, bne_iff_ne, bne_iff_ne]
      exact ⟨moved, used⟩
    · rw [setFleet_taken h, tested_passes good, tested_passes (ready_pfw p), tested_passes, tested_nil, applyFleet_reading,
        fleetClamps_eq, applyFleet_eq]
      · rfl
      · rw [Bool.eq_false_iff, Ne, Bool.and_eq_true, Bool.or_eq_true, bne_iff_ne, bne_iff_ne, windowUsed_iff]
        exact free

/-! ### SET TARIFF (R119, R120) -/

section
variable {s : State} {tag : Tag}

theorem setTariff_taken {t : TariffId} {a : SetTariffArgs} (order : a.isReading = false) (h : a.tar = .val (numOf t)) :
    setTariff a s = tested
      [(a.malformed, .syntaxError), (a.defined == Arg.val false && a.givesOther, .syntaxError), (s.pfw, .powerFail),
        (s.hall.dayOpen, .frozen)] s
      (if a.apply s.hall.settings.tariffs[t] = s.hall.settings.tariffs[t] then
        .now (.ok (.tariff s.hall.settings.tariffs[t]) a.clamps) s
      else .wait onlySettings (.ok (.tariff (a.apply s.hall.settings.tariffs[t])) a.clamps)
        { s with hall := s.hall.setTariff t (a.apply s.hall.settings.tariffs[t]) }) := by
  unfold setTariff
  rw [order, h, needId_val (idFrom1_numOf t)]
  rfl

theorem tariffArgs_bad {a : SetTariffArgs} (h : a.defined = .bad ∨ a.base = .bad ∨ a.len = .bad ∨ a.rate = .bad ∨
    a.grace = .bad ∨ a.cap = .bad ∨ a.limit = .bad ∨ a.odfee = .bad ∨ a.dep = .bad ∨ a.credit = .bad) :
    a.malformed = true := by
  rcases h with h | h | h | h | h | h | h | h | h | h <;> simp [SetTariffArgs.malformed, h, Arg.isBad]

theorem tariffClamps_eq (a : SetTariffArgs) : a.clamps =
    clamped "BASE" 0 99999999 a.base ++ clamped "LEN" 1 1440 a.len ++ clamped "RATE" 0 99999999 a.rate ++
      clamped "GRACE" 0 240 a.grace ++ clamped "CAP" 0 99999999 a.cap ++ clamped "LIMIT" 0 10080 a.limit ++
      clamped "ODFEE" 0 99999999 a.odfee ++ clamped "DEP" 0 99999999 a.dep := by
  unfold SetTariffArgs.clamps maxMoney
  repeat rw [clampMark_eq _ (by decide)]

/-- Settles O19: the tests of R120 in turn, and the class as the order then gives it. -/
theorem setTariff : Obligations.SetTariff := by
  refine ⟨fun s tag a p order => ⟨fun out => refused_of p rfl ?_, fun bad => refused_of p rfl ?_, fun t h bad =>
    refused_of p rfl ?_⟩, fun s tag t a p h good order alone => ⟨fun opened => refused_of p.1 rfl ?_, fun closed =>
    ⟨fun same => answersNow_of p.1 rfl ?_, fun moved => answerWaits_of p.1 rfl ?_⟩⟩⟩
  case refine_1 =>
    unfold Machine.setTariff
    rw [order, needId_outOf1 out]
    rfl
  case refine_2 =>
    unfold Machine.setTariff
    rw [order, bad]
    rfl
  case refine_3 =>
    rw [setTariff_taken order h]
    rcases bad with bad | ⟨no, other⟩
    · rw [tested_fails (tariffArgs_bad bad)]
    · cases malformed : a.malformed with
      | true => rw [tested_fails rfl]
      | false => rw [tested_passes rfl, tested_fails (by rw [no, other]; rfl)]
  all_goals
    have single : (a.defined == Arg.val false && a.givesOther) = false := by
      rw [Bool.and_eq_false_imp, beq_iff_eq]
      exact alone
    rw [setTariff_taken order h, tested_passes good, tested_passes single, tested_passes (ready_pfw p)]
  case refine_4 =>
    rw [tested_fails]
    exact opened
  case refine_5 =>
    rw [tested_passes, tested_nil, tariffClamps_eq]
    · exact if_pos same
    · exact Bool.eq_false_iff.mpr closed
  case refine_6 =>
    rw [tested_passes, tested_nil, tariffClamps_eq]
    · exact if_neg moved
    · exact Bool.eq_false_iff.mpr closed

/-! ### SET HALL (R161) -/

theorem mem_allClasses (c : NoticeClass) : c ∈ allClasses := by
  cases c <;> decide

theorem mem_maskClasses (l : List MaskWord) (c : NoticeClass) : c ∈ maskClasses l ↔ MaskWord.cls c ∈ l := by
  rw [maskClasses, List.mem_filter, List.contains_iff_mem]
  exact and_iff_right (mem_allClasses c)

theorem maskMalformed_of {l : List MaskWord}
    (h : l = [] ∨ .other ∈ l ∨ ¬ l.Nodup ∨ (.noneWord ∈ l ∧ ∃ c, MaskWord.cls c ∈ l)) : maskMalformed l = true := by
  unfold maskMalformed
  rcases h with rfl | h | h | ⟨none, c, one⟩
  · rfl
  · have : l.any (fun w => w == .other) = true := List.any_eq_true.mpr ⟨_, h, rfl⟩
    simp [this]
  · simp [h]
  · have two : 1 < l.length := by
      rcases l with _ | ⟨x, _ | ⟨y, l⟩⟩
      · cases none
      · rw [List.mem_singleton] at none one
        rw [← none] at one
        cases one
      · simp
    simp [none, two]

theorem hallArgs_bad {a : SetHallArgs} (h : a.emargin = .bad ∨ a.chold = .bad ∨ a.badgeLim = .bad ∨ a.minBat = .bad ∨
    a.chkReq = .bad ∨ a.mask = .bad ∨ (∃ d, a.chold = .val d ∧ 1 < d.places.length) ∨
    ∃ l, a.mask = .val l ∧ (l = [] ∨ .other ∈ l ∨ ¬ l.Nodup ∨ (.noneWord ∈ l ∧ ∃ c, MaskWord.cls c ∈ l))) :
    a.malformed = true := by
  rcases h with h | h | h | h | h | h | ⟨d, h, fine⟩ | ⟨l, h, bad⟩
  case inr.inr.inr.inr.inr.inr.inl => simp [SetHallArgs.malformed, tooFine_val h fine]
  case inr.inr.inr.inr.inr.inr.inr => simp [SetHallArgs.malformed, h, Arg.any, Arg.val?, maskMalformed_of bad]
  all_goals simp [SetHallArgs.malformed, h, Arg.isBad]

theorem hallClamps_eq (a : SetHallArgs) : a.clamps =
    clamped "EMARGIN" 0 255 a.emargin ++ clampedTenths "CHOLD" 0 600 a.chold ++ clamped "BADGELIM" 1 4 a.badgeLim ++
      clamped "MINBAT" 0 100 a.minBat := by
  unfold SetHallArgs.clamps
  rw [clampMark_eq _ (by decide), clampMark_eq _ (by decide), clampMark_eq _ (by decide), clampMarkTenths_eq _ (by decide)]

/-- Settles O20: the tests of R161 in turn, and the allocator's event where the margin moves. -/
theorem setHall : Obligations.SetHall := by
  refine ⟨fun s tag a p bad => refused_of p rfl ?_, fun s tag a p good => ⟨fun frozen => refused_of p.1 rfl ?_,
    fun free => ⟨rfl, rfl, rfl, rfl, rfl, fun absent => ?_, fun l h c => ?_, applyHall a s.hall,
      answerWaits_of p.1 rfl ?_, ?_, fun same => if_pos same⟩⟩⟩
  · unfold Machine.setHall
    rw [tested_fails (hallArgs_bad bad)]
  · unfold Machine.setHall
    rw [tested_passes good, tested_passes (ready_pfw p), tested_fails]
    rw [Bool.and_eq_true, isAbsent_given frozen.1]
    exact ⟨rfl, frozen.2⟩
  · unfold SetHallArgs.apply
    rw [absent]
    rfl
  · unfold SetHallArgs.apply
    rw [h]
    exact mem_maskClasses l c
  · unfold Machine.setHall
    rw [tested_passes good, tested_passes (ready_pfw p), tested_passes, tested_nil, hallClamps_eq]
    · rfl
    · rw [Bool.eq_false_iff]
      intro both
      rw [Bool.and_eq_true] at both
      refine free ⟨fun absent => ?_, both.2⟩
      rw [absent] at both
      cases both.1
  · unfold applyHall
    dsimp only
    split
    · exact .refl _
    · exact kept_allocEvent _ id (.refl _)

/-! ### SET METER (R153) -/

theorem setMeter_taken {m : MeterId} {a : SetMeterArgs} (h : a.met = .val (numOf m)) : setMeter a s =
    tested [(a.qual.any fun q => (qualifierOf q).isNone, .range), (a.malformed, .syntaxError), (s.pfw, .powerFail),
        (!(a.apply s.hall.settings.meters[m]).source.carries (a.apply s.hall.settings.meters[m]).qualifier, .state),
        ((a.apply s.hall.settings.meters[m]).source.isLevel && (a.apply s.hall.settings.meters[m]).threshold == 0, .range)] s
      (.wait onlySettings (.ok (.was s.hall.meters[m].count) a.clamps) { s with hall := applyMeter m a s.hall }) := by
  unfold setMeter
  rw [h, needId_val (idFrom1_numOf m)]

/-- A qualifier's number lies outside the range of its kind. -/
def qualifierOut (x : Arg QualWord) : Prop := ∃ n, (x = .val (.booth n) ∧ (n = 0 ∨ 16 < n)) ∨
  (x = .val (.desk n) ∧ (n = 0 ∨ 4 < n)) ∨ (x = .val (.channel n) ∧ 31 < n) ∨ (x = .val (.tariff n) ∧ (n = 0 ∨ 8 < n))

theorem qualifierOut_any {x : Arg QualWord} (h : qualifierOut x) : (x.any fun q => (qualifierOf q).isNone) = true := by
  obtain ⟨n, ⟨rfl, out⟩ | ⟨rfl, out⟩ | ⟨rfl, out⟩ | ⟨rfl, out⟩⟩ := h
  · have none : idFrom1 16 n = none := idFrom1_none (by omega)
    simp [Arg.any, Arg.val?, qualifierOf, none]
  · have none : idFrom1 4 n = none := idFrom1_none (by omega)
    simp [Arg.any, Arg.val?, qualifierOf, none]
  · have none : idFrom0 32 n = none := idFrom0_none (by omega)
    simp [Arg.any, Arg.val?, qualifierOf, none]
  · have none : idFrom1 8 n = none := idFrom1_none (by omega)
    simp [Arg.any, Arg.val?, qualifierOf, none]

theorem idFrom1_isNone {n m : Nat} (h : (idFrom1 n m).isNone = true) : m = 0 ∨ n < m := by
  rw [Option.isNone_iff_eq_none, idFrom1] at h
  split at h
  · cases h
  · omega

theorem idFrom0_isNone {n m : Nat} (h : (idFrom0 n m).isNone = true) : n ≤ m := by
  rw [Option.isNone_iff_eq_none, idFrom0] at h
  split at h
  · cases h
  · omega

theorem qualifierOut_iff (x : Arg QualWord) : (x.any fun q => (qualifierOf q).isNone) = true ↔ qualifierOut x := by
  refine ⟨fun h => ?_, qualifierOut_any⟩
  match x with
  | .absent | .bad | .val .any => cases h
  | .val (.booth n) => exact ⟨n, .inl ⟨rfl, idFrom1_isNone (by simpa [Arg.any, Arg.val?, qualifierOf] using h)⟩⟩
  | .val (.desk n) => exact ⟨n, .inr (.inl ⟨rfl, idFrom1_isNone (by simpa [Arg.any, Arg.val?, qualifierOf] using h)⟩)⟩
  | .val (.channel n) =>
    exact ⟨n, .inr (.inr (.inl ⟨rfl, idFrom0_isNone (by simpa [Arg.any, Arg.val?, qualifierOf] using h)⟩))⟩
  | .val (.tariff n) =>
    exact ⟨n, .inr (.inr (.inr ⟨rfl, idFrom1_isNone (by simpa [Arg.any, Arg.val?, qualifierOf] using h)⟩))⟩

theorem qualifier_within {x : Arg QualWord} (h : ¬ qualifierOut x) : (x.any fun q => (qualifierOf q).isNone) = false :=
  Bool.eq_false_iff.mpr fun out => h ((qualifierOut_iff x).mp out)

/-- A table number counted from 1 is missing or out of range, malformed, or that of a record. -/
theorem idFrom1_cases (n : Nat) (x : Arg Nat) : x.outOf 1 n ∨ x = .bad ∨ ∃ i : Fin n, x = .val (numOf i) := by
  match x with
  | .absent => exact .inl (.inl rfl)
  | .bad => exact .inr (.inl rfl)
  | .val m =>
    by_cases within : 1 ≤ m ∧ m ≤ n
    · refine .inr (.inr ⟨⟨m - 1, by omega⟩, ?_⟩)
      rw [numOf, Nat.sub_add_cancel within.1]
    · exact .inl (.inr ⟨m, rfl, by omega⟩)

theorem bad_not_outOf {lo hi : Nat} : ¬ (Arg.bad : Arg Nat).outOf lo hi := by
  rintro (e | ⟨n, e, -⟩) <;> cases e

theorem numOf_not_outOf {n : Nat} (i : Fin n) : ¬ (Arg.val (numOf i)).outOf 1 n := by
  rintro (e | ⟨m, e, outside⟩)
  · cases e
  · have := i.isLt
    rw [← Arg.val.inj e, numOf] at outside
    omega

theorem setMeter_malformed {a : SetMeterArgs} (h : a.met = .bad) :
    setMeter a s = tested [(a.qual.any fun q => (qualifierOf q).isNone, .range)] s (refuse .syntaxError s) := by
  unfold setMeter
  rw [h, tested_cons]
  rfl

/-- SET METER's table number or qualifier out of range, whatever its other values. -/
theorem setMeter_range {a : SetMeterArgs} (out : a.met.outOf 1 8 ∨ qualifierOut a.qual) : setMeter a s = refuse .range s := by
  rcases idFrom1_cases 8 a.met with number | bad | ⟨m, h⟩
  · unfold setMeter
    rw [needId_outOf1 number]
  · have qual := out.resolve_left (bad ▸ bad_not_outOf)
    rw [setMeter_malformed bad, tested_fails (qualifierOut_any qual)]
  · have qual := out.resolve_left (h ▸ numOf_not_outOf m)
    rw [setMeter_taken h, tested_fails (qualifierOut_any qual)]

theorem meterArgs_bad {a : SetMeterArgs} (h : a.met = .bad ∨ a.en = .bad ∨ a.src = .bad ∨ a.qual = .bad ∨ a.win = .bad ∨
    a.thr = .bad ∨ a.inv = .bad ∨ a.edge = .bad ∨ a.preset = .bad ∨ a.day = .bad) : a.malformed = true := by
  rcases h with h | h | h | h | h | h | h | h | h | h <;> simp [SetMeterArgs.malformed, h, Arg.isBad]

theorem meterClamps_eq (a : SetMeterArgs) : a.clamps =
    clamped "WIN" 1 60 a.win ++ clamped "THR" 0 255 a.thr ++ clamped "PRESET" 0 4294967295 a.preset := by
  unfold SetMeterArgs.clamps maxCount
  rw [clampMark_eq _ (by decide), clampMark_eq _ (by decide), clampMark_eq _ (by decide)]

theorem vset_vset {α : Type} {n : Nat} (v : Vector α n) (i : Fin n) (x y : α) : vset (vset v i x) i y = vset v i y := by
  refine Vector.ext fun j hj => ?_
  have at_j := vset_get (vset v i x) i ⟨j, hj⟩ y
  have plain := vset_get v i ⟨j, hj⟩ y
  have inner := vset_get v i ⟨j, hj⟩ x
  by_cases e : i = ⟨j, hj⟩
  · rw [if_pos e] at at_j plain
    exact at_j.trans plain.symm
  · rw [if_neg e] at at_j plain inner
    exact at_j.trans (inner.trans plain.symm)

/-- The blocks after SET METER: the settings, and the meter begun anew under them (R149, R153). -/
theorem applyMeter_eq (m : MeterId) (a : SetMeterArgs) (h : Hall) : applyMeter m a h =
    { h with
      settings := { h.settings with meters := vset h.settings.meters m (a.apply h.settings.meters[m]) }
      meters := vset h.meters m ⟨0, (h.levels.of (a.apply h.settings.meters[m]).source).getD 0, false, false, false,
        if (a.apply h.settings.meters[m]).enabled = true ∧ 0 < (a.apply h.settings.meters[m]).threshold then
          some (h.now + (a.apply h.settings.meters[m]).window) else none⟩ } := by
  have set : (vmod h.settings.meters m a.apply)[m] = a.apply h.settings.meters[m] := vmod_same _ _ _
  unfold applyMeter clearRunning clearResults Hall.modMeter freshClose freshTally
  dsimp only
  rw [set]
  unfold vmod
  rw [vset_same, vset_vset]
  rfl

end

/-- Settles O21: the tests of R153 in turn, and the meter begun anew. -/
theorem setMeter : Obligations.SetMeter := by
  refine ⟨fun s tag a p => ⟨fun out => refused_of p rfl (setMeter_range out), fun within bad => refused_of p rfl ?_⟩,
    fun s tag m a p h good known => ?_⟩
  · have qual := qualifier_within fun q => within (.inr q)
    rcases idFrom1_cases 8 a.met with number | bad | ⟨m, h⟩
    · exact absurd (.inl number) within
    · rw [setMeter_malformed bad, tested_passes qual, tested_nil]
    · rw [setMeter_taken h, tested_passes qual, tested_fails (meterArgs_bad bad)]
  · have qual : (a.qual.any fun q => (qualifierOf q).isNone) = false := by
      cases e : a.qual with
      | val q => simpa [Arg.any, Arg.val?] using known q e
      | _ => rfl
    refine ⟨fun foreign => refused_of p.1 rfl ?_, fun carried => ⟨fun level => refused_of p.1 rfl ?_, fun counts =>
      answerWaits_of p.1 rfl ?_⟩⟩
    all_goals rw [setMeter_taken h, tested_passes qual, tested_passes good, tested_passes (ready_pfw p)]
    · rw [tested_fails]
      rw [Bool.not_eq_true']
      exact foreign
    · rw [tested_passes, tested_fails]
      · rw [Bool.and_eq_true, beq_iff_eq]
        exact level
      · rw [Bool.not_eq_false']
        exact Bool.of_not_eq_false carried
    · rw [tested_passes, tested_passes, tested_nil, meterClamps_eq, applyMeter_eq]
      · rfl
      · rw [Bool.eq_false_iff, Ne, Bool.and_eq_true, beq_iff_eq]
        exact counts
      · rw [Bool.not_eq_false']
        exact Bool.of_not_eq_false carried

end Sys2Proof.StepProofs
end

-- ==== Proofs: Graph ====
section
/-! PROOFS. SET CONSOLE (R25, R26), and SET RELAY LIST with the relay graph check (R69, R71): a path of 16 edges over 16
booths visits one of them twice, so the check finds every loop. -/

namespace Sys2Proof.StepProofs

open Machine

/-! ### SET CONSOLE -/

theorem voidProbe_eq (a : ConsoleId) (h : Hall) : voidProbe a h =
    { h with bus := { h.bus with
      current := h.bus.current.map fun x => if x.console = a ∧ x.kind = .probe then { x with void := true } else x } } := by
  unfold voidProbe
  cases e : h.bus.current with
  | none =>
    show h = _
    rw [Option.map_none, ← e]
  | some x =>
    dsimp only [Option.map_some]
    split
    · rfl
    · rw [← e]

/-- The run of a console that SET CONSOLE moves to booth `b`, or off its booth (R25, R26). -/
def assignedRun (b : Option BoothId) (r : ConsoleRun) : ConsoleRun :=
  match b with
  | none => ConsoleRun.blank
  | some _ =>
    if r.state = .absent ∨ r.state = .fault then
      { r with state := .fault, output := .a, relaySel := none, good := 0, probeTimer := none, probeDue := true }
    else { r with output := .a, relaySel := none }

theorem assignConsole_eq (a : ConsoleId) (b : Option BoothId) (h : Hall) : assignConsole a b h =
    { h with
      settings := { h.settings with consoleBooth := vset h.settings.consoleBooth a b }
      consoles := vset h.consoles a (assignedRun b h.consoles[a])
      bus := { h.bus with
        current := h.bus.current.map fun x => if x.console = a ∧ x.kind = .probe then { x with void := true } else x } } := by
  unfold assignConsole assignedRun
  simp only [voidProbe_eq, Hall.modConsole, vmod, vset_same, vset_vset]
  cases b with
  | none => rfl
  | some b =>
    dsimp only
    split <;> rfl

section
variable {s : State} {tag : Tag}

theorem setConsole_taken {a : ConsoleId} {addr : Arg Nat} (h : addr = .val (numOf a)) (booth : Arg (Option Nat)) :
    setConsole addr booth s = tested
      [(booth.isAbsent || booth.any fun v => (consoleBoothArg v).isNone, .range), (booth.isBad, .syntaxError),
        (s.pfw, .powerFail), (s.hall.consoles[a].state.tied, .state),
        (s.hall.boothFull a ((booth.val?.bind consoleBoothArg).getD none), .full)] s
      (if s.hall.boothOf a = (booth.val?.bind consoleBoothArg).getD none then .now (.ok .plain []) s
       else .wait onlySettings (.ok .plain [])
        { s with hall := assignConsole a ((booth.val?.bind consoleBoothArg).getD none) s.hall }) := by
  unfold setConsole
  rw [h, needId_val (idFrom1_numOf a)]

theorem setConsole_malformed {addr : Arg Nat} (h : addr = .bad) (booth : Arg (Option Nat)) : setConsole addr booth s =
    tested [(booth.isAbsent || booth.any fun v => (consoleBoothArg v).isNone, .range)] s (refuse .syntaxError s) := by
  unfold setConsole
  rw [h, tested_cons]
  rfl

theorem noBooth_iff (booth : Arg (Option Nat)) : (booth.isAbsent || booth.any fun v => (consoleBoothArg v).isNone) = true ↔
    booth = .absent ∨ ∃ n, booth = .val (some n) ∧ (n = 0 ∨ 16 < n) := by
  match booth with
  | .absent => simp [Arg.isAbsent]
  | .bad => simp [Arg.isAbsent, Arg.any, Arg.val?]
  | .val none => simp [Arg.isAbsent, Arg.any, Arg.val?, consoleBoothArg]
  | .val (some n) =>
    have conv : (idFrom1 16 n).isNone = true ↔ n = 0 ∨ 16 < n :=
      ⟨idFrom1_isNone, fun out => by rw [idFrom1_none out]; rfl⟩
    simpa [Arg.isAbsent, Arg.any, Arg.val?, consoleBoothArg] using conv

theorem setConsole_range {addr : Arg Nat} {booth : Arg (Option Nat)}
    (out : addr.outOf 1 48 ∨ booth = .absent ∨ ∃ n, booth = .val (some n) ∧ (n = 0 ∨ 16 < n)) :
    setConsole addr booth s = refuse .range s := by
  rcases idFrom1_cases 48 addr with number | bad | ⟨a, h⟩
  · unfold setConsole
    rw [needId_outOf1 number]
  · have booth := out.resolve_left (bad ▸ bad_not_outOf)
    rw [setConsole_malformed bad, tested_fails ((noBooth_iff _).mpr booth)]
  · have booth := out.resolve_left (h ▸ numOf_not_outOf a)
    rw [setConsole_taken h, tested_fails ((noBooth_iff _).mpr booth)]

theorem tied_iff (v : ConsoleState) : v.tied = true ↔ v = .live ∨ v = .muted ∨ v = .requesting ∨ v = .quarantined := by
  cases v <;> simp [ConsoleState.tied]

/-- The booth argument of SET CONSOLE that names a booth, or NONE. -/
theorem consoleBooth_val (b : Option BoothId) :
    ((Arg.val (b.map numOf)).val?.bind consoleBoothArg).getD none = b ∧
      ((Arg.val (b.map numOf)).isAbsent || (Arg.val (b.map numOf)).any fun v => (consoleBoothArg v).isNone) = false := by
  cases b with
  | none => exact ⟨rfl, rfl⟩
  | some b =>
    have conv : idFrom1 16 (numOf b) = some b := idFrom1_numOf b
    simp [Arg.val?, Arg.isAbsent, Arg.any, consoleBoothArg, conv]

end

/-- Settles O22: the tests of R25 in turn, and the run of a console that is free to move. -/
theorem setConsole : Obligations.SetConsole := by
  refine ⟨fun s tag addr booth p => ⟨fun out => refused_of p rfl (setConsole_range out), fun within bad =>
    refused_of p rfl ?_⟩, fun s tag a b p => ⟨fun tied => refused_of p.1 rfl ?_, fun untied =>
    ⟨fun full => refused_of p.1 rfl ?_, fun room => ⟨fun same => answersNow_of p.1 rfl ?_, fun moved =>
      answerWaits_of p.1 rfl ?_⟩⟩⟩⟩
  · have booth_in : (booth.isAbsent || booth.any fun v => (consoleBoothArg v).isNone) = false :=
      Bool.eq_false_iff.mpr fun out => within (.inr ((noBooth_iff booth).mp out))
    rcases idFrom1_cases 48 addr with number | malformed | ⟨a, h⟩
    · exact absurd (.inl number) within
    · rw [setConsole_malformed malformed, tested_passes booth_in, tested_nil]
    · have booth_bad : booth.isBad = true := by
        rcases bad with rfl | rfl
        · cases h
        · rfl
      rw [setConsole_taken h, tested_passes booth_in, tested_fails booth_bad]
  all_goals
    obtain ⟨named, given⟩ := consoleBooth_val b
    have good : (Arg.val (b.map numOf)).isBad = false := rfl
    rw [setConsole_taken rfl, tested_passes given, tested_passes good, tested_passes (ready_pfw p), named]
  · rw [tested_fails]
    exact (tied_iff _).mpr tied
  all_goals
    have free : s.opened.hall.consoles[a].state.tied = false := Bool.eq_false_iff.mpr fun t => untied ((tied_iff _).mp t)
    rw [tested_passes free]
  · obtain ⟨x, rfl, three⟩ := full
    rw [tested_fails]
    exact decide_eq_true three
  all_goals
    have within : s.opened.hall.boothFull a b = false := by
      rw [Bool.eq_false_iff]
      intro full
      cases b with
      | none => cases full
      | some x => exact room ⟨x, rfl, of_decide_eq_true full⟩
    rw [tested_passes within, tested_nil]
  · exact if_pos same
  · refine (if_neg moved).trans ?_
    rw [assignConsole_eq]
    cases b with
    | none => rfl
    | some b =>
      rw [State.opened_hall]
      have idle_or : s.hall.consoles[a].state = .idle ∨ s.hall.consoles[a].state = .absent ∨
          s.hall.consoles[a].state = .fault := by
        generalize s.hall.consoles[a].state = v at untied
        revert untied
        cases v <;> decide
      unfold assignedRun
      generalize s.hall.consoles[a] = r at idle_or
      obtain ⟨state⟩ := r
      rcases idle_or with rfl | rfl | rfl <;> rfl

/-! ### SET RELAY LIST -/

/-- One console's run changed as often as it stands in a list is changed once, where changing it again changes nothing. -/
theorem foldl_modConsole {f : ConsoleRun → ConsoleRun} (again : ∀ r, f (f r) = f r) (l : List ConsoleId) (h : Hall) :
    l.foldl (fun h a => h.modConsole a f) h =
      { h with consoles := vtab fun a => if a ∈ l then f h.consoles[a] else h.consoles[a] } := by
  induction l generalizing h with
  | nil =>
    have same : (vtab fun a => if a ∈ ([] : List ConsoleId) then f h.consoles[a] else h.consoles[a]) = h.consoles :=
      table_ext fun a => by rw [vtab_get, if_neg List.not_mem_nil]
    rw [same]
    rfl
  | cons x l ih =>
    rw [List.foldl_cons, ih]
    have same : (vtab fun a => if a ∈ l then f (h.modConsole x f).consoles[a] else (h.modConsole x f).consoles[a]) =
        vtab fun a => if a ∈ x :: l then f h.consoles[a] else h.consoles[a] := by
      refine table_ext fun a => ?_
      rw [vtab_get, vtab_get, show (h.modConsole x f).consoles[a] = if x = a then f h.consoles[a] else h.consoles[a] from
        vmod_get ..]
      by_cases e : x = a
      · rw [if_pos e, if_pos (List.mem_cons.mpr (.inl e.symm)), again, ite_self]
      · have mem : a ∈ x :: l ↔ a ∈ l := by
          rw [List.mem_cons]
          exact or_iff_right fun t => e t.symm
        rw [if_neg e, if_congr mem rfl rfl]
    rw [same]
    rfl

theorem relayChannels_val {l : List ChannelId} (h : ∀ c ∈ l, c ≠ 0) : relayChannels (l.map Fin.val) = some l := by
  induction l with
  | nil => rfl
  | cons c l ih =>
    have low : 1 ≤ c.val ∧ c.val < 32 := ⟨Fin.pos_iff_ne_zero.mpr (h c (.head _)), c.isLt⟩
    have rest := ih fun d m => h d (.tail _ m)
    unfold relayChannels at *
    rw [List.map_cons, List.mapM_cons, rest, dif_pos low]
    rfl

theorem relayChannels_none (l : List Nat) : relayChannels l = none ↔ ∃ n ∈ l, n = 0 ∨ 31 < n := by
  induction l with
  | nil => simp [relayChannels]
  | cons n l ih =>
    have step : relayChannels (n :: l) = none ↔ (¬ (1 ≤ n ∧ n < 32)) ∨ relayChannels l = none := by
      unfold relayChannels
      rw [List.mapM_cons]
      by_cases low : 1 ≤ n ∧ n < 32
      · rw [dif_pos low]
        cases List.mapM (fun n => if h : 1 ≤ n ∧ n < 32 then some (⟨n, h.2⟩ : ChannelId) else none) l <;> simp [low]
      · rw [dif_neg low]
        simp [low]
    rw [step, ih, List.exists_mem_cons_iff]
    exact or_congr (by omega) Iff.rfl

section
variable {s : State} {tag : Tag}

theorem setRelayList_taken {b : BoothId} {booth : Arg Nat} (h : booth = .val (numOf b)) (list : Arg (List Nat))
    {l : List ChannelId} (named : (list.val?.bind relayChannels).getD [] = l) : setRelayList booth list s = tested
      [(list.any fun l => (relayChannels l).isNone, .range), (list.isAbsent || list.isBad, .syntaxError),
        (s.pfw, .powerFail), (4 < l.length, .full), (!decide l.Nodup, .duplicate),
        (l.any fun c => !s.hall.settings.channels[c].enabled, .state),
        ((relayCheck (vmod s.hall.settings.booths b fun r => { r with relayList := l })).isSome,
          (relayCheck (vmod s.hall.settings.booths b fun r => { r with relayList := l })).getD .loop)] s
      (if s.hall.settings.booths[b].relayList = l then .now (.ok .plain []) s
       else .wait onlySettings (.ok .plain []) { s with hall := applyRelayList b l s.hall }) := by
  unfold setRelayList
  rw [h, needId_val (idFrom1_numOf b), named]

theorem setRelayList_malformed {booth : Arg Nat} (h : booth = .bad) (list : Arg (List Nat)) : setRelayList booth list s =
    tested [(list.any fun l => (relayChannels l).isNone, .range)] s (refuse .syntaxError s) := by
  unfold setRelayList
  rw [h, tested_cons]
  rfl

theorem badChannel_iff (list : Arg (List Nat)) : (list.any fun l => (relayChannels l).isNone) = true ↔
    ∃ l, list = .val l ∧ ∃ n ∈ l, n = 0 ∨ 31 < n := by
  cases list with
  | val l => simp [Arg.any, Arg.val?, relayChannels_none]
  | _ => simp [Arg.any, Arg.val?]

theorem setRelayList_range {booth : Arg Nat} {list : Arg (List Nat)}
    (out : booth.outOf 1 16 ∨ ∃ l, list = .val l ∧ ∃ n ∈ l, n = 0 ∨ 31 < n) :
    setRelayList booth list s = refuse .range s := by
  rcases idFrom1_cases 16 booth with number | bad | ⟨b, h⟩
  · unfold setRelayList
    rw [needId_outOf1 number]
  · have channel := out.resolve_left (bad ▸ bad_not_outOf)
    rw [setRelayList_malformed bad, tested_fails ((badChannel_iff _).mpr channel)]
  · have channel := out.resolve_left (h ▸ numOf_not_outOf b)
    rw [setRelayList_taken h list rfl, tested_fails ((badChannel_iff _).mpr channel)]

theorem filter_filter_same {α : Type} (p : α → Bool) (x : Option α) : (x.filter p).filter p = x.filter p := by
  cases x with
  | none => rfl
  | some c => by_cases e : p c = true <;> simp [Option.filter, e]

/-- The blocks that SET RELAY LIST settles: the list, and the selections that still stand on it (R71). -/
def relayListed (b : BoothId) (l : List ChannelId) (h : Hall) : Hall :=
  { h with
    settings := { h.settings with booths := vmod h.settings.booths b fun r => { r with relayList := l } }
    consoles := vtab fun a =>
      if h.settings.consoleBooth[a] = some b then
        { h.consoles[a] with relaySel := h.consoles[a].relaySel.filter fun c => l.contains c }
      else h.consoles[a]
    booths := vmod h.booths b fun r => { r with unowned := r.unowned.filter fun c => l.contains c } }

theorem mem_consolesOf (h : Hall) (b : BoothId) (a : ConsoleId) : a ∈ h.consolesOf b ↔ h.settings.consoleBooth[a] = some b := by
  rw [Hall.consolesOf, List.mem_filter, beq_iff_eq]
  exact and_iff_right (mem_ids a)

theorem applyRelayList_eq (b : BoothId) (l : List ChannelId) (h : Hall) : applyRelayList b l h = settle (relayListed b l h) := by
  unfold applyRelayList relayListed
  dsimp only
  rw [foldl_modConsole fun r => by rw [filter_filter_same]]
  simp only [mem_consolesOf]
  rfl

theorem setRelayList_tested {b : BoothId} {l : List ChannelId} (named : ∀ c ∈ l, c ≠ 0) :
    setRelayList (.val (numOf b)) (.val (l.map Fin.val)) s = tested
      [(s.pfw, .powerFail), (4 < l.length, .full), (!decide l.Nodup, .duplicate),
        (l.any fun c => !s.hall.settings.channels[c].enabled, .state),
        ((relayCheck (vmod s.hall.settings.booths b fun r => { r with relayList := l })).isSome,
          (relayCheck (vmod s.hall.settings.booths b fun r => { r with relayList := l })).getD .loop)] s
      (if s.hall.settings.booths[b].relayList = l then .now (.ok .plain []) s
       else .wait onlySettings (.ok .plain []) { s with hall := applyRelayList b l s.hall }) := by
  have conv := relayChannels_val named
  rw [setRelayList_taken rfl _ (show ((Arg.val (l.map Fin.val)).val?.bind relayChannels).getD [] = l by
    simp [Arg.val?, conv]), tested_passes (by simp [Arg.any, Arg.val?, conv]),
    tested_passes (show ((Arg.val (l.map Fin.val)).isAbsent || (Arg.val (l.map Fin.val)).isBad) = false from rfl)]

end

/-- Settles O23's first clause: a booth or a channel out of range, and then the values missing or malformed. -/
theorem relayList_malformed (s : State) (tag : Tag) (booth : Arg Nat) (list : Arg (List Nat)) (p : s.takesOrders) :
    let refused (c : AnswerCode) : Prop := s.answersNow (.setRelayList tag booth list) tag (.er c) s.hall
    ifElse (booth.outOf 1 16 ∨ ∃ l, list = .val l ∧ ∃ n ∈ l, n = 0 ∨ 31 < n) (refused .range) <|
      (booth = .bad ∨ list = .absent ∨ list = .bad → refused .syntaxError) := by
  refine ⟨fun out => refused_of p rfl (setRelayList_range out), fun within bad => refused_of p rfl ?_⟩
  have channels : (list.any fun l => (relayChannels l).isNone) = false :=
    Bool.eq_false_iff.mpr fun out => within (.inr ((badChannel_iff list).mp out))
  rcases idFrom1_cases 16 booth with number | malformed | ⟨b, h⟩
  · exact absurd (.inl number) within
  · rw [setRelayList_malformed malformed, tested_passes channels, tested_nil]
  · rw [setRelayList_taken h list rfl, tested_passes channels, tested_fails]
    rcases bad with rfl | rfl | rfl
    · cases h
    · rfl
    · rfl

theorem relayList_answers (s : State) (tag : Tag) (b : BoothId) (l : List ChannelId) (p : s.ready) (named : ∀ c ∈ l, c ≠ 0) :
    let h := s.hall
    let i : Instr := .setRelayList tag (.val (numOf b)) (.val (l.map Fin.val))
    let booths := vmod h.settings.booths b fun r => { r with relayList := l }
    ifElse (4 < l.length) (s.answersNow i tag (.er .full) h) <|
    ifElse (¬ l.Nodup) (s.answersNow i tag (.er .duplicate) h) <|
    ifElse (∃ c ∈ l, h.settings.channels[c].enabled = false) (s.answersNow i tag (.er .state) h) <|
      (∀ c, relayCheck booths = some c → s.answersNow i tag (.er c) h) ∧
      (relayCheck booths = none →
        ifElse (h.settings.booths[b].relayList = l) (s.answersNow i tag (.ok .plain []) h)
        (∃ k, s.answerWaits i tag onlySettings (.ok .plain []) k ∧ (relayListed b l h).Kept k)) := by
  refine ⟨fun long => refused_of p.1 rfl ?_, fun short => ⟨fun twice => refused_of p.1 rfl ?_, fun once =>
    ⟨fun off => refused_of p.1 rfl ?_, fun on => ⟨fun c bad => refused_of p.1 rfl ?_, fun good =>
      ⟨fun same => answersNow_of p.1 rfl ?_, fun moved => ⟨applyRelayList b l s.hall, answerWaits_of p.1 rfl ?_, ?_⟩⟩⟩⟩⟩⟩
  case refine_7 =>
    rw [applyRelayList_eq]
    exact kept_settle _
  all_goals
    rw [setRelayList_tested named, tested_passes (ready_pfw p)]
  · rw [tested_fails (decide_eq_true long)]
  all_goals
    rw [tested_passes (decide_eq_false short)]
  · rw [tested_fails]
    simpa using twice
  all_goals
    have nodup : (!decide l.Nodup) = false := by simpa using once
    rw [tested_passes nodup]
  · rw [tested_fails]
    simpa using off
  all_goals
    have enabled : (l.any fun c => !s.opened.hall.settings.channels[c].enabled) = false := by simpa using on
    rw [tested_passes enabled]
  · rw [State.opened_hall, bad]
    rfl
  all_goals
    rw [State.opened_hall, good, tested_passes Option.isSome_none, tested_nil]
  · exact if_pos same
  · exact if_neg moved

/-! ### The relay graph (R69) -/

section
variable (bs : Vector BoothSettings 16)

theorem mem_pathStarts (k : Nat) (x : BoothId) : x ∈ pathStarts bs k ↔ ∃ y, relayPath bs k x y := by
  induction k generalizing x with
  | zero => exact ⟨fun _ => ⟨x, rfl⟩, fun _ => mem_ids x⟩
  | succ k ih =>
    rw [pathStarts, edgesInto, List.mem_filter, List.any_eq_true]
    constructor
    · rintro ⟨-, z, mem, edge⟩
      obtain ⟨y, path⟩ := (ih z).mp mem
      exact ⟨y, z, edge, path⟩
    · rintro ⟨y, z, edge, path⟩
      exact ⟨mem_ids x, z, (ih z).mpr ⟨y, path⟩, edge⟩

theorem pathStarts_ne_nil (k : Nat) : pathStarts bs k ≠ [] ↔ ∃ x y, relayPath bs k x y := by
  rw [← List.isEmpty_eq_false_iff, List.isEmpty_eq_false_iff_exists_mem]
  exact exists_congr (mem_pathStarts bs k)

variable {bs}

theorem relayPath_append {m k : Nat} {x y z : BoothId} (p : relayPath bs m x y) (q : relayPath bs k y z) :
    relayPath bs (m + k) x z := by
  induction m generalizing x with
  | zero => rwa [Nat.zero_add, show x = y from p]
  | succ m ih =>
    obtain ⟨w, edge, rest⟩ := p
    rw [Nat.succ_add]
    exact ⟨w, edge, ih rest⟩

theorem relayPath_take {m k : Nat} {x z : BoothId} (p : relayPath bs (m + k) x z) : ∃ y, relayPath bs m x y := by
  induction m generalizing x with
  | zero => exact ⟨x, rfl⟩
  | succ m ih =>
    rw [Nat.succ_add] at p
    obtain ⟨w, edge, rest⟩ := p
    obtain ⟨y, path⟩ := ih rest
    exact ⟨y, w, edge, path⟩

/-- The booths along a path. -/
theorem relayPath_walk {k : Nat} {x y : BoothId} (p : relayPath bs k x y) :
    ∃ f : Nat → BoothId, f 0 = x ∧ ∀ i < k, relayEdge bs (f i) (f (i + 1)) = true := by
  induction k generalizing x with
  | zero => exact ⟨fun _ => x, rfl, fun i h => absurd h (Nat.not_lt_zero i)⟩
  | succ k ih =>
    obtain ⟨z, edge, rest⟩ := p
    obtain ⟨f, start, edges⟩ := ih rest
    refine ⟨fun i => Nat.casesOn i x f, rfl, fun i h => ?_⟩
    cases i with
    | zero => exact (congrArg (relayEdge bs x) start).trans edge
    | succ i => exact edges i (Nat.lt_of_succ_lt_succ h)

theorem relayPath_of_walk {f : Nat → BoothId} (i k : Nat) (edges : ∀ j < k, relayEdge bs (f (i + j)) (f (i + j + 1)) = true) :
    relayPath bs k (f i) (f (i + k)) := by
  induction k generalizing i with
  | zero => rfl
  | succ k ih =>
    refine ⟨f (i + 1), edges 0 (Nat.succ_pos k), ?_⟩
    have rest := ih (i + 1) fun j h => by
      have := edges (j + 1) (Nat.succ_lt_succ h)
      rwa [show i + 1 + j = i + (j + 1) by omega]
    rwa [show i + (k + 1) = i + 1 + k by omega]

/-- Of the 17 booths along a path of 16 edges two are the same. -/
theorem relayPath_repeats {x y : BoothId} (p : relayPath bs 16 x y) : ∃ (k : Nat) (b : BoothId), 0 < k ∧ relayPath bs k b b := by
  obtain ⟨f, -, edges⟩ := relayPath_walk p
  obtain ⟨i, j, ne, same⟩ := Fintype.exists_ne_map_eq_of_card_lt (fun i : Fin 17 => f i.val) (by simp)
  wlog low : i < j generalizing i j
  · exact this j i ne.symm same.symm (lt_of_le_of_ne (not_lt.mp low) ne.symm)
  · have gap : i.val < j.val := low
    refine ⟨j.val - i.val, f i.val, by omega, ?_⟩
    have path := relayPath_of_walk (bs := bs) (f := f) i.val (j.val - i.val) fun k h => edges _ (by have := j.isLt; omega)
    rwa [Nat.add_sub_cancel' gap.le, ← show f i.val = f j.val from same] at path

/-- A loop gone round 16 times. -/
theorem relayPath_round {k : Nat} {b : BoothId} (p : relayPath bs k b b) (n : Nat) : relayPath bs (n * k) b b := by
  induction n with
  | zero => rw [Nat.zero_mul]; rfl
  | succ n ih =>
    rw [Nat.succ_mul]
    exact relayPath_append ih p

theorem loop_iff : (∃ (k : Nat) (b : BoothId), 0 < k ∧ relayPath bs k b b) ↔ pathStarts bs 16 ≠ [] := by
  rw [pathStarts_ne_nil]
  constructor
  · rintro ⟨k, b, pos, path⟩
    have long := relayPath_round path 16
    obtain ⟨y, head⟩ := relayPath_take (k := 16 * k - 16) (show relayPath bs (16 + (16 * k - 16)) b b by
      rwa [show 16 + (16 * k - 16) = 16 * k by omega])
    exact ⟨b, y, head⟩
  · rintro ⟨x, y, path⟩
    exact relayPath_repeats path

theorem deep_iff : (∃ (k : Nat) (x y : BoothId), 4 ≤ k ∧ relayPath bs k x y) ↔ pathStarts bs 4 ≠ [] := by
  rw [pathStarts_ne_nil]
  constructor
  · rintro ⟨k, x, y, four, path⟩
    obtain ⟨z, head⟩ := relayPath_take (k := k - 4) (show relayPath bs (4 + (k - 4)) x y by
      rwa [Nat.add_sub_cancel' four])
    exact ⟨x, z, head⟩
  · rintro ⟨x, y, path⟩
    exact ⟨4, x, y, le_rfl, path⟩

theorem selfLoop (h : ((ids 16).any fun b => bs[b].relayList.any bs[b].names) = true) :
    ∃ (k : Nat) (b : BoothId), 0 < k ∧ relayPath bs k b b := by
  obtain ⟨b, -, edge⟩ := List.any_eq_true.mp h
  exact ⟨1, b, Nat.one_pos, b, edge, rfl⟩

theorem relayCheck_finds : (relayCheck bs = some .loop ↔ ∃ (k : Nat) (b : BoothId), 0 < k ∧ relayPath bs k b b) ∧
    (relayCheck bs = some .depth ↔ (¬ ∃ (k : Nat) (b : BoothId), 0 < k ∧ relayPath bs k b b) ∧
      ∃ (k : Nat) (x y : BoothId), 4 ≤ k ∧ relayPath bs k x y) ∧
    (relayCheck bs = none ↔ (¬ ∃ (k : Nat) (b : BoothId), 0 < k ∧ relayPath bs k b b) ∧
      ¬ ∃ (k : Nat) (x y : BoothId), 4 ≤ k ∧ relayPath bs k x y) := by
  unfold relayCheck
  by_cases self : ((ids 16).any fun b => bs[b].relayList.any bs[b].names) = true
  · rw [if_pos self]
    have loop := selfLoop self
    generalize (∃ (k : Nat) (b : BoothId), 0 < k ∧ relayPath bs k b b) = looped at loop ⊢
    simp [loop]
  · rw [if_neg self, loop_iff, deep_iff]
    by_cases loop : pathStarts bs 16 = [] <;> by_cases deep : pathStarts bs 4 = [] <;> simp [loop, deep]

end

/-- Settles O23: the tests of R71 in turn, the blocks settled, and the graph check against paths of any length. -/
theorem relayListAndGraph : Obligations.RelayListAndGraph := by
  refine ⟨relayList_malformed, fun s tag b l p named => ?_, fun bs => relayCheck_finds⟩
  obtain ⟨long, short⟩ := relayList_answers s tag b l p named
  refine ⟨long, fun h1 => ⟨(short h1).1, fun h2 => ⟨((short h1).2 h2).1, fun h3 => ?_⟩⟩⟩
  obtain ⟨bad, good⟩ := ((short h1).2 h2).2 h3
  split
  · next e => exact bad _ e
  · next e => exact good e

end Sys2Proof.StepProofs
end

-- ==== Proofs: Floor ====
section
/-! PROOFS. The operations of the interlock, field by field: stepping down, granting, a fresh request, and the two
pass-ons (R38, R46, R49 to R53). `Steady` is what all of them but stepping down leave alone. -/

namespace Sys2Proof.StepProofs

open Machine

/-! ### What a request or a pass-on leaves alone -/

/-- `k` is `h` but for consoles, booths, channels, wait lists, meters and what is handed to the event's end. -/
structure Steady (h k : Hall) : Prop where
  settings : k.settings = h.settings
  fleet    : k.fleet = h.fleet
  account  : k.account = h.account
  clock    : k.clock = h.clock
  air      : k.air = h.air
  bus      : k.bus = h.bus
  lowFired : k.lowFired = h.lowFired
  asks     : k.work.asks = h.work.asks

theorem Steady.trans {h k l : Hall} (p : Steady h k) (q : Steady k l) : Steady h l :=
  ⟨q.settings.trans p.settings, q.fleet.trans p.fleet, q.account.trans p.account, q.clock.trans p.clock,
    q.air.trans p.air, q.bus.trans p.bus, q.lowFired.trans p.lowFired, q.asks.trans p.asks⟩

theorem steady_metered {h k : Hall} (p : Metered h k) : Steady h k :=
  ⟨p.settings, p.fleet, p.account, p.clock, p.air, p.bus, p.lowFired, p.asks⟩

theorem Steady.dayOpen {h k : Hall} (p : Steady h k) : k.dayOpen = h.dayOpen := congrArg (fun a => a.day.isOpen) p.account

section
variable (h : Hall)

theorem steady_modConsole (a f) : Steady h (h.modConsole a f) := ⟨rfl, rfl, rfl, rfl, rfl, rfl, rfl, rfl⟩
theorem steady_modBooth (b f) : Steady h (h.modBooth b f) := ⟨rfl, rfl, rfl, rfl, rfl, rfl, rfl, rfl⟩
theorem steady_setOwner (b o) : Steady h (setOwner b o h) := ⟨rfl, rfl, rfl, rfl, rfl, rfl, rfl, rfl⟩
theorem steady_setFeeder (c f) : Steady h (setFeeder c f h) := ⟨rfl, rfl, rfl, rfl, rfl, rfl, rfl, rfl⟩
theorem steady_dropEntry (c a) : Steady h (dropEntry c a h) := ⟨rfl, rfl, rfl, rfl, rfl, rfl, rfl, rfl⟩

/-! ### Reading a table after one entry changed -/

theorem modConsole_get (a x : ConsoleId) (f) :
    (h.modConsole a f).consoles[x] = if a = x then f h.consoles[x] else h.consoles[x] := vmod_get ..

theorem modBooth_get (b x : BoothId) (f) : (h.modBooth b f).booths[x] = if b = x then f h.booths[x] else h.booths[x] :=
  vmod_get ..

theorem setOwner_get (b x : BoothId) (o) :
    (setOwner b o h).booths[x] = if b = x then { h.booths[x] with owner := o } else h.booths[x] := vmod_get ..

theorem setOwner_queue (b x : BoothId) (o) : (setOwner b o h).booths[x].queue = h.booths[x].queue := by
  rw [setOwner_get]
  split <;> rfl

theorem setFeeder_get (c x : ChannelId) (f) :
    (setFeeder c f h).channels[x].feeder = if c = x then f else h.channels[x].feeder := by
  rw [show (setFeeder c f h).channels[x] = if c = x then { h.channels[x] with feeder := f } else h.channels[x] from
    vmod_get ..]
  split <;> rfl

theorem modWaitList_get (c x : ChannelId) (f) :
    (h.modWaitList c f).waitLists[x] = if c = x then f h.waitLists[x] else h.waitLists[x] := vmod_get ..

/-! ### Stepping down -/

/-- The run of a console that has left LIVE or MUTED for `v`. -/
def downRun (v : ConsoleState) (r : ConsoleRun) : ConsoleRun :=
  { r with state := v, liveSince := none, contStart := none, nextShift := none, shiftLamp := false }

theorem vmod_same_eq {α : Type} {n : Nat} {v : Vector α n} {i : Fin n} {f : α → α} (same : f v[i] = v[i]) : vmod v i f = v := by
  refine table_ext fun j => ?_
  rw [vmod_get]
  by_cases e : i = j
  · rw [if_pos e, ← e, same]
  · rw [if_neg e]

theorem vmod_vmod {α : Type} {n : Nat} (v : Vector α n) (i : Fin n) (f g : α → α) :
    vmod (vmod v i f) i g = vmod v i fun x => g (f x) := by
  show vset (vset v i (f v[i])) i (g (vset v i (f v[i]))[i]) = vset v i (g (f v[i]))
  rw [vset_vset, vset_same]

theorem cleared_liveSince {r : ConsoleRun} (e : r.liveSince = none) : { r with liveSince := none } = r := by
  rw [← e]

theorem endLiveSpell_consoles (a : ConsoleId) :
    (endLiveSpell a h).consoles = vmod h.consoles a fun r => { r with liveSince := none } := by
  unfold endLiveSpell
  cases e : h.consoles[a].liveSince with
  | none => exact (vmod_same_eq (cleared_liveSince e)).symm
  | some m => cases h.boothOf a <;> rfl

theorem stepDown_consoles (a : ConsoleId) (v : ConsoleState) :
    (stepDown a v h).consoles = vmod h.consoles a (downRun v) := by
  unfold stepDown Hall.modConsole
  dsimp only
  rw [endLiveSpell_consoles, vmod_vmod]
  rfl

theorem stepDown_get (a x : ConsoleId) (v : ConsoleState) :
    (stepDown a v h).consoles[x] = if a = x then downRun v h.consoles[x] else h.consoles[x] := by
  rw [stepDown_consoles]
  exact vmod_get ..

theorem stepDown_account (a : ConsoleId) (v : ConsoleState) : (stepDown a v h).account =
    { h.account with
      consoleLive := (stepDown a v h).account.consoleLive
      booths := (stepDown a v h).account.booths } := by
  unfold stepDown endLiveSpell
  cases h.consoles[a].liveSince with
  | none => rfl
  | some m => cases h.boothOf a <;> rfl

/-- Stepping down touches the console, its minutes and its booth's, and nothing else. -/
theorem stepDown_eq (a : ConsoleId) (v : ConsoleState) : stepDown a v h =
    { h with
      account := (stepDown a v h).account
      consoles := (stepDown a v h).consoles
      work := { h.work with asks := (stepDown a v h).work.asks } } := by
  unfold stepDown endLiveSpell
  cases h.consoles[a].liveSince with
  | none => rfl
  | some m => cases h.boothOf a <;> rfl

theorem stepDown_channels (a v) : (stepDown a v h).channels = h.channels := by rw [stepDown_eq]
theorem stepDown_waitLists (a v) : (stepDown a v h).waitLists = h.waitLists := by rw [stepDown_eq]
theorem stepDown_booths (a v) : (stepDown a v h).booths = h.booths := by rw [stepDown_eq]
theorem stepDown_settings (a v) : (stepDown a v h).settings = h.settings := by rw [stepDown_eq]
theorem stepDown_fleet (a v) : (stepDown a v h).fleet = h.fleet := by rw [stepDown_eq]
theorem stepDown_clock (a v) : (stepDown a v h).clock = h.clock := by rw [stepDown_eq]
theorem stepDown_air (a v) : (stepDown a v h).air = h.air := by rw [stepDown_eq]
theorem stepDown_granted (a v) : (stepDown a v h).work.granted = h.work.granted := by rw [stepDown_eq]
theorem stepDown_now (a v) : (stepDown a v h).now = h.now := congrArg Clock.minute (stepDown_clock h a v)
theorem stepDown_dayOpen (a v) : (stepDown a v h).dayOpen = h.dayOpen := by
  unfold Hall.dayOpen
  rw [stepDown_account]
theorem stepDown_records (a v) : (stepDown a v h).account.queue = h.account.queue := by rw [stepDown_account]

theorem stepDown_minutes (a : ConsoleId) (v : ConsoleState) :
    (stepDown a v h).account.consoleLive[a] = h.consoleLiveMinutes a ∧
      ∀ b, h.boothOf a = some b → (stepDown a v h).account.booths[b] = { h.account.booths[b] with
        live := asOf h.consoles[a].liveSince h.account.booths[b].live h.now } := by
  unfold stepDown endLiveSpell Hall.consoleLiveMinutes
  cases h.consoles[a].liveSince with
  | none => exact ⟨rfl, fun b _ => rfl⟩
  | some m =>
    refine ⟨?_, fun b booth => ?_⟩
    · cases h.boothOf a <;> exact vmod_same ..
    · rw [booth]
      exact vmod_same ..

/-! ### Granting -/

/-- The run of a console that is granted a channel. -/
def grantRun (h : Hall) (b : BoothId) (r : ConsoleRun) : ConsoleRun :=
  { r with
    state := .live
    handoverExpiry := none
    engagedFlash := none
    contStart := some h.now
    nextShift := some (h.now + h.settings.booths[b].shift1)
    liveSince := if h.dayOpen then some h.now else r.liveSince }

/-- The blocks after a grant, but for the meters that count it (R49). -/
def granted (a : ConsoleId) (b : BoothId) (c : ChannelId) : Hall :=
  { h with
    consoles := vmod h.consoles a (grantRun h b)
    channels := vmod h.channels c fun r => { r with feeder := some a }
    booths := vmod h.booths b fun r => { r with owner := some a }
    waitLists := vmod h.waitLists c fun l => l.filter fun e => e.console != a
    work := { h.work with
      touched := if c ∈ h.work.touched then h.work.touched else h.work.touched ++ [c]
      granted := h.work.granted ++ [a] } }

theorem openLiveSpell_eq (a : ConsoleId) : openLiveSpell a h =
    h.modConsole a fun r => { r with liveSince := if h.dayOpen then some h.now else r.liveSince } := by
  unfold openLiveSpell
  cases h.dayOpen with
  | true => rfl
  | false =>
    unfold Hall.modConsole
    have same : (vmod h.consoles a fun r => { r with liveSince := if false = true then some h.now else r.liveSince }) =
        h.consoles := vmod_same_eq rfl
    rw [same]
    rfl

theorem noteGrant_metered {h k : Hall} (p : Metered h k) (a : ConsoleId) : Metered (h.noteGrant a) (k.noteGrant a) := by
  unfold Metered at p ⊢
  rw [p]
  rfl

theorem grant_metered (a : ConsoleId) (b : BoothId) (c : ChannelId) : Metered (granted h a b c) (grant a b c h) := by
  unfold grant
  have spell : (openLiveSpell a (dropEntry c a (setOwner b (some a) (setFeeder c (some a) (h.modConsole a fun r =>
      { r with
        state := .live
        handoverExpiry := none
        engagedFlash := none
        contStart := some h.now
        nextShift := some (h.now + h.settings.booths[b].shift1) }))))).noteGrant a = granted h a b c := by
    rw [openLiveSpell_eq]
    unfold Hall.modConsole
    dsimp only [dropEntry, setOwner, setFeeder, Hall.modWaitList, Hall.modBooth, Hall.modChannel, Hall.touch]
    rw [vmod_vmod]
    rfl
  rw [← spell]
  exact noteGrant_metered (metered_meterEvent _ _) a

theorem grant_get (a x : ConsoleId) (b : BoothId) (c : ChannelId) :
    (grant a b c h).consoles[x] = if a = x then grantRun h b h.consoles[x] else h.consoles[x] := by
  rw [(grant_metered h a b c).consoles]
  exact vmod_get ..

theorem grant_booths (a : ConsoleId) (b : BoothId) (c : ChannelId) : (grant a b c h).booths = (setOwner b (some a) h).booths :=
  (grant_metered h a b c).booths

theorem grant_feeder (a : ConsoleId) (b : BoothId) (c x : ChannelId) :
    (grant a b c h).channels[x].feeder = if c = x then some a else h.channels[x].feeder := by
  rw [(grant_metered h a b c).channels]
  exact setFeeder_get h c x (some a)

theorem grant_waitLists (a : ConsoleId) (b : BoothId) (c : ChannelId) : (grant a b c h).waitLists = (dropEntry c a h).waitLists :=
  (grant_metered h a b c).waitLists

theorem grant_granted (a : ConsoleId) (b : BoothId) (c : ChannelId) : (grant a b c h).work.granted = h.work.granted ++ [a] :=
  (grant_metered h a b c).granted

theorem steady_grant (a : ConsoleId) (b : BoothId) (c : ChannelId) : Steady h (grant a b c h) :=
  Steady.trans (k := granted h a b c) ⟨rfl, rfl, rfl, rfl, rfl, rfl, rfl, rfl⟩ (steady_metered (grant_metered h a b c))

/-! ### A fresh request -/

theorem startTimer_get (a x : ConsoleId) (b : BoothId) : (startTimer a b h).consoles[x] =
    if a = x then { h.consoles[x] with
      handoverExpiry := if h.settings.booths[b].mode = .handover then some (h.tenths + h.settings.booths[b].timeout)
        else h.consoles[x].handoverExpiry }
    else h.consoles[x] := by
  unfold startTimer
  by_cases mode : h.settings.booths[b].mode = .handover
  · rw [if_pos mode, if_pos mode]
    exact vmod_get ..
  · rw [if_neg mode, if_neg mode]
    exact (ite_self _).symm

theorem startTimer_eq (a : ConsoleId) (b : BoothId) : startTimer a b h = { h with consoles := (startTimer a b h).consoles } := by
  unfold startTimer
  split <;> rfl

/-- The run of a console that has begun to wait. -/
def waitRun (h : Hall) (b : BoothId) (r : ConsoleRun) : ConsoleRun :=
  { r with
    state := .requesting
    engagedFlash := none
    handoverExpiry := if h.settings.booths[b].mode = .handover then some (h.tenths + h.settings.booths[b].timeout)
      else r.handoverExpiry }

/-- The blocks after a fresh request that waits (R46). -/
theorem freshRequest_waits {a : ConsoleId} {b : BoothId} {c : ChannelId} (taken : h.channels[c].feeder ≠ none) :
    freshRequest a b c h =
      { h with
        consoles := vmod h.consoles a (waitRun h b)
        booths := vmod h.booths b fun r => { r with owner := some a }
        waitLists := vmod h.waitLists c fun l => l ++ [⟨a, b⟩] } := by
  unfold freshRequest
  rw [if_neg (by rwa [Option.isNone_iff_eq_none]), startTimer_eq]
  have runs : ∀ k : Hall, k.consoles = (h.modConsole a fun r => { r with state := .requesting, engagedFlash := none }).consoles →
      k.settings = h.settings → k.tenths = h.tenths → (startTimer a b k).consoles = vmod h.consoles a (waitRun h b) := by
    intro k consoles settings tenths
    refine table_ext fun x => ?_
    rw [startTimer_get, settings, tenths, consoles, modConsole_get, vmod_get]
    by_cases e : a = x
    · rw [if_pos e, if_pos e, if_pos e]
      rfl
    · rw [if_neg e, if_neg e, if_neg e]
  rw [runs]
  all_goals rfl

theorem freshRequest_granted {a : ConsoleId} {b : BoothId} {c : ChannelId} (free : h.channels[c].feeder = none) :
    freshRequest a b c h = grant a b c h := by
  unfold freshRequest
  rw [if_pos (by rw [free]; rfl)]

theorem steady_freshRequest (a : ConsoleId) (b : BoothId) (c : ChannelId) : Steady h (freshRequest a b c h) := by
  by_cases free : h.channels[c].feeder = none
  · rw [freshRequest_granted h free]
    exact steady_grant h a b c
  · rw [freshRequest_waits h free]
    exact ⟨rfl, rfl, rfl, rfl, rfl, rfl, rfl, rfl⟩

theorem freshRequest_other {a x : ConsoleId} (b : BoothId) (c : ChannelId) (ne : a ≠ x) :
    (freshRequest a b c h).consoles[x] = h.consoles[x] := by
  by_cases free : h.channels[c].feeder = none
  · rw [freshRequest_granted h free, grant_get, if_neg ne]
  · rw [freshRequest_waits h free]
    exact vmod_other _ _ ne

theorem freshRequest_booths (a : ConsoleId) (b : BoothId) (c : ChannelId) :
    (freshRequest a b c h).booths = (setOwner b (some a) h).booths := by
  by_cases free : h.channels[c].feeder = none
  · rw [freshRequest_granted h free, grant_booths]
  · rw [freshRequest_waits h free]
    rfl

theorem filter_absent {l : List WaitEntry} {a : ConsoleId} (absent : ∀ e ∈ l, e.console ≠ a) :
    (l.filter fun e => e.console != a) = l :=
  List.filter_eq_self.mpr fun e m => bne_iff_ne.mpr (absent e m)

/-- A fresh request, told of the hall `h₀` in which the event began (R46). -/
theorem freshRequest_requested {h₀ : Hall} {y : ConsoleId} {b : BoothId} {t : ChannelId} {f : ChannelId → Option ConsoleId}
    {l : ChannelId → List WaitEntry} {g : List ConsoleId} {old : Option Nat}
    (settings : h.settings = h₀.settings) (clock : h.clock = h₀.clock) (day : h.dayOpen = h₀.dayOpen)
    (feeders : ∀ x : ChannelId, h.channels[x].feeder = f x) (lists : ∀ x : ChannelId, h.waitLists[x] = l x)
    (grants : h.work.granted = g) (timer : h.consoles[y].handoverExpiry = old) (absent : ∀ e ∈ l t, e.console ≠ y) :
    h₀.requested (freshRequest y b t h) y b t f l g old := by
  have now : h.now = h₀.now := congrArg Clock.minute clock
  have tenths : h.tenths = h₀.tenths := congrArg (fun c => c.ticks / 2) clock
  have owner : (freshRequest y b t h).booths[b].owner = some y := by
    rw [freshRequest_booths, setOwner_get, if_pos rfl]
  by_cases free : h.channels[t].feeder = none
  · have run : (freshRequest y b t h).consoles[y] = grantRun h b h.consoles[y] := by
      rw [freshRequest_granted h free, grant_get, if_pos rfl]
    unfold Hall.requested
    dsimp only
    rw [run, freshRequest_granted h free] at *
    refine ⟨owner, rfl, fun _ => ⟨rfl, rfl, ?_, ?_, fun isOpen => ?_, ?_, fun x => ⟨?_, ?_⟩⟩, fun ne => ?_⟩
    · rw [← now]; rfl
    · rw [← now, ← settings]; rfl
    · rw [← now]
      exact if_pos (day.trans isOpen)
    · rw [grant_granted, grants]
    · rw [grant_feeder, feeders, if_congr (eq_comm) rfl rfl]
    · rw [grant_waitLists, dropEntry, modWaitList_get, lists]
      by_cases e : t = x
      · rw [if_pos e, filter_absent (e ▸ absent)]
      · rw [if_neg e]
    · exact absurd ((feeders t).symm.trans free) ne
  · have run : (freshRequest y b t h).consoles[y] = waitRun h b h.consoles[y] := by
      rw [freshRequest_waits h free]
      exact vmod_same ..
    unfold Hall.requested
    dsimp only
    rw [run]
    refine ⟨owner, rfl, fun e => absurd ((feeders t).trans e) free, fun _ => ⟨rfl, ?_, ?_, fun x => ⟨?_, ?_⟩⟩⟩
    · rw [← settings, ← tenths, ← timer]
      rfl
    · rw [freshRequest_waits h free, ← grants]
    · rw [freshRequest_waits h free, ← feeders]
    · rw [freshRequest_waits h free]
      refine (vmod_get ..).trans ?_
      rw [lists, if_congr eq_comm rfl rfl]

/-! ### The channel passed on -/

/-- Channel `c` is given up and passed on (R51). -/
def passed (c : ChannelId) : Hall := channelPassOn c (setFeeder c none h)

theorem steady_passed (c : ChannelId) : Steady h (passed h c) := by
  unfold passed channelPassOn
  split
  · exact (steady_setFeeder h c none).trans (steady_grant _ _ _ _)
  · exact (steady_setFeeder h c none).trans (steady_setFeeder _ _ _)

variable {h}

theorem passed_cons {c : ChannelId} {e : WaitEntry} {rest : List WaitEntry} (l : h.waitLists[c] = e :: rest) :
    passed h c = grant e.console e.booth c (setFeeder c none h) := by
  unfold passed channelPassOn
  rw [show (setFeeder c none h).waitLists[c] = e :: rest from l]

theorem passed_nil {c : ChannelId} (l : h.waitLists[c] = []) : passed h c = setFeeder c none (setFeeder c none h) := by
  unfold passed channelPassOn
  rw [show (setFeeder c none h).waitLists[c] = [] from l]

theorem passed_feeder (c x : ChannelId) : (passed h c).channels[x].feeder = h.feedersPassed c x := by
  unfold Hall.feedersPassed
  cases l : h.waitLists[c] with
  | nil =>
    rw [passed_nil l, setFeeder_get, setFeeder_get, if_congr eq_comm rfl rfl]
    by_cases e : x = c
    · rw [if_pos e, if_pos e]; rfl
    · rw [if_neg e, if_neg (Ne.symm e), if_neg e]
  | cons e rest =>
    rw [passed_cons l, grant_feeder, setFeeder_get, if_congr eq_comm rfl rfl]
    by_cases e : x = c
    · rw [if_pos e, if_pos e]; rfl
    · rw [if_neg e, if_neg (Ne.symm e), if_neg e]

theorem passed_lists {c : ChannelId} (once : (h.waitLists[c].map WaitEntry.console).Nodup) (x : ChannelId) :
    (passed h c).waitLists[x] = h.listsPassed c x := by
  unfold Hall.listsPassed
  cases l : h.waitLists[c] with
  | nil =>
    rw [passed_nil l]
    by_cases e : x = c
    · rw [if_pos e, e]; exact l
    · rw [if_neg e]; rfl
  | cons e rest =>
    rw [passed_cons l, grant_waitLists, dropEntry, modWaitList_get, if_congr eq_comm rfl rfl]
    by_cases same : x = c
    · rw [if_pos same, if_pos same, same, show (setFeeder c none h).waitLists[c] = e :: rest from l]
      rw [l, List.map_cons, List.nodup_cons] at once
      rw [List.filter_cons_of_neg (by simp), List.tail_cons]
      exact filter_absent fun d m same => once.1 (List.mem_map.mpr ⟨d, m, same⟩)
    · rw [if_neg same, if_neg same]; rfl

theorem passed_granted (c : ChannelId) : (passed h c).work.granted = h.grantsPassed c := by
  unfold Hall.grantsPassed
  cases l : h.waitLists[c] with
  | nil =>
    rw [passed_nil l]
    exact (List.append_nil _).symm
  | cons e rest =>
    rw [passed_cons l, grant_granted]
    rfl

theorem passed_queue (c : ChannelId) (x : BoothId) : (passed h c).booths[x].queue = h.booths[x].queue := by
  cases l : h.waitLists[c] with
  | nil => rw [passed_nil l]; rfl
  | cons e rest =>
    rw [passed_cons l, grant_booths, setOwner_queue]
    rfl

/-- A booth that owns no entry of the list is left alone. -/
theorem passed_booth {c : ChannelId} {x : BoothId} (apart : ∀ e ∈ h.waitLists[c], e.booth ≠ x) :
    (passed h c).booths[x] = h.booths[x] := by
  cases l : h.waitLists[c] with
  | nil => rw [passed_nil l]; rfl
  | cons e rest =>
    rw [passed_cons l, grant_booths, setOwner_get, if_neg (apart e (l ▸ .head _))]
    rfl

/-- A console with no entry on the list is left alone. -/
theorem passed_console {c : ChannelId} {x : ConsoleId} (apart : ∀ e ∈ h.waitLists[c], e.console ≠ x) :
    (passed h c).consoles[x] = h.consoles[x] := by
  cases l : h.waitLists[c] with
  | nil => rw [passed_nil l]; rfl
  | cons e rest =>
    rw [passed_cons l, grant_get, if_neg (apart e (l ▸ .head _))]
    rfl

/-- The head of the list has been granted the channel, told of the hall `h₀` in which the event began. -/
theorem passed_headGranted {h₀ : Hall} {c : ChannelId} (settings : h.settings = h₀.settings) (clock : h.clock = h₀.clock)
    (lists : h.waitLists = h₀.waitLists) : h₀.headGranted (passed h c) c := by
  have now : h.now = h₀.now := congrArg Clock.minute clock
  intro e head
  rw [← lists, List.head?_eq_some_iff] at head
  obtain ⟨rest, l⟩ := head
  have run : (passed h c).consoles[e.console] = grantRun h e.booth h.consoles[e.console] := by
    rw [passed_cons l, grant_get, if_pos rfl]
    rfl
  rw [run]
  refine ⟨?_, rfl, rfl, ?_, ?_⟩
  · rw [passed_cons l, grant_booths, setOwner_get, if_pos rfl]
  · rw [← now]; rfl
  · rw [← now, ← settings]; rfl

/-- What has been granted stays so, as what comes after it concerns another booth and other consoles. -/
theorem headGranted_congr {h₀ j k : Hall} {c : ChannelId} (g : h₀.headGranted j c)
    (booth : ∀ e, h₀.waitLists[c].head? = some e → k.booths[e.booth].owner = j.booths[e.booth].owner)
    (console : ∀ e, h₀.waitLists[c].head? = some e → k.consoles[e.console] = j.consoles[e.console]) :
    h₀.headGranted k c := by
  intro e head
  rw [booth e head, console e head]
  exact g e head

end

end Sys2Proof.StepProofs
end

-- ==== Proofs: PassOn ====
section
/-! PROOFS. A place at the interlock ends and is passed on (R50 to R53, R62): releases, the end of a wait, and a booth
made DISABLED, told of the hall in which the event began. -/

namespace Sys2Proof.StepProofs

open Machine

/-! ### The booth passed on -/

section
variable (h : Hall)

theorem boothPassOn_nil {b : BoothId} (q : h.booths[b].queue = []) : boothPassOn b h = setOwner b none h := by
  unfold boothPassOn
  rw [q]

theorem target_congr {h k : Hall} {y : ConsoleId} (settings : k.settings = h.settings)
    (output : k.consoles[y].output = h.consoles[y].output) : k.target y = h.target y := by
  unfold Hall.target Hall.boothOf
  rw [settings, output]

/-- The blocks as the booth pass-on takes its queue's head. -/
def headTaken (b : BoothId) (y : ConsoleId) (rest : List ConsoleId) : Hall :=
  (h.modBooth b fun r => { r with queue := rest, owner := none }).modConsole y fun r => { r with handoverExpiry := none }

theorem headTaken_target (b : BoothId) (y x : ConsoleId) (rest : List ConsoleId) :
    (headTaken h b y rest).target x = h.target x := by
  refine target_congr rfl ?_
  unfold headTaken
  rw [modConsole_get]
  split <;> rfl

theorem boothPassOn_none {b : BoothId} {y : ConsoleId} {rest : List ConsoleId} (q : h.booths[b].queue = y :: rest)
    (t : h.target y = none) : boothPassOn b h = (headTaken h b y rest).modConsole y fun r => { r with state := .idle } := by
  unfold boothPassOn
  rw [q]
  show (match (headTaken h b y rest).target y with
    | some t => freshRequest y b t (headTaken h b y rest)
    | none => _) = _
  rw [headTaken_target, t]
  rfl

theorem boothPassOn_some {b : BoothId} {y : ConsoleId} {rest : List ConsoleId} {t : ChannelId}
    (q : h.booths[b].queue = y :: rest) (e : h.target y = some t) :
    boothPassOn b h = freshRequest y b t (headTaken h b y rest) := by
  unfold boothPassOn
  rw [q]
  show (match (headTaken h b y rest).target y with
    | some t => freshRequest y b t (headTaken h b y rest)
    | none => _) = _
  rw [headTaken_target, e]

theorem steady_headTaken (b y rest) : Steady h (headTaken h b y rest) :=
  (steady_modBooth h b _).trans (steady_modConsole _ y _)

theorem steady_boothPassOn (b : BoothId) : Steady h (boothPassOn b h) := by
  cases q : h.booths[b].queue with
  | nil =>
    rw [boothPassOn_nil h q]
    exact steady_setOwner h b none
  | cons y rest =>
    cases t : h.target y with
    | none =>
      rw [boothPassOn_none h q t]
      exact (steady_headTaken h b y rest).trans (steady_modConsole _ y _)
    | some t' =>
      rw [boothPassOn_some h q t]
      exact (steady_headTaken h b y rest).trans (steady_freshRequest _ y b t')

theorem boothPassOn_console {b : BoothId} {x : ConsoleId} (absent : x ∉ h.booths[b].queue) :
    (boothPassOn b h).consoles[x] = h.consoles[x] := by
  cases q : h.booths[b].queue with
  | nil => rw [boothPassOn_nil h q]; rfl
  | cons y rest =>
    have ne : y ≠ x := fun e => absent (q ▸ e ▸ .head _)
    cases t : h.target y with
    | none =>
      rw [boothPassOn_none h q t, modConsole_get, if_neg ne]
      exact (modConsole_get ..).trans (if_neg ne)
    | some t' =>
      rw [boothPassOn_some h q t, freshRequest_other _ _ _ ne]
      exact (modConsole_get ..).trans (if_neg ne)

theorem boothPassOn_booth {b x : BoothId} (ne : b ≠ x) : (boothPassOn b h).booths[x] = h.booths[x] := by
  cases q : h.booths[b].queue with
  | nil => rw [boothPassOn_nil h q, setOwner_get, if_neg ne]
  | cons y rest =>
    have taken : (headTaken h b y rest).booths[x] = h.booths[x] := (modBooth_get ..).trans (if_neg ne)
    cases t : h.target y with
    | none =>
      rw [boothPassOn_none h q t]
      exact taken
    | some t' => rw [boothPassOn_some h q t, freshRequest_booths, setOwner_get, if_neg ne, taken]

variable {h}

/-- The booth pass-on, told of the hall `h₀` in which the event began (R52). -/
theorem boothPassOn_passedOn {h₀ : Hall} {b : BoothId} {f : ChannelId → Option ConsoleId} {l : ChannelId → List WaitEntry}
    {g : List ConsoleId} (settings : h.settings = h₀.settings) (clock : h.clock = h₀.clock) (day : h.dayOpen = h₀.dayOpen)
    (queue : h.booths[b].queue = h₀.booths[b].queue) (targets : ∀ y ∈ h₀.booths[b].queue, h.target y = h₀.target y)
    (feeders : ∀ x : ChannelId, h.channels[x].feeder = f x) (lists : ∀ x : ChannelId, h.waitLists[x] = l x)
    (grants : h.work.granted = g) (apart : ∀ x, ∀ e ∈ l x, e.console ∉ h₀.booths[b].queue) :
    h₀.passedOn (boothPassOn b h) b f l g := by
  unfold Hall.passedOn
  dsimp only
  cases q : h₀.booths[b].queue with
  | nil =>
    rw [boothPassOn_nil h (queue.trans q)]
    refine ⟨(setOwner_queue ..).trans (queue.trans q), ?_, grants, fun x => ⟨feeders x, lists x⟩⟩
    rw [setOwner_get, if_pos rfl]
  | cons y rest =>
    have mem : y ∈ h₀.booths[b].queue := q ▸ .head _
    have shorter : (headTaken h b y rest).booths[b] = { h.booths[b] with queue := rest, owner := none } :=
      (modBooth_get ..).trans (if_pos rfl)
    have run : (headTaken h b y rest).consoles[y] = { h.consoles[y] with handoverExpiry := none } :=
      (modConsole_get ..).trans (if_pos rfl)
    cases t : h₀.target y with
    | none =>
      rw [boothPassOn_none h (queue.trans q) ((targets y mem).trans t)]
      refine ⟨congrArg BoothRun.queue shorter, ?_⟩
      rw [t]
      refine ⟨⟨congrArg BoothRun.owner shorter, grants,
        fun x => ⟨feeders x, lists x⟩⟩, ?_, ?_⟩
      · rw [modConsole_get, if_pos rfl]
      · rw [modConsole_get, if_pos rfl, run]
    | some t' =>
      rw [boothPassOn_some h (queue.trans q) ((targets y mem).trans t)]
      refine ⟨by rw [freshRequest_booths, setOwner_queue, shorter], ?_⟩
      rw [t]
      exact freshRequest_requested (headTaken h b y rest) settings clock day feeders lists grants
        (congrArg ConsoleRun.handoverExpiry run) fun e m same => apart t' e m (same ▸ mem)

end

/-! ### Releases -/

section
variable {h : Hall} {a : ConsoleId} {b : BoothId} {c : ChannelId}

/-- The blocks as the release of a speaking console gives up its channel and its booth (R50, steps 1 to 4). -/
def steppedOff (h : Hall) (a : ConsoleId) (v : ConsoleState) (b : BoothId) : Hall := setOwner b none (stepDown a v h)

theorem releaseChannel_eq (feeds : h.feeds a = some c) (v : ConsoleState) :
    releaseChannel a v b h = passed (steppedOff h a v b) c := by
  unfold releaseChannel
  rw [feeds]
  rfl

theorem release_eq (p : h.floorOf a b c) (v : ConsoleState) :
    release a v h = boothPassOn b (passed (steppedOff h a v b) c) := by
  unfold release
  rw [p.booth]
  dsimp only
  rw [releaseChannel_eq p.feeds]

section
variable (v : ConsoleState)

theorem steppedOff_settings : (steppedOff h a v b).settings = h.settings := stepDown_settings h a v
theorem steppedOff_clock : (steppedOff h a v b).clock = h.clock := stepDown_clock h a v
theorem steppedOff_lists : (steppedOff h a v b).waitLists = h.waitLists := stepDown_waitLists h a v
theorem steppedOff_feeder (x : ChannelId) : (steppedOff h a v b).channels[x].feeder = h.channels[x].feeder := by
  show (stepDown a v h).channels[x].feeder = _
  rw [stepDown_channels]
theorem steppedOff_granted : (steppedOff h a v b).work.granted = h.work.granted := stepDown_granted h a v
theorem steppedOff_dayOpen : (steppedOff h a v b).dayOpen = h.dayOpen := stepDown_dayOpen h a v
theorem steppedOff_get (x : ConsoleId) : (steppedOff h a v b).consoles[x] =
    if a = x then downRun v h.consoles[x] else h.consoles[x] := stepDown_get h a x v
theorem steppedOff_queue (x : BoothId) : (steppedOff h a v b).booths[x].queue = h.booths[x].queue := by
  unfold steppedOff
  rw [setOwner_queue, stepDown_booths]

theorem steppedOff_feedersPassed : (steppedOff h a v b).feedersPassed c = h.feedersPassed c := by
  funext x
  unfold Hall.feedersPassed
  rw [steppedOff_lists, steppedOff_feeder]

theorem steppedOff_listsPassed : (steppedOff h a v b).listsPassed c = h.listsPassed c := by
  funext x
  unfold Hall.listsPassed
  rw [steppedOff_lists]

theorem steppedOff_grantsPassed : (steppedOff h a v b).grantsPassed c = h.grantsPassed c := by
  unfold Hall.grantsPassed
  rw [steppedOff_lists, steppedOff_granted]

/-- A console that has stepped down and is left alone afterwards (R38, R50). -/
theorem steppedDown_of {k : Hall} (booth : h.boothOf a = some b) (run : k.consoles[a] = downRun v h.consoles[a])
    (live : k.account.consoleLive = (stepDown a v h).account.consoleLive)
    (minutes : k.account.booths[b].live = (stepDown a v h).account.booths[b].live) : h.steppedDown k a b v := by
  obtain ⟨console, at_booth⟩ := stepDown_minutes h a v
  unfold Hall.steppedDown
  dsimp only
  rw [run, live, minutes, at_booth b booth]
  exact ⟨rfl, rfl, rfl, rfl, rfl, console, rfl⟩

/-- The entries of a list that is passed on stand on it before. -/
theorem mem_listsPassed {x : ChannelId} {e : WaitEntry} (m : e ∈ h.listsPassed c x) : ∃ y : ChannelId, e ∈ h.waitLists[y] := by
  unfold Hall.listsPassed at m
  split at m
  · exact ⟨c, List.mem_of_mem_tail m⟩
  · exact ⟨x, m⟩

theorem head_mem {e : WaitEntry} (head : h.waitLists[c].head? = some e) : e ∈ h.waitLists[c] :=
  List.mem_of_mem_head? head

/-- After the channel of a console that stepped off was passed on, each channel stands as R51 says. -/
theorem releaseChannel_passed (p : h.floorOf a b c) :
    let j := passed (steppedOff h a v b) c
    (∀ x : ChannelId, j.channels[x].feeder = h.feedersPassed c x ∧ j.waitLists[x] = h.listsPassed c x) ∧
      j.work.granted = h.grantsPassed c ∧ j.booths[b].queue = h.booths[b].queue ∧ j.consoles[a] = downRun v h.consoles[a] ∧
      h.headGranted j c := by
  have lists : (steppedOff h a v b).waitLists = h.waitLists := steppedOff_lists v
  refine ⟨fun x => ⟨?_, ?_⟩, ?_, ?_, ?_, passed_headGranted (steppedOff_settings v) (steppedOff_clock v) lists⟩
  · rw [passed_feeder, steppedOff_feedersPassed]
  · rw [passed_lists (by rw [lists]; exact p.lists c), steppedOff_listsPassed]
  · rw [passed_granted, steppedOff_grantsPassed]
  · rw [passed_queue, steppedOff_queue]
  · rw [passed_console fun e m => (p.entries c e (lists ▸ m)).1, steppedOff_get, if_pos rfl]

/-- Outputs stand, but of the console that a grant concerns, whose output stands too. -/
theorem passed_target (h₁ : Hall) (c : ChannelId) (y : ConsoleId) : (passed h₁ c).target y = h₁.target y := by
  refine target_congr (steady_passed h₁ c).settings ?_
  cases l : h₁.waitLists[c] with
  | nil => rw [passed_nil l]; rfl
  | cons e rest =>
    rw [passed_cons l, grant_get]
    split <;> rfl

theorem steppedOff_target (y : ConsoleId) : (steppedOff h a v b).target y = h.target y := by
  refine target_congr (steppedOff_settings v) ?_
  rw [steppedOff_get]
  split <;> rfl

/-- The release of a speaking console, with both pass-ons (R50 to R52). -/
theorem release_passesOn (p : h.floorOf a b c) :
    h.steppedDown (release a v h) a b v ∧ h.headGranted (release a v h) c ∧
      h.passedOn (release a v h) b (h.feedersPassed c) (h.listsPassed c) (h.grantsPassed c) ∧
      (release a v h).account = (stepDown a v h).account ∧ Steady (steppedOff h a v b) (release a v h) := by
  obtain ⟨channels, grants, queue, run, head⟩ := releaseChannel_passed v p
  have steady := (steady_passed (steppedOff h a v b) c).trans (steady_boothPassOn _ b)
  have settings : (passed (steppedOff h a v b) c).settings = h.settings :=
    (steady_passed _ c).settings.trans (steppedOff_settings v)
  have account : (boothPassOn b (passed (steppedOff h a v b) c)).account = (stepDown a v h).account := steady.account
  rw [release_eq p]
  refine ⟨steppedDown_of v p.booth ?_ (by rw [account]) (by rw [account]), ?_, ?_, account, steady⟩
  · rw [boothPassOn_console _ (by rw [queue]; exact p.absent), run]
  · refine headGranted_congr head (fun e first => ?_) fun e first => ?_
    · rw [boothPassOn_booth _ (Ne.symm (p.entries c e (head_mem first)).2.1)]
    · rw [boothPassOn_console _ (by rw [queue]; exact (p.entries c e (head_mem first)).2.2)]
  · refine boothPassOn_passedOn settings ((steady_passed _ c).clock.trans (steppedOff_clock v))
      ((steady_passed _ c).dayOpen.trans (steppedOff_dayOpen v)) queue (fun y _ => ?_) (fun x => (channels x).1)
      (fun x => (channels x).2) grants fun x e m => ?_
    · rw [passed_target, steppedOff_target]
    · obtain ⟨y, mem⟩ := mem_listsPassed m
      exact (p.entries y e mem).2.2

end

/-! ### The end of a wait -/

/-- The run of a console whose wait ends in state `v`. -/
def unwaitRun (v : ConsoleState) (r : ConsoleRun) : ConsoleRun :=
  { r with state := v, handoverExpiry := none, engagedFlash := none }

theorem endWait_queued (v : ConsoleState) (booth : h.boothOf a = some b) (queued : a ∈ h.booths[b].queue) :
    endWait a v h = (h.modConsole a (unwaitRun v)).modBooth b fun x => { x with queue := x.queue.filter fun y => y != a } := by
  unfold endWait
  rw [booth]
  exact if_pos queued

theorem endWait_listed (v : ConsoleState) (booth : h.boothOf a = some b) (absent : a ∉ h.booths[b].queue)
    (waits : h.waitsOn a = some c) :
    endWait a v h = boothPassOn b (setOwner b none (dropEntry c a (h.modConsole a (unwaitRun v)))) := by
  unfold endWait
  rw [booth]
  dsimp only
  rw [if_neg absent, waits]
  rfl

theorem dropEntry_get (k : Hall) (c x : ChannelId) (a : ConsoleId) : (dropEntry c a k).waitLists[x] =
    if x = c then k.waitLists[c].filter (fun e => e.console != a) else k.waitLists[x] := by
  rw [dropEntry, modWaitList_get]
  by_cases e : x = c
  · rw [if_pos e, if_pos e.symm, e]
  · rw [if_neg e, if_neg (Ne.symm e)]

/-- The end of a wait on a channel's list, with the booth pass-on (R53). -/
theorem endWait_passesOn (v : ConsoleState) (p : h.waitOf a b c) :
    (endWait a v h).consoles[a] = unwaitRun v h.consoles[a] ∧
      h.passedOn (endWait a v h) b (fun x => h.channels[x].feeder)
        (fun x => if x = c then h.waitLists[c].filter fun e => e.console != a else h.waitLists[x]) h.work.granted ∧
      Steady h (endWait a v h) := by
  have queue : (setOwner b none (dropEntry c a (h.modConsole a (unwaitRun v)))).booths[b].queue = h.booths[b].queue :=
    setOwner_queue ..
  rw [endWait_listed v p.booth p.absent p.waitsOn]
  refine ⟨?_, boothPassOn_passedOn rfl rfl rfl queue (fun y m => target_congr rfl ?_) (fun x => rfl)
    (fun x => dropEntry_get _ c x a) rfl fun x e m => ?_, ?_⟩
  · rw [boothPassOn_console _ (by rw [queue]; exact p.absent)]
    exact (modConsole_get ..).trans (if_pos rfl)
  · refine congrArg ConsoleRun.output ((modConsole_get ..).trans (if_neg ?_))
    exact fun e => p.absent (e ▸ m)
  · split at m
    · exact p.entries c e (List.mem_of_mem_filter m)
    · exact p.entries x e m
  · exact (((steady_modConsole h a _).trans (steady_dropEntry _ c a)).trans (steady_setOwner _ b none)).trans
      (steady_boothPassOn _ b)

end

end Sys2Proof.StepProofs
end

-- ==== Proofs: Posted ====
section
/-! PROOFS. A notice once posted stays posted to the end of its event: no reporting operation takes one back (R162). -/

namespace Sys2Proof.StepProofs

open Machine

/-- `k` is reached from `h` with the notices posted so far still posted, in their order. -/
def Posted (h k : Hall) : Prop := h.work.posts <+: k.work.posts

theorem Posted.refl (h : Hall) : Posted h h := List.prefix_rfl
theorem Posted.trans {h k l : Hall} (p : Posted h k) (q : Posted k l) : Posted h l := List.IsPrefix.trans p q
theorem Posted.mem {h k : Hall} (p : Posted h k) {n : Notice} (m : n ∈ h.work.posts) : n ∈ k.work.posts := p.subset m

theorem posted_same {h k : Hall} (e : k.work.posts = h.work.posts) : Posted h k := by
  unfold Posted
  rw [e]

theorem Posted.foldl {α : Type} {f : Hall → α → Hall} (hf : ∀ h x, Posted h (f h x)) (l : List α) (h : Hall) :
    Posted h (l.foldl f h) := foldl_keeps Posted.refl Posted.trans hf l h

section
variable (h : Hall)

theorem posted_post (cls kind subject value) : Posted h (h.post cls kind subject value) := List.prefix_append _ _

theorem posted_modBooth (b f) : Posted h (h.modBooth b f) := posted_same rfl
theorem posted_modChannel (c f) : Posted h (h.modChannel c f) := posted_same rfl
theorem posted_setWaiting (l) : Posted h (h.setWaiting l) := posted_same rfl
theorem posted_giveCarrier (k c) : Posted h (giveCarrier k c h) := posted_same rfl
theorem posted_air (a) : Posted h { h with air := a } := posted_same rfl
theorem posted_levels (l) : Posted h { h with levels := l } := posted_same rfl
theorem posted_touched (l) : Posted h { h with work := { h.work with touched := l } } := posted_same rfl

theorem mem_post (cls kind subject value) :
    (⟨cls, kind, subject, h.now, value, false⟩ : Notice) ∈ (h.post cls kind subject value).work.posts :=
  List.mem_append_right _ (.head _)

theorem posted_presetTest (m) : Posted h (presetTest m h) := by
  unfold presetTest
  dsimp only
  split
  · exact posted_post h _ _ _ _
  · exact .refl h

theorem posted_fullTest (m) : Posted h (fullTest m h) := by
  unfold fullTest
  dsimp only
  split
  · exact posted_post h _ _ _ _
  · exact .refl h

theorem posted_raiseCount (m) : Posted h (raiseCount m h) := by
  unfold raiseCount
  split
  · exact (posted_presetTest (h.modMeter m fun r => { r with count := r.count + 1 }) m).trans (posted_fullTest _ m)
  · exact .refl h

theorem posted_meterEvent (e) : Posted h (meterEvent e h) := by
  refine Posted.foldl (fun k m => ?_) _ _
  unfold offerEvent
  dsimp only
  split
  · split
    · exact posted_raiseCount k m
    · exact .refl k
  · exact .refl k

theorem posted_meterLevelChange (k v) : Posted h (meterLevelChange k v h) := by
  unfold meterLevelChange
  split
  · exact .refl h
  · unfold meterLevel
    refine (posted_levels h _).trans (Posted.foldl (fun g m => ?_) _ _)
    unfold offerLevel
    dsimp only
    split <;> exact .refl g

theorem posted_spells (c) : Posted h (h.spells c) := by
  unfold Hall.spells
  dsimp only
  split <;> exact .refl h

theorem posted_reviewChannel (c) : Posted h (reviewChannel h c) := (posted_spells h c).trans (posted_meterLevelChange _ _ _)

theorem posted_joinWait (c) : Posted h (joinWait c h) :=
  (posted_post (h.setWaiting (insertBy h.outranks c h.air.waiting)) _ _ _ _).trans (posted_meterEvent _ _)

theorem posted_postEvict (k e) : Posted h (postEvict k e h) := (posted_post h _ _ _ _).trans (posted_meterEvent _ _)

theorem posted_offer {c : ChannelId} {k : Hall} (e : offer c h = some k) : Posted h k := by
  unfold offer at e
  split at e
  · rw [← Option.some.inj e]; exact posted_giveCarrier h _ _
  · split at e
    · rw [← Option.some.inj e]; exact posted_giveCarrier h _ _
    · split at e
      · rw [← Option.some.inj e]; exact (posted_postEvict h _ _).trans (posted_giveCarrier _ _ _)
      · split at e
        · rw [← Option.some.inj e]
          exact ((posted_postEvict h _ _).trans (posted_giveCarrier _ _ _)).trans (posted_joinWait _ _)
        · cases e

theorem posted_requestCarrier (c) : Posted h (requestCarrier c h) := by
  unfold requestCarrier
  split
  · exact posted_offer h ‹_›
  · exact posted_joinWait h c

theorem posted_serveList (n : Nat) : Posted h (serveList n h) := by
  induction n generalizing h with
  | zero => exact .refl h
  | succ n ih =>
    unfold serveList
    split
    · exact .refl h
    · split
      · exact ((posted_setWaiting h _).trans (posted_offer _ ‹_›)).trans (ih _)
      · exact .refl h

theorem posted_allocReport (before) : Posted h (allocReport before h) := by
  have raised : ∀ k : Hall, (raiseGeneration k).work.posts = k.work.posts := by
    intro k
    unfold raiseGeneration
    split <;> rfl
  unfold allocReport handInUse
  exact (((Posted.foldl posted_reviewChannel _ h).trans (posted_same (raised _))).trans (posted_air _ _)).trans
    (posted_meterLevelChange _ _ _)

theorem posted_allocEvent {act : Hall → Hall} (p : Posted h (act h)) : Posted h (allocEvent act h) :=
  (p.trans (posted_serveList _ _)).trans (posted_allocReport _ _)

theorem resumeCarrier_posts (k) : (resumeCarrier k h).work.posts = h.work.posts := by
  unfold resumeCarrier
  split <;> rfl

theorem beginHold_posts (k) : (beginHold k h).work.posts = h.work.posts := by
  unfold beginHold
  split
  · split <;> rfl
  · rfl

theorem posted_serviceReport (c v) : Posted h (serviceReport c v h) := by
  unfold serviceReport
  split
  · split
    · exact .refl h
    · exact posted_requestCarrier h c
  · exact .refl h
  · exact posted_same (resumeCarrier_posts h _)
  · exact posted_same (resumeCarrier_posts h _)
  · split
    · exact .refl h
    · exact posted_same (beginHold_posts h _)
  · exact .refl h

theorem endFallbackSpell_posts (b) : (endFallbackSpell b h).work.posts = h.work.posts := by
  unfold endFallbackSpell
  split <;> rfl

theorem openFallbackSpell_posts (b) : (openFallbackSpell b h).work.posts = h.work.posts := by
  unfold openFallbackSpell
  split <;> rfl

theorem posted_endFallbackSpell (b) : Posted h (endFallbackSpell b h) := posted_same (endFallbackSpell_posts h b)
theorem posted_openFallbackSpell (b) : Posted h (openFallbackSpell b h) := posted_same (openFallbackSpell_posts h b)

theorem posted_resolveBooth (b) : Posted h (resolveBooth h b) := by
  unfold resolveBooth
  split
  · exact (((posted_modBooth h b _).trans (posted_post _ _ _ _ _)).trans (posted_meterEvent _ _)).trans
      (posted_openFallbackSpell _ _)
  · exact ((posted_modBooth h b _).trans (posted_post _ _ _ _ _)).trans
      (posted_endFallbackSpell _ _)
  · exact posted_modBooth h b _
  · exact .refl h

theorem posted_reevaluate (c) : Posted h (reevaluate h c) := by
  unfold reevaluate
  dsimp only
  split
  · exact posted_reviewChannel h c
  · unfold resolveListing
    exact (((posted_modChannel h c _).trans (posted_reviewChannel _ c)).trans
      (posted_allocEvent _ (posted_serviceReport _ _ _))).trans (Posted.foldl posted_resolveBooth _ _)

theorem posted_settle : Posted h (settle h) := by
  unfold settle resolveAll reportFeeders
  exact (((posted_touched h _).trans
    (Posted.foldl posted_reevaluate _ _)).trans (Posted.foldl posted_resolveBooth _ _)).trans (posted_meterLevelChange _ _ _)

end

end Sys2Proof.StepProofs
end

-- ==== Proofs: Keys ====
section
/-! PROOFS. The console bus: a poll's good answer and the keys it gives, a bad answer, a probe, READMIT CONSOLE (R27 to
R37), and the events that end a place at the interlock (R50, R53, R56, R61). -/

namespace Sys2Proof.StepProofs

open Machine

theorem kept_metered {h k : Hall} (p : Metered h k) : h.Kept k := by
  unfold Metered at p
  rw [p]
  exact ⟨rfl, rfl, rfl, rfl, rfl, rfl, rfl, fun _ => rfl, fun _ => rfl, fun _ => rfl, fun _ => rfl, fun _ => rfl,
    fun _ => rfl, rfl, rfl, rfl, rfl, rfl, rfl, fun _ => rfl, fun _ => rfl, rfl, rfl, rfl, rfl, rfl⟩

theorem mem_logFault (h : Hall) (code subject) {n : Nat} (now : h.now = n) :
    (⟨n, code, subject⟩ : FaultEntry) ∈ (h.logFault code subject).work.faults :=
  now ▸ List.mem_append_right _ (.head _)

/-! ### The end of an exchange -/

section
variable {s : State} {h : Hall} {a : ConsoleId}

theorem afterExchange_get (r : ConsoleRun) : (h.afterExchange a r).consoles[a] = r := vset_same ..

theorem afterExchange_mod (r : ConsoleRun) (f : ConsoleRun → ConsoleRun) :
    (h.afterExchange a r).modConsole a f = h.afterExchange a (f r) := by
  unfold Hall.afterExchange Hall.modConsole vmod
  dsimp only
  rw [vset_vset, vset_same]

theorem takePollAnswer_polled (p : s.exchanges .poll a) (polled : s.hall.consoles[a].state.polled = true)
    (addr : Nat) (check : Bool) (keys : Keys) :
    takePollAnswer addr check keys s.hall = pollEnd a (goodAnswer a addr check keys) (endExchange s.hall) := by
  obtain ⟨-, -, lamps, current⟩ := p
  unfold takePollAnswer exchangeEnd
  rw [current]
  dsimp only
  rw [if_pos rfl, if_neg Bool.false_ne_true, if_pos polled]

theorem takeWindowEnd_polled (p : s.exchanges .poll a) (polled : s.hall.consoles[a].state.polled = true) :
    takeWindowEnd s.hall = pollEnd a none (endExchange s.hall) := by
  obtain ⟨-, -, lamps, current⟩ := p
  unfold takeWindowEnd exchangeEnd
  rw [current]
  dsimp only
  rw [if_neg Bool.false_ne_true, if_pos polled]

theorem goodAnswer_bad {addr : Nat} {check : Bool} {keys : Keys}
    (bad : ¬(addr = numOf a ∧ check = true ∧ keys.decodes = true)) : goodAnswer a addr check keys = none := if_neg bad

/-- A bad answer to a poll, or none by the close of the window, ends the poll without a key state (R28). -/
theorem badPoll_takes {i : Instr} (p : s.exchanges .poll a) (polled : s.hall.consoles[a].state.polled = true)
    (bad : i = .answerWindowClose ∨ ∃ addr check keys, i = .pollAnswer addr check keys ∧
      ¬(addr = numOf a ∧ check = true ∧ keys.decodes = true)) :
    s.takesEvent i (pollEnd a none (endExchange s.hall)) := by
  rcases bad with rfl | ⟨addr, check, keys, rfl, bad⟩
  · rw [← takeWindowEnd_polled p polled]
    exact takesEvent_of p.1 rfl
  · rw [← goodAnswer_bad bad, ← takePollAnswer_polled p polled]
    exact takesEvent_of p.1 rfl

/-! ### Debouncing (R30) -/

/-- A poll's good answer is debounced with the bad count cleared (R28, R30). -/
theorem goodPoll_takes {k : Keys} (p : s.exchanges .poll a) (polled : s.hall.consoles[a].state.polled = true)
    (decodes : k.decodes = true) :
    s.takesEvent (.pollAnswer (numOf a) true k)
      (debounce a k (s.hall.afterExchange a { s.hall.consoles[a] with bad := 0 })) := by
  have good : goodAnswer a (numOf a) true k = some k := if_pos ⟨rfl, rfl, decodes⟩
  have taken : takePollAnswer (numOf a) true k s.hall =
      debounce a k (s.hall.afterExchange a { s.hall.consoles[a] with bad := 0 }) := by
    rw [takePollAnswer_polled p polled, good]
    rfl
  rw [← taken]
  exact takesEvent_of p.1 rfl

variable {r : ConsoleRun} {k old : Keys}

theorem debounce_first (e : r.accepted = none) : debounce a k (h.afterExchange a r) =
    h.afterExchange a { r with accepted := some k, candidate := none } := by
  unfold debounce
  rw [afterExchange_get]
  dsimp only
  rw [e]
  exact afterExchange_mod r _

theorem debounce_candidate (e : r.accepted = some old) (c : ∀ x, r.candidate = some x → k ≠ x) :
    debounce a k (h.afterExchange a r) = h.afterExchange a { r with
      accepted := some old, candidate := if k = old then none else some k } := by
  unfold debounce
  rw [afterExchange_get]
  dsimp only
  rw [e]
  dsimp only
  cases cand : r.candidate with
  | none =>
    dsimp only
    by_cases same : k = old
    · rw [if_pos same, if_pos same, ← cand, ← e]
    · rw [if_neg same, if_neg same, afterExchange_mod, ← e]
  | some x =>
    dsimp only
    rw [if_neg (c x cand)]
    by_cases same : k = old
    · rw [if_pos same, if_pos same, afterExchange_mod, ← e]
    · rw [if_neg same, if_neg same, afterExchange_mod, ← e]

theorem debounce_accepts (e : r.accepted = some old) (c : r.candidate = some k) :
    debounce a k (h.afterExchange a r) =
      (keyEvents old k).foldl (takeKey a) (h.afterExchange a { r with accepted := some k, candidate := none }) := by
  unfold debounce
  rw [afterExchange_get]
  dsimp only
  rw [e]
  dsimp only
  rw [c]
  dsimp only
  rw [if_pos rfl, afterExchange_mod]

theorem keyEvents_none (mute : old.mute = k.mute) (talk : k.talk = true → old.talk = true)
    (outA : k.outA = true → old.outA = true) (outB : k.outB = true → old.outB = true)
    (next : k.relayNext = true → old.relayNext = true) (handover : k.handover = true → old.handover = true) :
    keyEvents old k = [] := by
  have quiet : ∀ x y : Bool, (y = true → x = true) → (!x && y) = false := by decide
  unfold keyEvents
  rw [mute, quiet _ _ talk, quiet _ _ outA, quiet _ _ outB, quiet _ _ next, quiet _ _ handover]
  cases k.mute <;> rfl

end

/-- Settles O43: the rows of R30, by the accepted and the candidate state. -/
theorem pollDebounce : Obligations.PollDebounce := by
  intro s a k p polled decodes
  have taken := goodPoll_takes p polled decodes
  let r := { s.hall.consoles[a] with bad := 0 }
  refine ⟨fun e => ?_, fun old e c => ?_, fun old c e cand ne => ?_, fun old e c mute talk outA outB next handover => ?_⟩
  · rwa [debounce_first (r := r) e] at taken
  · rw [debounce_candidate (r := r) e fun x cand => by rw [show s.hall.consoles[a].candidate = none from c] at cand; cases cand] at taken
    exact taken
  · rw [debounce_candidate (r := r) e fun x candidate => by rwa [← Option.some.inj (cand.symm.trans candidate)]] at taken
    exact taken
  · rwa [debounce_accepts (r := r) e c, keyEvents_none mute talk outA outB next handover] at taken

/-! ### Key events (R31) -/

/-- What one key event does, before the booth controller settles. -/
def keyPress (a : ConsoleId) (e : KeyEvent) (h : Hall) : Hall :=
  match e with
  | .muteRelease => muteRelease a h
  | .mutePress => mutePress a h
  | .talk => talkPress a h
  | .handover => handoverPress a h
  | .output o => outputPress a o h
  | .relayNext => relayNextPress a h

section
variable {s : State} {a : ConsoleId} {old k : Keys}

/-- One key event, taken by a console that is polled, in the event of the poll that accepts it (R31). -/
theorem keyEvent_takes {e : KeyEvent} (p : s.exchanges .poll a) (accepted : s.hall.consoles[a].accepted = some old)
    (candidate : s.hall.consoles[a].candidate = some k) (decodes : k.decodes = true)
    (polled : s.hall.consoles[a].state.polled = true) (single : keyEvents old k = [e]) :
    s.takesEvent (.pollAnswer (numOf a) true k) (settle (keyPress a e (s.hall.keysAccepted a k))) := by
  have taken := goodPoll_takes p polled decodes
  rw [debounce_accepts (r := { s.hall.consoles[a] with bad := 0 }) accepted candidate, single] at taken
  have still : (s.hall.afterExchange a { s.hall.consoles[a] with
      bad := 0, accepted := some k, candidate := none }).consoles[a].state.polled = true := by
    rw [afterExchange_get]
    exact polled
  have one : takeKey a (s.hall.afterExchange a { s.hall.consoles[a] with
      bad := 0, accepted := some k, candidate := none }) e = settle (keyPress a e (s.hall.keysAccepted a k)) := by
    unfold takeKey
    rw [if_pos still]
    rfl
  rwa [List.foldl_cons, List.foldl_nil, one] at taken

theorem pressTakes_of {e : KeyEvent} (p : s.accepts a old k) (single : keyEvents old k = [e]) :
    s.pressTakes a k (keyPress a e (s.hall.keysAccepted a k)) := by
  obtain ⟨exchange, accepted, candidate, decodes, polled⟩ := p
  exact ⟨_, keyEvent_takes exchange accepted candidate decodes polled single, kept_settle _⟩

theorem keyEvents_talk (up : old.talk = false) : keyEvents old { old with talk := true } = [.talk] := by
  simp [keyEvents, up]

theorem keyEvents_handover (up : old.handover = false) : keyEvents old { old with handover := true } = [.handover] := by
  simp [keyEvents, up]

theorem keyEvents_outA (up : old.outA = false) : keyEvents old { old with outA := true } = [.output .a] := by
  simp [keyEvents, up]

theorem keyEvents_outB (up : old.outB = false) : keyEvents old { old with outB := true } = [.output .b] := by
  simp [keyEvents, up]

theorem keyEvents_relayNext (up : old.relayNext = false) : keyEvents old { old with relayNext := true } = [.relayNext] := by
  simp [keyEvents, up]

theorem keyEvents_mute (up : old.mute = false) : keyEvents old { old with mute := true } = [.mutePress] := by
  simp [keyEvents, up]

theorem keyEvents_unmute (down : old.mute = true) : keyEvents old { old with mute := false } = [.muteRelease] := by
  simp [keyEvents, down]

end

/-! ### Bad answers (R32, R33) -/

section
variable {s : State} {h : Hall} {a : ConsoleId}

/-- The run of a console that takes a fault entry, but for the state it leaves (R32). -/
def faultedRun (h : Hall) (r : ConsoleRun) : ConsoleRun :=
  { r with
    bad := 0
    candidate := none
    accepted := none
    isolation := r.isolation + 1
    goodExpiry := none
    goodStart := none
    good := 0
    engagedFlash := none
    probeDue := false
    probeTimer := if 8 ≤ r.isolation + 1 then none else some (h.tenths + 50) }

/-- The state that a fault entry leaves a console in: FAULT, or at its eighth isolation QUARANTINED (R32, R37). -/
def faultState (r : ConsoleRun) : ConsoleState := if 8 ≤ r.isolation + 1 then .quarantined else .fault

theorem pollEnd_bad (few : h.consoles[a].bad < 2) : pollEnd a none (endExchange h) =
    h.afterExchange a { h.consoles[a] with bad := h.consoles[a].bad + 1, candidate := none } := by
  unfold pollEnd
  have low : ¬ 3 ≤ (endExchange h).consoles[a].bad + 1 := by
    show ¬ 3 ≤ h.consoles[a].bad + 1
    omega
  rw [if_neg low]
  rfl

theorem pollEnd_third (third : 2 ≤ h.consoles[a].bad) : pollEnd a none (endExchange h) =
    faultEntry a (h.afterExchange a { h.consoles[a] with bad := h.consoles[a].bad + 1, candidate := none }) := by
  unfold pollEnd
  have high : 3 ≤ (endExchange h).consoles[a].bad + 1 := by
    show 3 ≤ h.consoles[a].bad + 1
    omega
  rw [if_pos high]
  rfl

/-- What is told of a fault entry: the notice, the fault log, and the meter unit of a console that has a booth (R32). -/
def faultTold (o : Option BoothId) (a : ConsoleId) (iso : Nat) (k : Hall) : Hall :=
  match o with
  | some b => meterEvent (boothEvent .consoleFault b none) ((k.post .fault .consoleFault (numOf a) iso).logFault .consoleFault (numOf a))
  | none => (k.post .fault .consoleFault (numOf a) iso).logFault .consoleFault (numOf a)

theorem kept_faultTold (o : Option BoothId) (iso : Nat) (k : Hall) : k.Kept (faultTold o a iso k) := by
  have logged := (kept_post k .fault .consoleFault (numOf a) iso).trans (kept_logFault _ .consoleFault (numOf a))
  cases o with
  | none => exact logged
  | some b => exact logged.trans (kept_meterEvent _ _)

theorem posted_faultTold (o : Option BoothId) (iso : Nat) (k : Hall) :
    Posted (k.post .fault .consoleFault (numOf a) iso) (faultTold o a iso k) := by
  have logged : Posted (k.post .fault .consoleFault (numOf a) iso)
      ((k.post .fault .consoleFault (numOf a) iso).logFault .consoleFault (numOf a)) := posted_same rfl
  cases o with
  | none => exact logged
  | some b => exact logged.trans (posted_meterEvent _ _)

theorem faultTold_faults (o : Option BoothId) (iso : Nat) (k : Hall) :
    (faultTold o a iso k).work.faults = (k.logFault .consoleFault (numOf a)).work.faults := by
  unfold faultTold
  cases o with
  | none => rfl
  | some b =>
    dsimp only
    rw [(metered_meterEvent _ _).faults]
    rfl

/-- A fault entry: the booth controller takes the report and settles, then the notice and the fault entry (R32, R33). -/
theorem faultEntry_kept (r : ConsoleRun) :
    (reportFault a (faultState r) (h.afterExchange a (faultedRun h r))).Kept (faultEntry a (h.afterExchange a r)) ∧
      (⟨.fault, .consoleFault, numOf a, h.now, r.isolation + 1, false⟩ : Notice) ∈
        (faultEntry a (h.afterExchange a r)).work.posts ∧
      (⟨h.now, .consoleFault, numOf a⟩ : FaultEntry) ∈ (faultEntry a (h.afterExchange a r)).work.faults := by
  have entered : faultEntry a (h.afterExchange a r) = faultTold (h.boothOf a) a (r.isolation + 1)
      (settle (reportFault a (faultState r) (h.afterExchange a (faultedRun h r)))) := by
    unfold faultEntry faultTold
    rw [afterExchange_get]
    dsimp only
    rw [afterExchange_mod]
    rfl
  have settled := kept_settle (reportFault a (faultState r) (h.afterExchange a (faultedRun h r)))
  have now : (settle (reportFault a (faultState r) (h.afterExchange a (faultedRun h r)))).now = h.now :=
    ((stays_reportFault _ a _).trans (stays_settle _)).minute
  rw [entered]
  generalize settle (reportFault a (faultState r) (h.afterExchange a (faultedRun h r))) = k at settled now
  rw [← now]
  refine ⟨settled.trans (kept_faultTold ..), (posted_faultTold ..).mem (mem_post ..), ?_⟩
  rw [faultTold_faults]
  exact mem_logFault k .consoleFault (numOf a) rfl

theorem reportFault_idle {v : ConsoleState} {r : ConsoleRun} (idle : r.state = .idle) :
    reportFault a v (h.afterExchange a r) = h.afterExchange a { r with state := v } := by
  unfold reportFault
  rw [afterExchange_get, idle]
  exact afterExchange_mod r _

theorem faultEntry_idle (r : ConsoleRun) (idle : r.state = .idle) :
    (h.afterExchange a { faultedRun h r with state := faultState r }).Kept (faultEntry a (h.afterExchange a r)) ∧
      (⟨.fault, .consoleFault, numOf a, h.now, r.isolation + 1, false⟩ : Notice) ∈
        (faultEntry a (h.afterExchange a r)).work.posts ∧
      (⟨h.now, .consoleFault, numOf a⟩ : FaultEntry) ∈ (faultEntry a (h.afterExchange a r)).work.faults := by
  have entry := faultEntry_kept (h := h) (a := a) r
  rwa [reportFault_idle (r := faultedRun h r) idle] at entry

theorem reportFault_speaks {v : ConsoleState} (speaks : h.consoles[a].state.onChannel = true) :
    reportFault a v h = release a v h := by
  unfold reportFault
  cases e : h.consoles[a].state with
  | live | muted => rfl
  | absent | idle | requesting | fault | quarantined =>
    rw [e] at speaks
    cases speaks

theorem reportFault_waits {v : ConsoleState} (waits : h.consoles[a].state = .requesting) :
    reportFault a v h = endWait a v h := by
  unfold reportFault
  rw [waits]

end

/-! ### Probes, and READMIT CONSOLE (R34, R35, R37) -/

section
variable {s : State} {tag : Tag} {a : ConsoleId}

theorem takeProbeAnswer_fault (p : s.exchanges .probe a) (fault : s.hall.consoles[a].state = .fault)
    (addr : Nat) (check : Bool) (keys : Keys) :
    takeProbeAnswer addr check keys s.hall = probeEnd a (goodAnswer a addr check keys) (endExchange s.hall) := by
  obtain ⟨-, -, lamps, current⟩ := p
  unfold takeProbeAnswer exchangeEnd
  rw [current]
  dsimp only
  rw [if_pos rfl, if_neg Bool.false_ne_true, if_pos fault]

theorem takeWindowEnd_probe (p : s.exchanges .probe a) (fault : s.hall.consoles[a].state = .fault) :
    takeWindowEnd s.hall = probeEnd a none (endExchange s.hall) := by
  obtain ⟨-, -, lamps, current⟩ := p
  unfold takeWindowEnd exchangeEnd
  rw [current]
  dsimp only
  rw [if_neg Bool.false_ne_true, if_pos fault]

/-- The probes of a console in FAULT (R34, R35). -/
theorem probes_taken (p : s.exchanges .probe a) (fault : s.hall.consoles[a].state = .fault) :
    let r := s.hall.consoles[a]
    let leaves (i : Instr) (x : ConsoleRun) : Prop := s.takesEvent i (s.hall.afterExchange a x)
    let failed := { r with good := 0, probeTimer := some (s.hall.tenths + 50) }
    leaves .answerWindowClose failed ∧
    ∀ (addr : Nat) (check : Bool) (keys : Keys),
      ifElse (addr = numOf a ∧ check = true ∧ keys.decodes = true)
        (leaves (.probeAnswer addr check keys) <|
          if r.good = 0 then { r with good := 1, probeTimer := some (s.hall.tenths + 50) }
          else { r with
            state := .idle
            accepted := some keys
            candidate := none
            bad := 0
            good := 0
            probeTimer := none
            probeDue := false
            goodStart := some s.hall.now
            goodExpiry := some (s.hall.now + 10) })
        (leaves (.probeAnswer addr check keys) failed) := by
  have window : s.takesEvent .answerWindowClose (takeWindowEnd s.hall) := takesEvent_of p.1 rfl
  rw [takeWindowEnd_probe p fault] at window
  refine ⟨window, fun addr check keys => ?_⟩
  have answer : s.takesEvent (.probeAnswer addr check keys) (takeProbeAnswer addr check keys s.hall) := takesEvent_of p.1 rfl
  rw [takeProbeAnswer_fault p fault] at answer
  refine ⟨fun good => ?_, fun bad => ?_⟩
  · rw [show goodAnswer a addr check keys = some keys from if_pos good] at answer
    by_cases first : s.hall.consoles[a].good = 0
    · have low : ¬ 1 ≤ (endExchange s.hall).consoles[a].good := by
        show ¬ 1 ≤ s.hall.consoles[a].good
        omega
      rw [show probeEnd a (some keys) (endExchange s.hall) = _ from if_neg low] at answer
      rw [if_pos first]
      exact answer
    · have high : 1 ≤ (endExchange s.hall).consoles[a].good := by
        show 1 ≤ s.hall.consoles[a].good
        omega
      rw [show probeEnd a (some keys) (endExchange s.hall) = _ from if_pos high] at answer
      rw [if_neg first]
      exact answer
  · rwa [goodAnswer_bad bad] at answer

theorem rangeOnly_bad_or_out {x : Arg Nat} (bad : x = .bad ∨ x.outOf 1 48) :
    rangeOnly (needId (idFrom1 48) x) = .error .range := by
  rcases bad with rfl | out
  · rfl
  · rw [needId_outOf1 out]
    rfl

theorem rangeOnly_numOf (n : Nat) (i : Fin n) : rangeOnly (needId (idFrom1 n) (.val (numOf i))) = .ok i := by
  rw [needId_val (idFrom1_numOf i)]
  rfl

end

/-- Settles O45: bad polls by their count, the probes, and the console named for readmission. -/
theorem busAnswers : Obligations.BusAnswers := by
  refine ⟨fun s a i p polled bad => ?_, fun s a p fault => probes_taken p fault, fun s tag p => ⟨fun a => ?_, fun x bad => ?_⟩⟩
  · have taken := badPoll_takes p polled bad
    refine ⟨fun few => by rwa [pollEnd_bad few] at taken, fun third idle => ⟨_, taken, ?_⟩⟩
    rw [pollEnd_third third]
    have entry := faultEntry_idle (h := s.hall) (a := a)
      { s.hall.consoles[a] with bad := s.hall.consoles[a].bad + 1, candidate := none } idle
    unfold faultedRun faultState at entry
    exact entry
  · refine ⟨fun quarantined => answersNow_of p rfl ?_, fun free => refused_of p rfl ?_⟩
    · unfold readmitConsole
      rw [rangeOnly_numOf]
      exact if_pos quarantined
    · unfold readmitConsole
      rw [rangeOnly_numOf]
      exact if_neg free
  · refine refused_of p rfl ?_
    unfold readmitConsole
    rw [rangeOnly_bad_or_out bad]

/-! ### The end of a place, event by event (R50, R53, R56, R61) -/

section
variable {s : State} {tag : Tag} {a : ConsoleId} {b : BoothId}

theorem polled_of_onChannel {v : ConsoleState} (h : v.onChannel = true) : v.polled = true := by
  revert h
  cases v <;> decide

theorem talkPress_speaks {h : Hall} (booth : h.boothOf a = some b) (speaks : h.consoles[a].state.onChannel = true) :
    talkPress a h = release a .idle h := by
  unfold talkPress
  rw [booth]
  dsimp only
  cases e : h.consoles[a].state with
  | live | muted => rfl
  | absent | idle | requesting | fault | quarantined =>
    rw [e] at speaks
    cases speaks

theorem talkPress_waits {h : Hall} (booth : h.boothOf a = some b) (waits : h.consoles[a].state = .requesting) :
    talkPress a h = endWait a .idle h := by
  unfold talkPress
  rw [booth]
  dsimp only
  rw [waits]

theorem forceRelease_taken (held : s.hall.consoles[a].state.onChannel = true ∨ s.hall.consoles[a].state = .requesting) :
    forceRelease (.val (numOf a)) s = .now (.ok (.released s.hall.consoles[a].state (settle (forceOff a s.hall)).work.granted) [])
      { s with hall := settle (forceOff a s.hall) } := by
  unfold forceRelease
  rw [rangeOnly_numOf]
  exact if_pos held

theorem forceRelease_gives (p : s.takesOrders)
    (held : s.hall.consoles[a].state.onChannel = true ∨ s.hall.consoles[a].state = .requesting) :
    ∃ k, s.answersNow (.forceRelease tag (.val (numOf a))) tag
        (.ok (.released s.hall.consoles[a].state (forceOff a s.hall).work.granted) []) k ∧ (forceOff a s.hall).Kept k := by
  have settled := kept_settle (forceOff a s.hall)
  refine ⟨settle (forceOff a s.hall), answersNow_of p rfl ?_, settled⟩
  rw [forceRelease_taken (s := s.opened) held, State.opened_hall, ← settled.granted]

/-- A handover timer's expiry, and its notice (R56). -/
theorem expireHandover_taken {h : Hall} (booth : h.boothOf a = some b) (due : h.timerDue h.consoles[a].handoverExpiry = true)
    (waits : h.consoles[a].state = .requesting) :
    (endWait a .idle h).Kept (expireHandover a h) ∧
      (⟨.booth, .handoverExpired, numOf a, h.now, ((h.target a).map Fin.val).getD 0, false⟩ : Notice) ∈
        (expireHandover a h).work.posts := by
  unfold expireHandover
  rw [booth]
  dsimp only
  rw [if_pos ⟨due, waits⟩]
  have now : (endWait a .idle h).now = h.now := (stays_endWait h a .idle).minute
  have notice := mem_post (endWait a .idle h) .booth .handoverExpired (numOf a) (((h.target a).map Fin.val).getD 0)
  rw [now] at notice
  exact ⟨((kept_post _ _ _ _ _).trans (kept_meterEvent _ _)).trans (kept_settle _),
    ((posted_meterEvent _ _).trans (posted_settle _)).mem notice⟩

end

/-- Settles O48: the operations that end a place pass it on as R50 to R53 say, and each event that ends one is such an
operation. -/
theorem floorPassesOn : Obligations.FloorPassesOn := by
  refine ⟨fun h a b c v p => ?_, fun h a b c v p => ?_, fun h a b v booth queued => ?_, fun s a old => ?_,
    fun s tag a p rest => ?_, fun s a t b awake rest expiry due booth waits => ?_, fun s a i p third bad => ?_⟩
  · obtain ⟨down, head, passed, account, steady⟩ := release_passesOn v p
    exact ⟨down, head, passed, steady.settings.trans (steppedOff_settings v), steady.fleet.trans (stepDown_fleet h a v),
      steady.clock.trans (steppedOff_clock v), steady.air.trans (stepDown_air h a v),
      (congrArg Account.queue account).trans (stepDown_records h a v)⟩
  · obtain ⟨run, passed, steady⟩ := endWait_passesOn v p
    exact ⟨congrArg ConsoleRun.state run, congrArg ConsoleRun.handoverExpiry run, congrArg ConsoleRun.engagedFlash run,
      passed, steady.settings, steady.fleet, steady.clock, steady.air⟩
  · exact endWait_queued v booth queued
  · intro k accepts up h
    have run : h.consoles[a] = { s.hall.consoles[a] with bad := 0, accepted := some k, candidate := none } := afterExchange_get _
    have takes := pressTakes_of accepts (keyEvents_talk up)
    refine ⟨fun speaks booth => ?_, fun waits booth => ?_⟩
    all_goals obtain ⟨b, booth⟩ := Option.ne_none_iff_exists'.mp booth
    · rwa [keyPress, talkPress_speaks (h := h) booth (by rw [run]; exact speaks)] at takes
    · rwa [keyPress, talkPress_waits (h := h) booth (by rw [run]; exact waits)] at takes
  · intro i gives
    refine ⟨fun speaks => ?_, fun waits => ?_⟩
    · have given := forceRelease_gives (tag := tag) p (.inl speaks)
      rwa [show forceOff a s.hall = release a .idle s.hall from if_pos speaks] at given
    · have given := forceRelease_gives (tag := tag) p (.inr waits)
      rwa [show forceOff a s.hall = endWait a .idle s.hall from if_neg (by rw [waits]; decide)] at given
  · have stands : s.hall.timerDue s.hall.consoles[a].handoverExpiry = true := by
      rw [expiry]
      exact decide_eq_true due
    exact ⟨_, takesEvent_of awake rfl, expireHandover_taken booth stands waits⟩
  · intro r iso v h
    have fault (polled : r.state.polled = true) :
        ∃ k, s.takesEvent i k ∧ (reportFault a v h).Kept k :=
      ⟨_, badPoll_takes p polled bad, by
        rw [pollEnd_third third]
        have entry := (faultEntry_kept (h := s.hall) (a := a)
          { s.hall.consoles[a] with bad := s.hall.consoles[a].bad + 1, candidate := none }).1
        unfold faultedRun faultState at entry
        exact entry⟩
    refine ⟨fun speaks => ?_, fun waits => ?_⟩
    · have taken := fault (polled_of_onChannel speaks)
      rwa [reportFault_speaks (by rw [afterExchange_get]; exact speaks)] at taken
    · have taken := fault (by rw [waits]; rfl)
      rwa [reportFault_waits (by rw [afterExchange_get]; exact waits)] at taken

end Sys2Proof.StepProofs
end

-- ==== Proofs: Counts ====
section
/-! PROOFS. The meters: the rise of a count with its preset and saturation tests, an event offered to every meter, levels,
window closes and CLEAR METER (R149 to R152, R154). -/

namespace Sys2Proof.StepProofs

open Machine

/-! ### The rise of a count (R152) -/

/-- The rise reaches the preset that its latch has not seen. -/
def reachesPreset (set : MeterSettings) (r : MeterRun) : Bool := decide (0 < set.preset) && !r.latch && r.count + 1 == set.preset

/-- The rise fills the counter. -/
def fillsCounter (r : MeterRun) : Bool := !r.full && r.count + 1 == maxCount

/-- The meter after the rise of its count, with the two tests. -/
def raisedRun (set : MeterSettings) (r : MeterRun) : MeterRun :=
  { r with count := r.count + 1, latch := r.latch || reachesPreset set r, full := r.full || fillsCounter r }

/-- The notices of a rise; what METER_FULL carries stands free (log entry 1). -/
def riseNotices (m : MeterId) (set : MeterSettings) (r : MeterRun) (now free : Nat) : List Notice :=
  (if reachesPreset set r then [⟨.meter, .meterPreset, numOf m, now, set.preset, false⟩] else []) ++
    if fillsCounter r then [⟨.meter, .meterFull, numOf m, now, Config.freeValue free, false⟩] else []

/-- The blocks after the rise of a meter's count. -/
def risen (m : MeterId) (h : Hall) : Hall :=
  { h with
    meters := vset h.meters m (raisedRun h.settings.meters[m] h.meters[m])
    free := if fillsCounter h.meters[m] then h.free + 1 else h.free
    work := { h.work with
      posts := h.work.posts ++ riseNotices m h.settings.meters[m] h.meters[m] h.now h.free } }

theorem presetTest_eq (m : MeterId) (h : Hall) (r : MeterRun) (now : h.meters[m] = { r with count := r.count + 1 }) :
    presetTest m h = { h with
      meters := vset h.meters m { r with count := r.count + 1, latch := r.latch || reachesPreset h.settings.meters[m] r }
      work := { h.work with posts := h.work.posts ++
        (if reachesPreset h.settings.meters[m] r then
          [⟨.meter, .meterPreset, numOf m, h.now, h.settings.meters[m].preset, false⟩] else []) } } := by
  have test : (h.settings.meters[m].preset > 0 ∧ h.meters[m].latch = false ∧ h.meters[m].count = h.settings.meters[m].preset) ↔
      reachesPreset h.settings.meters[m] r = true := by
    rw [now]
    simp [reachesPreset, and_assoc]
  unfold presetTest
  dsimp only
  cases reaches : reachesPreset h.settings.meters[m] r with
  | true =>
    have met := test.mpr reaches
    rw [if_pos met, if_pos rfl, Bool.or_true, met.2.2]
    unfold Hall.modMeter vmod
    rw [show (h.post .meter .meterPreset (numOf m) h.settings.meters[m].preset).meters[m] = { r with count := r.count + 1 } from now]
    rfl
  | false =>
    have unmet : ¬ _ := fun met => Bool.false_ne_true (reaches.symm.trans (test.mp met))
    rw [if_neg unmet, if_neg Bool.false_ne_true, Bool.or_false, List.append_nil, ← now]
    rw [show vset h.meters m h.meters[m] = h.meters from vmod_same_eq (f := id) rfl]

theorem fullTest_eq (m : MeterId) (h : Hall) (r : MeterRun) (now : h.meters[m].count = r.count + 1)
    (before : h.meters[m].full = r.full) :
    fullTest m h = { h with
      meters := vset h.meters m { h.meters[m] with full := r.full || fillsCounter r }
      free := if fillsCounter r then h.free + 1 else h.free
      work := { h.work with posts := h.work.posts ++
        (if fillsCounter r then [⟨.meter, .meterFull, numOf m, h.now, Config.freeValue h.free, false⟩] else []) } } := by
  have test : (h.meters[m].count = maxCount ∧ h.meters[m].full = false) ↔ fillsCounter r = true := by
    rw [now, before]
    simp [fillsCounter, and_comm]
  unfold fullTest
  dsimp only
  cases fills : fillsCounter r with
  | true =>
    rw [if_pos (test.mpr fills), if_pos rfl, if_pos rfl, Bool.or_true]
    rfl
  | false =>
    have unmet : ¬ _ := fun met => Bool.false_ne_true (fills.symm.trans (test.mp met))
    rw [if_neg unmet, if_neg Bool.false_ne_true, if_neg Bool.false_ne_true, Bool.or_false, List.append_nil, ← before]
    rw [show vset h.meters m { h.meters[m] with full := h.meters[m].full } = h.meters from vmod_same_eq (f := id) rfl]

theorem raiseCount_eq {m : MeterId} {h : Hall} (room : h.meters[m].count < maxCount) : raiseCount m h = risen m h := by
  unfold raiseCount
  rw [if_pos room]
  have tested := presetTest_eq m (h.modMeter m fun r => { r with count := r.count + 1 }) h.meters[m] (vmod_same ..)
  rw [tested, fullTest_eq m _ h.meters[m] (by rw [vset_same]) (by rw [vset_same])]
  simp only [risen, riseNotices, raisedRun, Hall.modMeter, vmod, vset_vset, vset_same, List.append_assoc]
  rfl

theorem raiseCount_same {m : MeterId} {h : Hall} (full : ¬ h.meters[m].count < maxCount) : raiseCount m h = h := if_neg full

theorem riseNotices_subject {m : MeterId} {set : MeterSettings} {r : MeterRun} {now free : Nat} {n : Notice}
    (mem : n ∈ riseNotices m set r now free) : n.subject = numOf m := by
  unfold riseNotices at mem
  rcases List.mem_append.mp mem with mem | mem <;> split at mem
  all_goals first
    | (rw [List.mem_singleton] at mem; rw [mem])
    | cases mem

/-! ### Events (R150) -/

/-- The event counts on a meter set so. -/
def countsOn (e : MeterEvent) (set : MeterSettings) : Prop :=
  set.enabled = true ∧ set.source = e.kind ∧ e.qualifies set.qualifier = true

theorem offerEvent_same {e : MeterEvent} {h : Hall} {m : MeterId} (not : ¬ countsOn e h.settings.meters[m]) :
    offerEvent e h m = h := if_neg not

theorem offerEvent_raises {e : MeterEvent} {h : Hall} {m : MeterId} (counts : countsOn e h.settings.meters[m])
    (zero : h.settings.meters[m].threshold = 0) : offerEvent e h m = raiseCount m h := by
  unfold offerEvent
  dsimp only
  rw [if_pos (show h.settings.meters[m].enabled = true ∧ _ from counts), if_pos zero]

theorem offerEvent_tallies {e : MeterEvent} {h : Hall} {m : MeterId} (counts : countsOn e h.settings.meters[m])
    (zero : h.settings.meters[m].threshold ≠ 0) :
    offerEvent e h m = h.modMeter m fun r => { r with tally := satCount (r.tally + 1) } := by
  unfold offerEvent
  dsimp only
  rw [if_pos (show h.settings.meters[m].enabled = true ∧ _ from counts), if_neg zero]

/-- `k` is reached from `h` by what does not concern meter `m`. -/
structure Aside (m : MeterId) (h k : Hall) : Prop where
  settings : k.settings = h.settings
  clock    : k.clock = h.clock
  run      : k.meters[m] = h.meters[m]
  posts    : ∀ f : Notice → Bool, (∀ n, f n = true → n.subject = numOf m) → k.work.posts.filter f = h.work.posts.filter f

theorem Aside.refl (m : MeterId) (h : Hall) : Aside m h h := ⟨rfl, rfl, rfl, fun _ _ => rfl⟩

theorem Aside.trans {m : MeterId} {h k l : Hall} (p : Aside m h k) (q : Aside m k l) : Aside m h l :=
  ⟨q.settings.trans p.settings, q.clock.trans p.clock, q.run.trans p.run, fun f s => (q.posts f s).trans (p.posts f s)⟩

theorem numOf_inj {n : Nat} {i j : Fin n} (h : numOf i = numOf j) : i = j := Fin.ext (Nat.succ.inj h)

theorem aside_risen {m l : MeterId} (ne : l ≠ m) (h : Hall) : Aside m h (risen l h) := by
  refine ⟨rfl, rfl, vset_other _ _ ne, fun f subject => ?_⟩
  have foreign : (riseNotices l h.settings.meters[l] h.meters[l] h.now h.free).filter f = [] :=
    List.filter_eq_nil_iff.mpr fun n mem concerns =>
      ne (numOf_inj ((riseNotices_subject mem).symm.trans (subject n concerns)))
  show (h.work.posts ++ _).filter f = _
  rw [List.filter_append, foreign, List.append_nil]

theorem aside_offerEvent {m l : MeterId} (ne : l ≠ m) (e : MeterEvent) (h : Hall) : Aside m h (offerEvent e h l) := by
  by_cases counts : countsOn e h.settings.meters[l]
  · by_cases zero : h.settings.meters[l].threshold = 0
    · rw [offerEvent_raises counts zero]
      by_cases room : h.meters[l].count < maxCount
      · rw [raiseCount_eq room]
        exact aside_risen ne h
      · rw [raiseCount_same room]
        exact .refl m h
    · rw [offerEvent_tallies counts zero]
      exact ⟨rfl, rfl, vmod_other _ _ ne, fun _ _ => rfl⟩
  · rw [offerEvent_same counts]
    exact .refl m h

theorem foldl_aside {m : MeterId} {f : Hall → MeterId → Hall} (aside : ∀ l, l ≠ m → ∀ h, Aside m h (f h l))
    (l : List MeterId) (absent : m ∉ l) (h : Hall) : Aside m h (l.foldl f h) := by
  induction l generalizing h with
  | nil => exact .refl m h
  | cons x l ih =>
    rw [List.mem_cons, not_or] at absent
    rw [List.foldl_cons]
    exact (aside x (Ne.symm absent.1) h).trans (ih absent.2 _)

/-- Of a fold over all meters, one meter sees its own step between what does not concern it. -/
theorem foldl_meters {f : Hall → MeterId → Hall} (m : MeterId) (aside : ∀ l, l ≠ m → ∀ h, Aside m h (f h l)) (h : Hall) :
    ∃ k, Aside m h k ∧ Aside m (f k m) ((ids 8).foldl f h) := by
  obtain ⟨before, after, split⟩ := List.append_of_mem (mem_ids m)
  have once : (before ++ m :: after).Nodup := split ▸ ChargeProofs.nodup_ids
  rw [List.nodup_append] at once
  obtain ⟨-, tail, disjoint⟩ := once
  rw [split, List.foldl_append, List.foldl_cons]
  exact ⟨_, foldl_aside aside before (fun mem => disjoint m mem m (.head _) rfl) h,
    foldl_aside aside after (List.nodup_cons.mp tail).1 _⟩

theorem meterEvent_around (e : MeterEvent) (h : Hall) (m : MeterId) :
    ∃ k, Aside m h k ∧ Aside m (offerEvent e k m) (meterEvent e h) :=
  foldl_meters m (fun _ ne k => aside_offerEvent ne e k) h

section
variable {e : MeterEvent} {h : Hall} {m : MeterId}

theorem meterEvent_tallies (counts : countsOn e h.settings.meters[m]) (above : h.settings.meters[m].threshold ≠ 0) :
    (meterEvent e h).meters[m] = { h.meters[m] with tally := satCount (h.meters[m].tally + 1) } ∧
      Aside m { h with meters := vset h.meters m { h.meters[m] with tally := satCount (h.meters[m].tally + 1) } }
        (meterEvent e h) := by
  obtain ⟨k, before, after⟩ := meterEvent_around e h m
  rw [offerEvent_tallies (before.settings ▸ counts) (before.settings ▸ above)] at after
  have run : (meterEvent e h).meters[m] = { h.meters[m] with tally := satCount (h.meters[m].tally + 1) } := by
    rw [after.run, ← before.run]
    exact vmod_same ..
  refine ⟨run, after.settings.trans before.settings, after.clock.trans before.clock, run.trans (vset_same ..).symm,
    fun f subject => (after.posts f subject).trans (before.posts f subject)⟩

theorem meterEvent_same (not : ¬ countsOn e h.settings.meters[m]) : Aside m h (meterEvent e h) := by
  obtain ⟨k, before, after⟩ := meterEvent_around e h m
  rw [offerEvent_same (before.settings ▸ not)] at after
  exact before.trans after

theorem meterEvent_full (zero : h.settings.meters[m].threshold = 0) (full : ¬ h.meters[m].count < maxCount) :
    Aside m h (meterEvent e h) := by
  by_cases counts : countsOn e h.settings.meters[m]
  · obtain ⟨k, before, after⟩ := meterEvent_around e h m
    rw [offerEvent_raises (before.settings ▸ counts) (before.settings ▸ zero), raiseCount_same (before.run ▸ full)] at after
    exact before.trans after
  · exact meterEvent_same counts

theorem meterEvent_raises (counts : countsOn e h.settings.meters[m]) (zero : h.settings.meters[m].threshold = 0)
    (room : h.meters[m].count < maxCount) :
    (meterEvent e h).meters[m] = raisedRun h.settings.meters[m] h.meters[m] ∧
      ∃ free, ∀ f : Notice → Bool, (∀ n, f n = true → n.subject = numOf m) →
        (meterEvent e h).work.posts.filter f =
          h.work.posts.filter f ++ (riseNotices m h.settings.meters[m] h.meters[m] h.now free).filter f := by
  obtain ⟨k, before, after⟩ := meterEvent_around e h m
  rw [offerEvent_raises (before.settings ▸ counts) (before.settings ▸ zero), raiseCount_eq (before.run ▸ room)] at after
  have now : k.now = h.now := congrArg Clock.minute before.clock
  refine ⟨?_, k.free, fun f subject => ?_⟩
  · rw [after.run, ← before.run, ← before.settings]
    exact vset_same ..
  · rw [after.posts f subject, ← before.posts f subject, ← before.run, ← before.settings, ← now]
    exact List.filter_append ..

end

/-! ### Levels (R150) -/

theorem aside_offerLevel {m l : MeterId} (ne : l ≠ m) (kind : MeterSource) (v : Nat) (h : Hall) :
    Aside m h (offerLevel kind v h l) := by
  unfold offerLevel
  dsimp only
  split
  · exact ⟨rfl, rfl, vmod_other _ _ ne, fun _ _ => rfl⟩
  · exact .refl m h

theorem offerLevel_get (kind : MeterSource) (v : Nat) (h : Hall) (m : MeterId) : (offerLevel kind v h m).meters[m] =
    if h.settings.meters[m].enabled = true ∧ h.settings.meters[m].source = kind then
      { h.meters[m] with tally := max h.meters[m].tally v }
    else h.meters[m] := by
  unfold offerLevel
  dsimp only
  split
  · exact vmod_same ..
  · rfl

theorem meterLevel_get (kind : MeterSource) (v : Nat) (h : Hall) (m : MeterId) : (meterLevel kind v h).meters[m] =
    if h.settings.meters[m].enabled = true ∧ h.settings.meters[m].source = kind then
      { h.meters[m] with tally := max h.meters[m].tally v }
    else h.meters[m] := by
  obtain ⟨k, before, after⟩ := foldl_meters (f := offerLevel kind v) m (fun _ ne k => aside_offerLevel ne kind v k)
    { h with levels := h.levels.set kind v }
  have settings : k.settings = h.settings := before.settings
  have run : k.meters[m] = h.meters[m] := before.run
  refine after.run.trans ?_
  rw [offerLevel_get, settings, run]

/-- `k` is `h` but for the meters. -/
def OnlyMeters (h k : Hall) : Prop := k = { h with meters := k.meters }

theorem meterLevel_eq (kind : MeterSource) (v : Nat) (h : Hall) :
    OnlyMeters { h with levels := h.levels.set kind v } (meterLevel kind v h) := by
  refine foldl_keeps (R := OnlyMeters) (fun _ => rfl) (fun p q => ?_) (fun k l => ?_) _ _
  · unfold OnlyMeters at *
    rw [q, p]
  · unfold offerLevel
    dsimp only
    split <;> rfl

theorem levels_of_set {kind : MeterSource} (level : kind.isLevel = true) (l : Levels) (v : Nat) :
    (l.set kind v).of kind = some v := by
  revert level
  cases kind <;> intro level <;> first | rfl | cases level

theorem levels_of_other {kind other : MeterSource} (ne : other ≠ kind) (l : Levels) (v : Nat) :
    (l.set kind v).of other = l.of other := by
  revert ne
  cases kind <;> cases other <;> intro ne <;> first | rfl | exact absurd rfl ne

/-! ### Window closes (R151, R152) -/

/-- The meter's tally counts at the close of its window (R151). -/
def closeRises (h : Hall) (m : MeterId) : Prop :=
  windowResult h.settings.meters[m] h.meters[m].tally = true ∧
    ¬ (h.settings.meters[m].edge = true ∧ h.meters[m].prev = true) ∧ h.meters[m].count < maxCount

/-- A meter's next window, begun with the result of the one before. -/
def nextWindow (h : Hall) (m : MeterId) (n : Nat) (r : MeterRun) : MeterRun :=
  { r with
    prev := windowResult h.settings.meters[m] h.meters[m].tally
    tally := (h.levels.of h.settings.meters[m].source).getD 0
    next := some (n + h.settings.meters[m].window) }

theorem closeWindow_rises {m : MeterId} {h : Hall} (rises : closeRises h m) (n : Nat) :
    closeWindow m n h = (risen m h).modMeter m (nextWindow h m n) := by
  obtain ⟨result, edge, room⟩ := rises
  unfold closeWindow
  dsimp only
  rw [if_pos (show windowResult _ _ = true ∧ ¬ _ from ⟨result, edge⟩), raiseCount_eq room]
  rfl

theorem closeWindow_stays {m : MeterId} {h : Hall} (stays : ¬ closeRises h m) (n : Nat) :
    closeWindow m n h = h.modMeter m (nextWindow h m n) := by
  unfold closeWindow
  dsimp only
  split
  · next c =>
    rw [raiseCount_same fun room => stays ⟨c.1, c.2, room⟩]
    rfl
  · rfl

theorem takeWindowClose_due {m : MeterId} {h : Hall} {n : Nat} (next : h.meters[m].next = some n) (due : n ≤ h.now) :
    takeWindowClose m h = closeWindow m n h := by
  unfold takeWindowClose
  rw [next]
  exact if_pos due

theorem takeWindowClose_early {m : MeterId} {h : Hall}
    (early : h.meters[m].next = none ∨ ∃ n, h.meters[m].next = some n ∧ h.now < n) : takeWindowClose m h = h := by
  unfold takeWindowClose
  rcases early with none | ⟨n, next, late⟩
  · rw [none]
  · rw [next]
    exact if_neg (Nat.not_le.mpr late)

theorem reachesPreset_iff (set : MeterSettings) (r : MeterRun) :
    reachesPreset set r = true ↔ 0 < set.preset ∧ r.latch = false ∧ r.count + 1 = set.preset := by
  simp [reachesPreset, and_assoc]

theorem fillsCounter_iff (r : MeterRun) : fillsCounter r = true ↔ r.full = false ∧ r.count + 1 = maxCount := by
  simp [fillsCounter]

/-- A window close that stands due, and what it leaves of the meter (R151). -/
theorem windowClose_taken {h : Hall} {m : MeterId} {n : Nat} (next : h.meters[m].next = some n) (due : n ≤ h.now) :
    let x := h.settings.meters[m]
    let r := h.meters[m]
    let k := takeWindowClose m h
    k = { h with meters := k.meters, work := k.work, free := k.free } ∧ (∀ l, l ≠ m → k.meters[l] = h.meters[l]) ∧
      k.meters[m].prev = windowResult x r.tally ∧ k.meters[m].tally = (h.levels.of x.source).getD 0 ∧
      k.meters[m].next = some (n + x.window) ∧
      ifElse (closeRises h m)
        (k.meters[m].count = r.count + 1 ∧
          (0 < x.preset → r.latch = false → r.count + 1 = x.preset → k.meters[m].latch = true ∧
            (⟨.meter, .meterPreset, numOf m, h.now, x.preset, false⟩ : Notice) ∈ k.work.posts) ∧
          (r.full = false → r.count + 1 = maxCount → k.meters[m].full = true ∧
            ∃ v, (⟨.meter, .meterFull, numOf m, h.now, v, false⟩ : Notice) ∈ k.work.posts))
        (k.meters[m].count = r.count ∧ k.meters[m].latch = r.latch ∧ k.work = h.work) := by
  dsimp only
  rw [takeWindowClose_due next due]
  by_cases rises : closeRises h m
  · have run : ((risen m h).modMeter m (nextWindow h m n)).meters[m] =
        nextWindow h m n (raisedRun h.settings.meters[m] h.meters[m]) := by
      unfold Hall.modMeter risen
      rw [vmod_same, vset_same]
    rw [closeWindow_rises rises, run]
    refine ⟨rfl, fun l ne => (vmod_other _ _ (Ne.symm ne)).trans (vset_other _ _ (Ne.symm ne)), rfl, rfl, rfl,
      fun _ => ⟨rfl, fun pos latch reached => ?_, fun full last => ?_⟩, fun not => absurd rises not⟩
    · have reaches := (reachesPreset_iff _ _).mpr ⟨pos, latch, reached⟩
      refine ⟨?_, List.mem_append_right _ (List.mem_append_left _ ?_)⟩
      · show (_ || reachesPreset _ _) = true
        rw [reaches, Bool.or_true]
      · rw [if_pos reaches]
        exact .head _
    · have fills := (fillsCounter_iff _).mpr ⟨full, last⟩
      refine ⟨?_, Config.freeValue h.free, List.mem_append_right _ (List.mem_append_right _ ?_)⟩
      · show (_ || fillsCounter _) = true
        rw [fills, Bool.or_true]
      · rw [if_pos fills]
        exact .head _
  · have run : (h.modMeter m (nextWindow h m n)).meters[m] = nextWindow h m n h.meters[m] := vmod_same ..
    rw [closeWindow_stays rises, run]
    exact ⟨rfl, fun l ne => vmod_other _ _ (Ne.symm ne), rfl, rfl, rfl, fun yes => absurd yes rises, fun _ => ⟨rfl, rfl, rfl⟩⟩

theorem riseNotices_presets (m : MeterId) (set : MeterSettings) (r : MeterRun) (now free : Nat) :
    (riseNotices m set r now free).filter (fun n => n.kind == .meterPreset && n.subject == numOf m) =
      if reachesPreset set r then [⟨.meter, .meterPreset, numOf m, now, set.preset, false⟩] else [] := by
  unfold riseNotices
  cases reachesPreset set r <;> cases fillsCounter r <;> simp

theorem riseNotices_fulls (m : MeterId) (set : MeterSettings) (r : MeterRun) (now free : Nat) :
    (riseNotices m set r now free).filter (fun n => n.kind == .meterFull && n.subject == numOf m) =
      if fillsCounter r then [⟨.meter, .meterFull, numOf m, now, Config.freeValue free, false⟩] else [] := by
  unfold riseNotices
  cases reachesPreset set r <;> cases fillsCounter r <;> simp

theorem subject_of_kind {m : MeterId} (kind : NoticeKind) (n : Notice) (h : (n.kind == kind && n.subject == numOf m) = true) :
    n.subject = numOf m := by
  rw [Bool.and_eq_true, beq_iff_eq, beq_iff_eq] at h
  exact h.2

/-- Settles O55: the one meter that an event or a close concerns, and all of them for a level. -/
theorem meterWindows : Obligations.MeterWindows := by
  refine ⟨fun h e m => ⟨fun counts zero room => ?_, fun counts above => (meterEvent_tallies counts above).1, fun idle => ?_,
    fun idle => ?_⟩, fun h kind v m level => ?_, fun s m awake rest => ⟨fun n next due => ?_, fun early => ?_⟩,
    fun s tag p => ⟨fun m => answersNow_of p rfl ?_, fun x bad => refused_of p rfl ?_⟩⟩
  · obtain ⟨run, free, posts⟩ := meterEvent_raises counts zero room
    refine ⟨run, ?_, Config.freeValue free, ?_⟩
    · rw [posts _ (subject_of_kind .meterPreset), riseNotices_presets]
      rfl
    · rw [posts _ (subject_of_kind .meterFull), riseNotices_fulls]
      rfl
  · rcases idle with not | ⟨zero, full⟩
    · exact (meterEvent_same not).run
    · exact (meterEvent_full zero (by omega)).run
  · have subject : ∀ n : Notice, ((n.kind == .meterPreset && n.subject == numOf m) ||
        (n.kind == .meterFull && n.subject == numOf m)) = true → n.subject = numOf m := fun n either =>
      (Bool.or_eq_true _ _ ▸ either).elim (subject_of_kind .meterPreset n) (subject_of_kind .meterFull n)
    by_cases counts : countsOn e h.settings.meters[m]
    · by_cases zero : h.settings.meters[m].threshold = 0
      · have full := (idle.resolve_left (not_not.mpr counts)).resolve_left (not_not.mpr zero)
        exact (meterEvent_full zero (by omega)).posts _ subject
      · exact (meterEvent_tallies counts zero).2.posts _ subject
    · exact (meterEvent_same counts).posts _ subject
  · have only := meterLevel_eq kind v h
    have levels : (meterLevel kind v h).levels = h.levels.set kind v := congrArg Hall.levels only
    refine ⟨?_, fun other ne => ?_, meterLevel_get kind v h m, ?_⟩
    · rw [levels, levels_of_set level]
    · rw [levels, levels_of_other ne]
    · rw [levels]
      exact only
  · exact ⟨_, takesEvent_of awake rfl, windowClose_taken next due⟩
  · have taken : s.takesEvent (.windowClose m) (takeWindowClose m s.hall) := takesEvent_of awake rfl
    rwa [takeWindowClose_early early] at taken
  · unfold clearMeter
    rw [rangeOnly_numOf]
    rfl
  · unfold clearMeter
    rcases bad with rfl | out
    · rfl
    · rw [needId_outOf1 out]
      rfl

end Sys2Proof.StepProofs
end

-- ==== Proofs: Contest ====
section
/-! PROOFS. Handover, override, the move of a feed, RELAY-NEXT, and a booth made DISABLED (R21, R46 to R48, R51, R54, R59,
R62, R68). -/

namespace Sys2Proof.StepProofs

open Machine

/-! ### Meters that grants do not concern -/

section
variable {h : Hall} {m : MeterId}

theorem grant_meter (a : ConsoleId) (b : BoothId) (c : ChannelId) (apart : h.settings.meters[m].source ≠ .live) :
    (grant a b c h).meters[m] = h.meters[m] := by
  unfold grant
  dsimp only
  rw [openLiveSpell_eq, show ∀ k : Hall, (k.noteGrant a).meters = k.meters from fun _ => rfl,
    (meterEvent_same (fun counts => apart counts.2.1)).run]
  rfl

theorem freshRequest_meter (a : ConsoleId) (b : BoothId) (c : ChannelId) (apart : h.settings.meters[m].source ≠ .live) :
    (freshRequest a b c h).meters[m] = h.meters[m] := by
  by_cases free : h.channels[c].feeder = none
  · rw [freshRequest_granted h free, grant_meter a b c apart]
  · rw [freshRequest_waits h free]

theorem passed_meter (c : ChannelId) (apart : h.settings.meters[m].source ≠ .live) : (passed h c).meters[m] = h.meters[m] := by
  cases l : h.waitLists[c] with
  | nil => rw [passed_nil l]; rfl
  | cons e rest => exact (congrArg (fun k : Hall => k.meters[m]) (passed_cons l)).trans (grant_meter _ _ _ apart)

theorem stepDown_meters (a : ConsoleId) (v : ConsoleState) : (stepDown a v h).meters = h.meters := by rw [stepDown_eq]

end

/-! ### HANDOVER (R54) -/

section
variable {h : Hall} {a y : ConsoleId} {b : BoothId} {c : ChannelId} {rest : List ConsoleId}

/-- The blocks as a speaking console hands over to the head of its booth's queue (R54, steps 1 and 2). -/
def handed (h : Hall) (a : ConsoleId) (b : BoothId) (y : ConsoleId) (rest : List ConsoleId) : Hall :=
  ((stepDown a .idle h).modBooth b fun r => { r with queue := rest }).modConsole y fun r => { r with handoverExpiry := none }

/-- The blocks as the booth is left by its owner, for its channel to be passed on. -/
def handedOff (h : Hall) (a : ConsoleId) (b : BoothId) (y : ConsoleId) (rest : List ConsoleId) : Hall :=
  setOwner b none (handed h a b y rest)

/-- The floor passes to `y`: the channel itself where it is the target, and otherwise passed on (R54, step 3). -/
def handedOver (h : Hall) (a : ConsoleId) (b : BoothId) (c : ChannelId) (y : ConsoleId) (rest : List ConsoleId) : Hall :=
  if h.target y = some c then grant y b c (handed h a b y rest)
  else
    match h.target y with
    | some t => freshRequest y b t (passed (handedOff h a b y rest) c)
    | none => (passed (handedOff h a b y rest) c).modConsole y fun r => { r with state := .idle }

theorem handed_get (x : ConsoleId) : (handed h a b y rest).consoles[x] =
    if y = x then { (stepDown a .idle h).consoles[x] with handoverExpiry := none } else (stepDown a .idle h).consoles[x] :=
  modConsole_get ..

theorem handed_target (x : ConsoleId) : (handed h a b y rest).target x = h.target x := by
  refine target_congr (stepDown_settings h a .idle) ?_
  rw [handed_get, stepDown_get]
  split <;> split <;> rfl

theorem handoverPress_eq (p : h.floorOf a b c) (q : h.booths[b].queue = y :: rest) : handoverPress a h =
    meterEvent (boothEvent .handover b (h.target y))
      (((handedOver h a b c y rest).modBoothDay b fun d => { d with handovers := satCount (d.handovers + 1) }).ask onlyAccount) := by
  have target := handed_target (h := h) (a := a) (b := b) (y := y) (rest := rest) y
  unfold handoverPress
  rw [p.booth]
  dsimp only
  rw [p.speaks, q, p.feeds]
  dsimp only
  unfold handedOver
  rw [← target]
  rfl

/-- What of HANDOVER's blocks the next speaker's turn does not touch. -/
structure HandedOn (h k : Hall) (a y : ConsoleId) (b : BoothId) (rest : List ConsoleId) : Prop where
  run     : k.consoles[a] = downRun .idle h.consoles[a]
  account : k.account = (stepDown a .idle h).account
  queue   : k.booths[b].queue = rest
  meters  : ∀ m : MeterId, h.settings.meters[m].source ≠ .live → k.meters[m] = h.meters[m]
  settings : k.settings = h.settings

theorem handed_queue : (handed h a b y rest).booths[b].queue = rest :=
  (congrArg BoothRun.queue ((modBooth_get ..).trans (if_pos rfl)))

theorem handed_handedOn (ne : y ≠ a) : HandedOn h (handed h a b y rest) a y b rest := by
  refine ⟨?_, rfl, handed_queue, fun m _ => ?_, stepDown_settings h a .idle⟩
  · rw [handed_get, if_neg ne, stepDown_get, if_pos rfl]
  · show (stepDown a .idle h).meters[m] = _
    rw [stepDown_meters]

theorem HandedOn.unowned {k : Hall} (on : HandedOn h k a y b rest) : HandedOn h (setOwner b none k) a y b rest where
  run := on.run
  account := on.account
  queue := (setOwner_queue ..).trans on.queue
  meters := on.meters
  settings := on.settings

theorem HandedOn.passed {k : Hall} (on : HandedOn h k a y b rest) (c : ChannelId)
    (apart : ∀ e ∈ k.waitLists[c], e.console ≠ a) : HandedOn h (passed k c) a y b rest where
  run := (passed_console apart).trans on.run
  account := (steady_passed _ c).account.trans on.account
  queue := (passed_queue ..).trans on.queue
  meters m source := (passed_meter c (by rw [on.settings]; exact source)).trans (on.meters m source)
  settings := (steady_passed _ c).settings.trans on.settings

theorem HandedOn.fresh {k : Hall} (on : HandedOn h k a y b rest) (ne : y ≠ a) (t : ChannelId) :
    HandedOn h (freshRequest y b t k) a y b rest where
  run := (freshRequest_other _ b t ne).trans on.run
  account := (steady_freshRequest _ y b t).account.trans on.account
  queue := by rw [freshRequest_booths, setOwner_queue, on.queue]
  meters m source := (freshRequest_meter y b t (by rw [on.settings]; exact source)).trans (on.meters m source)
  settings := (steady_freshRequest _ y b t).settings.trans on.settings

theorem HandedOn.granted {k : Hall} (on : HandedOn h k a y b rest) (ne : y ≠ a) (t : ChannelId) :
    HandedOn h (grant y b t k) a y b rest where
  run := by rw [grant_get, if_neg ne, on.run]
  account := (steady_grant _ y b t).account.trans on.account
  queue := by rw [grant_booths, setOwner_queue, on.queue]
  meters m source := (grant_meter y b t (by rw [on.settings]; exact source)).trans (on.meters m source)
  settings := (steady_grant _ y b t).settings.trans on.settings

theorem HandedOn.idled {k : Hall} (on : HandedOn h k a y b rest) (ne : y ≠ a) :
    HandedOn h (k.modConsole y fun r => { r with state := .idle }) a y b rest where
  run := by rw [modConsole_get, if_neg ne, on.run]
  account := on.account
  queue := on.queue
  meters := on.meters
  settings := on.settings

theorem handed_lists : (handed h a b y rest).waitLists = h.waitLists := stepDown_waitLists h a .idle
theorem handedOff_lists : (handedOff h a b y rest).waitLists = h.waitLists := stepDown_waitLists h a .idle
theorem handedOff_settings : (handedOff h a b y rest).settings = h.settings := stepDown_settings h a .idle
theorem handedOff_clock : (handedOff h a b y rest).clock = h.clock := stepDown_clock h a .idle
theorem handedOff_dayOpen : (handedOff h a b y rest).dayOpen = h.dayOpen := stepDown_dayOpen h a .idle

theorem handedOff_feedersPassed : (handedOff h a b y rest).feedersPassed c = h.feedersPassed c := by
  funext x
  unfold Hall.feedersPassed
  rw [handedOff_lists, show (handedOff h a b y rest).channels = h.channels from stepDown_channels h a .idle]

theorem handedOff_listsPassed : (handedOff h a b y rest).listsPassed c = h.listsPassed c := by
  funext x
  unfold Hall.listsPassed
  rw [handedOff_lists]

theorem handedOff_grantsPassed : (handedOff h a b y rest).grantsPassed c = h.grantsPassed c := by
  unfold Hall.grantsPassed
  rw [handedOff_lists, show (handedOff h a b y rest).work.granted = h.work.granted from stepDown_granted h a .idle]

theorem handedOver_handedOn (p : h.floorOf a b c) (ne : y ≠ a) : HandedOn h (handedOver h a b c y rest) a y b rest := by
  have on := handed_handedOn (h := h) (b := b) (rest := rest) ne
  have passes := on.unowned.passed c fun e m => (p.entries c e (handedOff_lists (rest := rest) ▸ m)).1
  unfold handedOver
  split
  · exact on.granted ne c
  · split
    · exact passes.fresh ne _
    · exact passes.idled ne

/-- The target is the channel: `y` is granted it, and nothing is passed on. -/
theorem handedOver_granted (p : h.floorOf a b c) (q : h.booths[b].queue = y :: rest) (same : h.target y = some c) :
    let k := handedOver h a b c y rest
    k.booths[b].owner = some y ∧ k.consoles[y].state = .live ∧ k.consoles[y].handoverExpiry = none ∧
      k.consoles[y].contStart = some h.now ∧ k.work.granted = h.work.granted ++ [y] ∧
      ∀ x : ChannelId, k.channels[x].feeder = (if x = c then some y else h.channels[x].feeder) ∧
        k.waitLists[x] = h.waitLists[x] := by
  have mem : y ∈ h.booths[b].queue := q ▸ .head _
  have run : (handedOver h a b c y rest).consoles[y] = grantRun (handed h a b y rest) b (handed h a b y rest).consoles[y] := by
    unfold handedOver
    rw [if_pos same, grant_get, if_pos rfl]
  dsimp only
  rw [run]
  refine ⟨?_, rfl, rfl, ?_, ?_, fun x => ⟨?_, ?_⟩⟩
  · unfold handedOver
    rw [if_pos same, grant_booths, setOwner_get, if_pos rfl]
  · exact congrArg some (stepDown_now h a .idle)
  · unfold handedOver
    rw [if_pos same, grant_granted]
    exact congrArg (· ++ [y]) (stepDown_granted h a .idle)
  · unfold handedOver
    rw [if_pos same, grant_feeder, if_congr eq_comm rfl rfl, show (handed h a b y rest).channels = h.channels from
      stepDown_channels h a .idle]
  · unfold handedOver
    rw [if_pos same, grant_waitLists, dropEntry_get, handed_lists]
    split
    · next e => rw [e, filter_absent fun e m => fun same => (p.entries c e m).2.2 (same ▸ mem)]
    · rfl

/-- The target is another channel: the old one is passed on, and `y` is taken as a fresh request. -/
theorem handedOver_passes (p : h.floorOf a b c) (q : h.booths[b].queue = y :: rest) (other : h.target y ≠ some c) :
    h.headGranted (handedOver h a b c y rest) c ∧
      h.passedOn (handedOver h a b c y rest) b (h.feedersPassed c) (h.listsPassed c) (h.grantsPassed c) := by
  have mem : y ∈ h.booths[b].queue := q ▸ .head _
  have ne : y ≠ a := fun e => p.absent (e ▸ mem)
  have lists := handedOff_lists (h := h) (a := a) (b := b) (y := y) (rest := rest)
  have apart : ∀ x : ChannelId, ∀ e ∈ h.waitLists[x], e.console ≠ y := fun x e m same => (p.entries x e m).2.2 (same ▸ mem)
  have run : (passed (handedOff h a b y rest) c).consoles[y] = { (stepDown a .idle h).consoles[y] with handoverExpiry := none } := by
    rw [passed_console fun e m => apart c e (lists ▸ m)]
    exact (handed_get y).trans (if_pos rfl)
  have head : h.headGranted (passed (handedOff h a b y rest) c) c :=
    passed_headGranted handedOff_settings handedOff_clock lists
  have queue := (handedOver_handedOn (rest := rest) p ne).queue
  have owner : (passed (handedOff h a b y rest) c).booths[b].owner = none := by
    rw [passed_booth fun e m => (p.entries c e (lists ▸ m)).2.1, handedOff, setOwner_get, if_pos rfl]
  unfold Hall.passedOn
  rw [q]
  unfold handedOver at queue ⊢
  rw [if_neg other] at queue ⊢
  cases target : h.target y with
  | some t =>
    rw [target] at queue
    refine ⟨headGranted_congr head (fun e first => ?_) fun e first => ?_, queue, ?_⟩
    · rw [freshRequest_booths, setOwner_get, if_neg (Ne.symm (p.entries c e (head_mem first)).2.1)]
    · exact freshRequest_other _ b t (Ne.symm (apart c e (head_mem first)))
    · rw [target]
      refine freshRequest_requested _ ((steady_passed _ c).settings.trans handedOff_settings)
        ((steady_passed _ c).clock.trans handedOff_clock) ((steady_passed _ c).dayOpen.trans handedOff_dayOpen) (fun x => ?_) (fun x => ?_) ?_
        (congrArg ConsoleRun.handoverExpiry run) fun e m => ?_
      · exact (passed_feeder c x).trans (congrFun handedOff_feedersPassed x)
      · exact (passed_lists (by rw [lists]; exact p.lists c) x).trans (congrFun handedOff_listsPassed x)
      · exact (passed_granted c).trans handedOff_grantsPassed
      · obtain ⟨x, m⟩ := mem_listsPassed m
        exact apart x e m
  | none =>
    rw [target] at queue
    refine ⟨headGranted_congr head (fun e first => rfl) fun e first => ?_, queue, ?_⟩
    · exact (modConsole_get ..).trans (if_neg (Ne.symm (apart c e (head_mem first))))
    · rw [target]
      refine ⟨⟨owner, (passed_granted c).trans handedOff_grantsPassed, fun x => ⟨(passed_feeder c x).trans (congrFun handedOff_feedersPassed x),
        (passed_lists (by rw [lists]; exact p.lists c) x).trans (congrFun handedOff_listsPassed x)⟩⟩, ?_, ?_⟩
      · exact congrArg ConsoleRun.state ((modConsole_get ..).trans (if_pos rfl))
      · exact congrArg ConsoleRun.handoverExpiry (((modConsole_get ..).trans (if_pos rfl)).trans (congrArg _ run))

/-- What a HANDOVER press that is taken leaves, but for whose turn it is (R54). -/
theorem handoverPress_stepsDown (p : h.floorOf a b c) (q : h.booths[b].queue = y :: rest) :
    let k := handoverPress a h
    h.steppedDown k a b .idle ∧ k.booths[b].queue = rest ∧
      k.account.booths[b].handovers = min (h.account.booths[b].handovers + 1) 4294967295 ∧ onlyAccount ∈ k.work.asks := by
  have ne : y ≠ a := fun e => p.absent (e ▸ q ▸ .head _)
  obtain ⟨run, account, queue, -, -⟩ := handedOver_handedOn (c := c) (rest := rest) p ne
  rw [handoverPress_eq p q]
  have metered := metered_meterEvent (boothEvent .handover b (h.target y))
    (((handedOver h a b c y rest).modBoothDay b fun d => { d with handovers := satCount (d.handovers + 1) }).ask onlyAccount)
  have day : (vmod (handedOver h a b c y rest).account.booths b fun d => { d with handovers := satCount (d.handovers + 1) })[b] =
      { (stepDown a .idle h).account.booths[b] with
        handovers := satCount ((stepDown a .idle h).account.booths[b].handovers + 1) } := by
    rw [vmod_get, if_pos rfl, account]
  dsimp only
  refine ⟨steppedDown_of .idle p.booth ?_ ?_ ?_, ?_, ?_, ?_⟩
  · rw [metered.consoles]
    exact run
  · rw [metered.account]
    exact (congrArg Account.consoleLive account :)
  · rw [metered.account]
    exact (congrArg BoothDay.live day :)
  · rw [metered.booths]
    exact queue
  · rw [metered.account]
    refine (congrArg BoothDay.handovers day).trans ?_
    show min (_ + 1) _ = _
    rw [(stepDown_minutes h a .idle).2 b p.booth]
    rfl
  · rw [metered.asks]
    exact List.mem_append_right _ (.head _)

/-- What a HANDOVER press that is taken counts (R54, R150). -/
theorem handoverPress_meters (p : h.floorOf a b c) (q : h.booths[b].queue = y :: rest) (m : MeterId)
    (source : h.settings.meters[m].source = .handover) :
    let x := h.settings.meters[m]
    let r := h.meters[m]
    let k := handoverPress a h
    ifElse (x.enabled = true ∧ (⟨.handover, some b, none, none, h.target y⟩ : MeterEvent).qualifies x.qualifier = true)
      (ifElse (x.threshold = 0)
        (k.meters[m].count = (if r.count < maxCount then r.count + 1 else r.count) ∧ k.meters[m].tally = r.tally)
        (k.meters[m] = { r with tally := min (r.tally + 1) maxCount }))
      (k.meters[m] = r) := by
  have ne : y ≠ a := fun e => p.absent (e ▸ q ▸ .head _)
  obtain ⟨-, -, -, meters, settings⟩ := handedOver_handedOn (c := c) (rest := rest) p ne
  rw [handoverPress_eq p q]
  generalize on : ((handedOver h a b c y rest).modBoothDay b fun d => { d with handovers := satCount (d.handovers + 1) }).ask
    onlyAccount = j
  have run : j.meters[m] = h.meters[m] := on ▸ meters m (by rw [source]; decide)
  have set : j.settings = h.settings := on ▸ settings
  dsimp only
  rw [← set, ← run]
  rw [← set] at source
  refine ⟨fun counts => ?_, fun not => (meterEvent_same fun counts => not ⟨counts.1, counts.2.2⟩).run⟩
  have on : countsOn (boothEvent .handover b (h.target y)) j.settings.meters[m] := ⟨counts.1, source, counts.2⟩
  refine ⟨fun zero => ?_, fun above => (meterEvent_tallies on above).1⟩
  by_cases room : j.meters[m].count < maxCount
  · rw [(meterEvent_raises on zero room).1, if_pos room]
    exact ⟨rfl, rfl⟩
  · rw [(meterEvent_full zero room).run, if_neg room]
    exact ⟨rfl, rfl⟩

/-- Whose turn it is after a HANDOVER press (R54, step 3). -/
theorem handoverPress_turn (p : h.floorOf a b c) (q : h.booths[b].queue = y :: rest) :
    let k := handoverPress a h
    (h.target y = some c →
      k.booths[b].owner = some y ∧ k.consoles[y].state = .live ∧ k.consoles[y].handoverExpiry = none ∧
      k.consoles[y].contStart = some h.now ∧ k.work.granted = h.work.granted ++ [y] ∧
      ∀ x : ChannelId, k.channels[x].feeder = (if x = c then some y else h.channels[x].feeder) ∧
        k.waitLists[x] = h.waitLists[x]) ∧
    (h.target y ≠ some c → h.headGranted k c ∧
      h.passedOn k b (h.feedersPassed c) (h.listsPassed c) (h.grantsPassed c)) := by
  rw [handoverPress_eq p q]
  have metered := metered_meterEvent (boothEvent .handover b (h.target y))
    (((handedOver h a b c y rest).modBoothDay b fun d => { d with handovers := satCount (d.handovers + 1) }).ask onlyAccount)
  dsimp only
  unfold Hall.headGranted Hall.passedOn Hall.requested
  rw [metered.consoles, metered.booths, metered.channels, metered.waitLists, metered.granted]
  exact ⟨handedOver_granted p q, handedOver_passes p q⟩

theorem handoverPress_ignored (booth : h.boothOf a = some b)
    (idle : h.consoles[a].state.onChannel = false ∨ h.booths[b].queue = []) : handoverPress a h = h := by
  unfold handoverPress
  rw [booth]
  dsimp only
  rcases idle with silent | empty
  · rw [silent]
  · rw [empty]
    cases h.consoles[a].state.onChannel <;> rfl

end

/-! ### A TALK request in an OVERRIDE booth (R48) -/

section
variable {h : Hall} {a o : ConsoleId} {b : BoothId} {t c : ChannelId}

/-- The owner speaks on the channel that is requested: the channel itself changes hands. -/
theorem override_sameChannel (p : h.floorOf o b c) (ne : a ≠ o) (apart : ∀ x : ChannelId, ∀ e ∈ h.waitLists[x], e.console ≠ a) :
    let k := overrideRequest a b o c h
    h.steppedDown k o b .idle ∧ k.booths[b].queue = h.booths[b].queue ∧
      k.booths[b].owner = some a ∧ k.consoles[a].state = .live ∧ k.consoles[a].contStart = some h.now ∧
      ∀ x : ChannelId, k.channels[x].feeder = (if x = c then some a else h.channels[x].feeder) ∧
        k.waitLists[x] = h.waitLists[x] := by
  have taken : overrideRequest a b o c h = grant a b c (stepDown o .idle h) := by
    unfold overrideRequest
    rw [if_pos p.speaks, if_pos p.feeds]
  have steady := steady_grant (stepDown o .idle h) a b c
  have run : (grant a b c (stepDown o .idle h)).consoles[a] = grantRun (stepDown o .idle h) b (stepDown o .idle h).consoles[a] := by
    rw [grant_get, if_pos rfl]
  dsimp only
  rw [taken, run]
  refine ⟨steppedDown_of .idle p.booth ?_ (congrArg Account.consoleLive steady.account)
    (congrArg (fun k : Account => k.booths[b].live) steady.account), ?_, ?_, rfl, ?_, fun x => ⟨?_, ?_⟩⟩
  · rw [grant_get, if_neg ne, stepDown_get, if_pos rfl]
  · rw [grant_booths, setOwner_queue, stepDown_booths]
  · rw [grant_booths, setOwner_get, if_pos rfl]
  · exact congrArg some (stepDown_now h o .idle)
  · rw [grant_feeder, if_congr eq_comm rfl rfl, stepDown_channels]
  · rw [grant_waitLists, dropEntry_get, stepDown_waitLists]
    split
    · next e => rw [e, filter_absent (apart c)]
    · rfl

/-- The owner speaks on another channel: that is passed on before the fresh request. -/
theorem override_otherChannel (p : h.floorOf o b c) (ne : a ≠ o) (other : c ≠ t)
    (apart : ∀ x : ChannelId, ∀ e ∈ h.waitLists[x], e.console ≠ a) :
    let k := overrideRequest a b o t h
    h.steppedDown k o b .idle ∧ k.booths[b].queue = h.booths[b].queue ∧ h.headGranted k c ∧
      h.requested k a b t (h.feedersPassed c) (h.listsPassed c) (h.grantsPassed c) h.consoles[a].handoverExpiry := by
  have taken : overrideRequest a b o t h = freshRequest a b t (passed (steppedOff h o .idle b) c) := by
    unfold overrideRequest
    rw [if_pos p.speaks, if_neg (by rw [p.feeds]; exact fun e => other (Option.some.inj e)), releaseChannel_eq p.feeds]
  obtain ⟨channels, grants, queue, run, head⟩ := releaseChannel_passed .idle p
  have on := steady_passed (steppedOff h o .idle b) c
  have steady := on.trans (steady_freshRequest _ a b t)
  dsimp only
  rw [taken]
  refine ⟨steppedDown_of .idle p.booth ?_ (congrArg Account.consoleLive steady.account)
    (congrArg (fun k : Account => k.booths[b].live) steady.account), ?_, headGranted_congr head (fun e first => ?_) fun e first => ?_, ?_⟩
  · rw [freshRequest_other _ b t ne, run]
  · rw [freshRequest_booths, setOwner_queue, queue]
  · rw [freshRequest_booths, setOwner_get, if_neg (Ne.symm (p.entries c e (head_mem first)).2.1)]
  · exact freshRequest_other _ b t (Ne.symm (apart c e (head_mem first)))
  · refine freshRequest_requested _ (on.settings.trans (steppedOff_settings .idle)) (on.clock.trans (steppedOff_clock .idle))
      (on.dayOpen.trans (steppedOff_dayOpen .idle)) (fun x => (channels x).1) (fun x => (channels x).2) grants ?_ fun e m => ?_
    · rw [passed_console (by rw [steppedOff_lists]; exact apart c), steppedOff_get, if_neg (Ne.symm ne)]
    · obtain ⟨x, m⟩ := mem_listsPassed m
      exact apart x e m

theorem dismissWaiter_get (x : ConsoleId) : (dismissWaiter o h).consoles[x] =
    if o = x then unwaitRun .idle h.consoles[x] else h.consoles[x] := modConsole_get ..

/-- The owner waits on the channel that is requested: its place on the list is taken over. -/
theorem override_samePlace (p : h.waitOf o b c) (ne : a ≠ o) :
    let k := overrideRequest a b o c h
    k.consoles[o] = unwaitRun .idle h.consoles[o] ∧ k.booths[b].queue = h.booths[b].queue ∧
      k.booths[b].owner = some a ∧ k.consoles[a].state = .requesting ∧ k.work.granted = h.work.granted ∧
      ∀ x : ChannelId, k.channels[x].feeder = h.channels[x].feeder ∧
        k.waitLists[x] = if x = c then h.waitLists[c].map fun e => if e.console = o then ⟨a, b⟩ else e
          else h.waitLists[x] := by
  have taken : overrideRequest a b o c h = (setOwner b (some a) ((dismissWaiter o h).modConsole a fun r =>
      { r with state := .requesting, engagedFlash := none })).modWaitList c fun l =>
        l.map fun e => if e.console = o then ⟨a, b⟩ else e := by
    unfold overrideRequest
    rw [p.waits, if_neg (by decide), p.waitsOn]
    exact if_pos rfl
  dsimp only
  rw [taken]
  refine ⟨?_, setOwner_queue .., ?_, ?_, rfl, fun x => ⟨rfl, ?_⟩⟩
  · exact ((modConsole_get ..).trans (if_neg ne)).trans ((dismissWaiter_get o).trans (if_pos rfl))
  · exact congrArg BoothRun.owner ((setOwner_get ..).trans (if_pos rfl))
  · exact congrArg ConsoleRun.state ((modConsole_get ..).trans (if_pos rfl))
  · rw [modWaitList_get, if_congr eq_comm rfl rfl]
    by_cases e : x = c
    · rw [if_pos e, if_pos e, e]
      rfl
    · rw [if_neg e, if_neg e]
      rfl

/-- The owner waits on another channel: its place is left before the fresh request. -/
theorem override_otherPlace (p : h.waitOf o b c) (ne : a ≠ o) (other : c ≠ t)
    (apart : ∀ x : ChannelId, ∀ e ∈ h.waitLists[x], e.console ≠ a) :
    let k := overrideRequest a b o t h
    k.consoles[o] = unwaitRun .idle h.consoles[o] ∧ k.booths[b].queue = h.booths[b].queue ∧
      h.requested k a b t (fun x => h.channels[x].feeder)
        (fun x => if x = c then h.waitLists[c].filter fun e => e.console != o else h.waitLists[x]) h.work.granted
        h.consoles[a].handoverExpiry := by
  have taken : overrideRequest a b o t h = freshRequest a b t (setOwner b none (dropEntry c o (dismissWaiter o h))) := by
    unfold overrideRequest
    rw [p.waits, if_neg (by decide), p.waitsOn]
    exact if_neg other
  dsimp only
  rw [taken]
  refine ⟨?_, ?_, freshRequest_requested _ rfl rfl rfl (fun x => rfl) (fun x => dropEntry_get ..) rfl ?_ fun e m => ?_⟩
  · rw [freshRequest_other _ b t ne]
    exact (dismissWaiter_get o).trans (if_pos rfl)
  · rw [freshRequest_booths, setOwner_queue, setOwner_queue]
    rfl
  · exact congrArg ConsoleRun.handoverExpiry ((dismissWaiter_get a).trans (if_neg (Ne.symm ne)))
  · split at m
    · exact apart c e (List.mem_of_mem_filter m)
    · exact apart t e m

/-- A TALK press of an idle console in an OVERRIDE booth that has an owner is such a request (R46, R48). -/
theorem talkPress_overrides (booth : h.boothOf a = some b) (idle : h.consoles[a].state = .idle)
    (enabled : h.settings.booths[b].enabled = true) (mode : h.settings.booths[b].mode = .override)
    (owner : h.booths[b].owner = some o) (target : h.target a = some t) : talkPress a h = overrideRequest a b o t h := by
  unfold talkPress
  rw [booth]
  dsimp only
  rw [idle]
  dsimp only
  unfold talkRequest
  rw [if_neg (by rw [enabled]; decide), target]
  dsimp only
  rw [owner]
  exact if_pos mode

end

/-- Settles O49: the HANDOVER press and the OVERRIDE request, each by what its target is, and the presses that give them. -/
theorem handoverAndOverride : Obligations.HandoverAndOverride := by
  refine ⟨fun h a b c y rest p q => ?_, fun h a b booth idle => handoverPress_ignored booth idle,
    fun s a old accepts up => pressTakes_of accepts (keyEvents_handover up),
    fun h a b o t ne _ _ apart => ⟨fun c p => ?_, fun c p => ?_⟩, fun s a old b o t accepts up booth idle enabled mode owner target => ?_⟩
  · obtain ⟨down, queue, handovers, asks⟩ := handoverPress_stepsDown p q
    obtain ⟨same, other⟩ := handoverPress_turn p q
    exact ⟨down, queue, handovers, asks, fun m => handoverPress_meters p q m, same, other⟩
  · by_cases same : c = t
    · rw [← same]
      obtain ⟨down, queue, given⟩ := override_sameChannel p ne apart
      exact ⟨down, queue, fun _ => given, fun other => absurd rfl other⟩
    · obtain ⟨down, queue, given⟩ := override_otherChannel p ne same apart
      exact ⟨down, queue, fun e => absurd e same, fun _ => given⟩
  · by_cases same : c = t
    · rw [← same]
      obtain ⟨run, queue, given⟩ := override_samePlace p ne
      exact ⟨congrArg ConsoleRun.state run, congrArg ConsoleRun.handoverExpiry run, queue, fun _ => given,
        fun other => absurd rfl other⟩
    · obtain ⟨run, queue, given⟩ := override_otherPlace p ne same apart
      exact ⟨congrArg ConsoleRun.state run, congrArg ConsoleRun.handoverExpiry run, queue, fun e => absurd e same, fun _ => given⟩
  · have takes := pressTakes_of accepts (keyEvents_talk up)
    have run : (s.hall.keysAccepted a { old with talk := true }).consoles[a] =
      { s.hall.consoles[a] with bad := 0, accepted := some { old with talk := true }, candidate := none } := afterExchange_get _
    rwa [keyPress, talkPress_overrides (h := s.hall.keysAccepted a _) (b := b) (o := o) (t := t) booth (by rw [run]; exact idle) enabled mode owner ?_] at takes
    rw [← target]
    exact target_congr rfl (congrArg ConsoleRun.output run :)

end Sys2Proof.StepProofs
end

-- ==== Proofs: Booths ====
section
/-! PROOFS. OUTPUT of a console that speaks, RELAY-NEXT, SET BOOTH, and a booth made DISABLED (R21, R51, R59, R62, R68). -/

namespace Sys2Proof.StepProofs

open Machine

/-! ### OUTPUT of a console that speaks (R59) -/

section
variable {h : Hall} {a : ConsoleId} {b : BoothId} {c : ChannelId}

theorem feeder_of_feeds (feeds : h.feeds a = some c) : h.channels[c].feeder = some a := by
  unfold Hall.feeds at feeds
  exact eq_of_beq (List.find?_some feeds :)

theorem outputPress_speaks (p : h.floorOf a b c) (o : Output) : outputPress a o h = moveFeed a b o h := by
  unfold outputPress
  rw [p.booth]
  dsimp only
  have speaks := p.speaks
  cases e : h.consoles[a].state with
  | live | muted => rfl
  | absent | idle | requesting | fault | quarantined =>
    rw [e] at speaks
    cases speaks

theorem moveFeed_ignored {o : Output} (same : h.consoles[a].output = o) : moveFeed a b o h = h := if_pos same

theorem moveFeed_refused {o : Output} (p : h.floorOf a b c) (other : h.consoles[a].output ≠ o)
    (taken : h.settings.booths[b].output o = none ∨ ∃ x, h.settings.booths[b].output o = some x ∧ h.channels[x].feeder ≠ none) :
    moveFeed a b o h = flash a h := by
  unfold moveFeed
  rw [if_neg other, p.feeds]
  rcases taken with none | ⟨x, some, feeder⟩
  · rw [none]
  · rw [some]
    exact if_pos (Option.isSome_iff_ne_none.mpr feeder)

/-- The feed is set up on the new channel, and the old one is still to be passed on (R59). -/
def feedMoved (h : Hall) (a : ConsoleId) (o : Output) (x : ChannelId) : Hall :=
  setFeeder x (some a) (h.modConsole a fun r => { r with output := o })

theorem moveFeed_moves {o : Output} {x : ChannelId} (p : h.floorOf a b c) (other : h.consoles[a].output ≠ o)
    (names : h.settings.booths[b].output o = some x) (free : h.channels[x].feeder = none) :
    moveFeed a b o h = passed (feedMoved h a o x) c := by
  unfold moveFeed
  rw [if_neg other, p.feeds, names]
  exact if_neg (by rw [free]; decide)

theorem moveFeed_leaves {o : Output} {x : ChannelId} (p : h.floorOf a b c) (other : h.consoles[a].output ≠ o)
    (names : h.settings.booths[b].output o = some x) (free : h.channels[x].feeder = none) :
    let k := moveFeed a b o h
    k.consoles[a] = { h.consoles[a] with output := o } ∧ k.booths[b] = h.booths[b] ∧ h.headGranted k c ∧
      k.work.granted = h.grantsPassed c ∧ k.account = h.account ∧ k.settings = h.settings ∧
      ∀ y : ChannelId, k.channels[y].feeder = (if y = x then some a else h.feedersPassed c y) ∧
        k.waitLists[y] = h.listsPassed c y := by
  have apart : c ≠ x := by
    intro e
    rw [← e, feeder_of_feeds p.feeds] at free
    cases free
  have booth : (passed (feedMoved h a o x) c).booths[b] = h.booths[b] := passed_booth fun e m => (p.entries c e m).2.1
  have head : h.headGranted (passed (feedMoved h a o x) c) c := passed_headGranted rfl rfl rfl
  have steady := steady_passed (feedMoved h a o x) c
  have run : (passed (feedMoved h a o x) c).consoles[a] = { h.consoles[a] with output := o } := by
    rw [passed_console (h := feedMoved h a o x) fun e m => (p.entries c e m).1]
    exact (modConsole_get ..).trans (if_pos rfl)
  have feeder (y : ChannelId) : (passed (feedMoved h a o x) c).channels[y].feeder =
      if y = x then some a else h.feedersPassed c y := by
    rw [passed_feeder]
    unfold Hall.feedersPassed
    rw [show (feedMoved h a o x).channels[y].feeder = if x = y then some a else h.channels[y].feeder from setFeeder_get ..,
      if_congr (eq_comm (a := x)) rfl rfl]
    by_cases e : y = c
    · rw [if_pos e, if_pos e, if_neg fun same => apart (e.symm.trans same)]
      rfl
    · rw [if_neg e, if_neg e]
  have grants : (passed (feedMoved h a o x) c).work.granted = h.grantsPassed c := passed_granted c
  have lists (y : ChannelId) : (passed (feedMoved h a o x) c).waitLists[y] = h.listsPassed c y :=
    passed_lists (h := feedMoved h a o x) (show ((feedMoved h a o x).waitLists[c].map _).Nodup from p.lists c) y
  dsimp only
  rw [moveFeed_moves p other names free]
  exact ⟨run, booth, head, grants, steady.account, steady.settings, fun y => ⟨feeder y, lists y⟩⟩

/-- OUTPUT of a console that speaks, by what the key names (R59). -/
theorem outputPress_gives (p : h.floorOf a b c) (o : Output) :
    let k := outputPress a o h
    let r := h.consoles[a]
    let t := h.settings.booths[b].output o
    ifElse (r.output = o) (k = h) <|
    ifElse (t = none ∨ ∃ x, t = some x ∧ h.channels[x].feeder ≠ none)
      (k = { h with consoles := vset h.consoles a { r with engagedFlash := some (h.tenths + 20) } }) <|
    ∀ x, t = some x →
      k.consoles[a] = { r with output := o } ∧ k.booths[b] = h.booths[b] ∧ h.headGranted k c ∧
      k.work.granted = h.grantsPassed c ∧ k.account = h.account ∧ k.settings = h.settings ∧
      ∀ y : ChannelId, k.channels[y].feeder = (if y = x then some a else h.feedersPassed c y) ∧
        k.waitLists[y] = h.listsPassed c y := by
  dsimp only
  rw [outputPress_speaks p]
  refine ⟨moveFeed_ignored, fun other => ⟨moveFeed_refused p other, fun open_ x names => moveFeed_leaves p other names ?_⟩⟩
  by_contra taken
  exact open_ (.inr ⟨x, names, taken⟩)

end

/-! ### RELAY-NEXT (R68) -/

theorem nextSource_some (list : List ChannelId) (c : ChannelId) :
    nextSource list (some c) = ((list.dropWhile fun d => d != c).drop 1).head? := by
  show (if c ∈ list then list[list.idxOf c + 1]? else none) = _
  induction list with
  | nil => rfl
  | cons d list ih =>
    by_cases e : d = c
    · rw [e, if_pos (.head _), List.idxOf_cons_self, List.dropWhile_cons_of_neg (by simp)]
      cases list <;> rfl
    · have mem : c ∈ d :: list ↔ c ∈ list :=
        ⟨fun m => (List.mem_cons.mp m).resolve_left (Ne.symm e), .tail _⟩
      rw [List.dropWhile_cons_of_pos (p := fun d => d != c) (bne_iff_ne.mpr e), ← ih, if_congr mem rfl rfl, List.idxOf_cons_ne _ e]
      rfl

theorem nextSource_eq (list : List ChannelId) (x : Option ChannelId) : nextSource list x =
    match x with
    | none => list.head?
    | some c => ((list.dropWhile fun d => d != c).drop 1).head? := by
  cases x with
  | none => rfl
  | some c => exact nextSource_some list c

section
variable {h : Hall} {a : ConsoleId} {b : BoothId}

theorem relayNextPress_empty (booth : h.boothOf a = some b) (empty : h.settings.booths[b].relayList = []) :
    relayNextPress a h = h := by
  unfold relayNextPress
  rw [booth]
  exact if_pos (.inl empty)

theorem relayNextPress_some (booth : h.boothOf a = some b) (polled : h.consoles[a].state.polled = true)
    (some : h.settings.booths[b].relayList ≠ []) : relayNextPress a h =
      match h.booths[b].owner with
      | .some _ => h.modConsole a fun r => { r with relaySel := nextSource h.settings.booths[b].relayList r.relaySel }
      | none =>
        if h.consoles[a].state = .idle then
          (h.modBooth b fun r => { r with unowned := nextSource h.settings.booths[b].relayList h.booths[b].unowned }).modConsole a
            fun r => { r with relaySel := nextSource h.settings.booths[b].relayList h.booths[b].unowned }
        else h := by
  unfold relayNextPress
  rw [booth]
  refine (if_neg ?_).trans rfl
  rw [not_or]
  exact ⟨some, by rw [polled]; decide⟩

theorem relayNextPress_owned (booth : h.boothOf a = some b) (polled : h.consoles[a].state.polled = true)
    (some : h.settings.booths[b].relayList ≠ []) (owned : h.booths[b].owner ≠ none) : relayNextPress a h =
      h.modConsole a fun r => { r with relaySel := nextSource h.settings.booths[b].relayList r.relaySel } := by
  obtain ⟨o, owner⟩ := Option.ne_none_iff_exists'.mp owned
  rw [relayNextPress_some booth polled some, owner]

theorem relayNextPress_unowned (booth : h.boothOf a = some b) (some : h.settings.booths[b].relayList ≠ [])
    (unowned : h.booths[b].owner = none) (idle : h.consoles[a].state = .idle) : relayNextPress a h =
      (h.modBooth b fun r => { r with unowned := nextSource h.settings.booths[b].relayList h.booths[b].unowned }).modConsole a
        fun r => { r with relaySel := nextSource h.settings.booths[b].relayList h.booths[b].unowned } := by
  rw [relayNextPress_some booth (by rw [idle]; rfl) some, unowned]
  exact if_pos idle

end

/-! ### A booth made DISABLED (R21, R62) -/

section
variable {h : Hall} {b : BoothId} {o : ConsoleId} {c : ChannelId}

/-- The blocks as the booth's queue is emptied. -/
def queueCleared (b : BoothId) (h : Hall) : Hall :=
  { h with
    consoles := vtab fun a => if a ∈ h.booths[b].queue then { h.consoles[a] with state := .idle, handoverExpiry := none }
      else h.consoles[a]
    booths := vmod h.booths b fun r => { r with queue := [] } }

theorem disableBooth_eq (b : BoothId) (h : Hall) : disableBooth b h =
    setOwner b none (match h.booths[b].owner with
      | none => queueCleared b h
      | some o =>
        if (queueCleared b h).consoles[o].state.onChannel then release o .idle (queueCleared b h)
        else
          match (queueCleared b h).waitsOn o with
          | some c => dropEntry c o (dismissWaiter o (queueCleared b h))
          | none => dismissWaiter o (queueCleared b h)) := by
  unfold disableBooth
  dsimp only
  rw [foldl_modConsole (f := fun r => { r with state := .idle, handoverExpiry := none }) fun r => rfl]
  rfl

theorem queueCleared_get (a : ConsoleId) : (queueCleared b h).consoles[a] =
    if a ∈ h.booths[b].queue then { h.consoles[a] with state := .idle, handoverExpiry := none } else h.consoles[a] :=
  vtab_get ..

theorem queueCleared_queue : (queueCleared b h).booths[b].queue = [] :=
  congrArg BoothRun.queue ((vmod_get ..).trans (if_pos rfl))

theorem queueCleared_idle {k : Hall} (same : ∀ a ∈ h.booths[b].queue, k.consoles[a] = (queueCleared b h).consoles[a]) :
    ∀ a ∈ h.booths[b].queue, k.consoles[a].state = .idle ∧ k.consoles[a].handoverExpiry = none := by
  intro a queued
  rw [same a queued, queueCleared_get, if_pos queued]
  exact ⟨rfl, rfl⟩

theorem disableBooth_unowned (owner : h.booths[b].owner = none) : disableBooth b h = setOwner b none (queueCleared b h) := by
  rw [disableBooth_eq, owner]

theorem queueCleared_floor (p : h.floorOf o b c) : (queueCleared b h).floorOf o b c where
  booth := p.booth
  speaks := by
    rw [queueCleared_get, if_neg p.absent]
    exact p.speaks
  feeds := p.feeds
  queue := by
    rw [queueCleared_queue]
    exact .nil
  absent := by
    rw [queueCleared_queue]
    exact List.not_mem_nil
  lists := p.lists
  entries x e m := by
    rw [queueCleared_queue]
    exact ⟨(p.entries x e m).1, (p.entries x e m).2.1, List.not_mem_nil⟩

theorem disableBooth_speaks (p : h.floorOf o b c) (owner : h.booths[b].owner = some o) :
    disableBooth b h = setOwner b none (release o .idle (queueCleared b h)) := by
  rw [disableBooth_eq, owner]
  exact congrArg (setOwner b none) (if_pos (queueCleared_floor p).speaks)

theorem disableBooth_waits (p : h.waitOf o b c) (owner : h.booths[b].owner = some o) :
    disableBooth b h = setOwner b none (dropEntry c o (dismissWaiter o (queueCleared b h))) := by
  rw [disableBooth_eq, owner]
  refine congrArg (setOwner b none) ((if_neg ?_).trans ?_)
  · rw [queueCleared_get, if_neg p.absent, p.waits]
    decide
  · rw [show (queueCleared b h).waitsOn o = some c from p.waitsOn]

theorem disableBooth_owner (b : BoothId) (h : Hall) : (disableBooth b h).booths[b].owner = none := by
  rw [disableBooth_eq, setOwner_get, if_pos rfl]

/-- The owner speaks: it steps down, and its channel is passed on, the booth being left to nobody. -/
theorem disableBooth_stepsDown (p : h.floorOf o b c) (owner : h.booths[b].owner = some o)
    (apart : ∀ a ∈ h.booths[b].queue, ∀ x : ChannelId, ∀ e ∈ h.waitLists[x], e.console ≠ a) :
    let k := disableBooth b h
    k.booths[b].queue = [] ∧ (∀ a ∈ h.booths[b].queue, k.consoles[a].state = .idle ∧ k.consoles[a].handoverExpiry = none) ∧
      h.steppedDown k o b .idle ∧ h.headGranted k c ∧ k.work.granted = h.grantsPassed c ∧
      ∀ x : ChannelId, k.channels[x].feeder = h.feedersPassed c x ∧ k.waitLists[x] = h.listsPassed c x := by
  have cleared := queueCleared_floor p
  obtain ⟨down, head, pass, -, -⟩ := release_passesOn .idle cleared
  have run : (queueCleared b h).consoles[o] = h.consoles[o] := by rw [queueCleared_get, if_neg p.absent]
  unfold Hall.passedOn at pass
  rw [queueCleared_queue] at pass
  obtain ⟨queue, -, grants, channels⟩ := pass
  dsimp only
  rw [disableBooth_speaks p owner]
  refine ⟨(setOwner_queue ..).trans queue, queueCleared_idle fun a queued => ?_, ?_, headGranted_congr head (fun e first => ?_)
    fun _ _ => rfl, grants, channels⟩
  · show (release o .idle (queueCleared b h)).consoles[a] = _
    have empty : (passed (steppedOff (queueCleared b h) o .idle b) c).booths[b].queue = [] := by
      rw [passed_queue, steppedOff_queue, queueCleared_queue]
    rw [release_eq cleared, boothPassOn_console _ (by rw [empty]; exact List.not_mem_nil),
      passed_console (by rw [steppedOff_lists]; exact apart a queued c), steppedOff_get, if_neg fun e : o = a => p.absent (by rwa [e])]
  · unfold Hall.steppedDown Hall.consoleLiveMinutes at *
    rw [run] at down
    exact down
  · rw [setOwner_get, if_neg (Ne.symm (p.entries c e (head_mem first)).2.1)]

/-- The owner waits: it leaves its place on the list. -/
theorem disableBooth_endsWait (p : h.waitOf o b c) (owner : h.booths[b].owner = some o) :
    let k := disableBooth b h
    k.booths[b].queue = [] ∧ (∀ a ∈ h.booths[b].queue, k.consoles[a].state = .idle ∧ k.consoles[a].handoverExpiry = none) ∧
      k.consoles[o].state = .idle ∧ k.consoles[o].handoverExpiry = none ∧ k.channels = h.channels ∧
      k.work.granted = h.work.granted ∧
      ∀ x : ChannelId, k.waitLists[x] =
        if x = c then h.waitLists[c].filter fun e => e.console != o else h.waitLists[x] := by
  have run : (disableBooth b h).consoles[o] = unwaitRun .idle (queueCleared b h).consoles[o] := by
    rw [disableBooth_waits p owner]
    exact (dismissWaiter_get o).trans (if_pos rfl)
  dsimp only
  rw [run, disableBooth_waits p owner]
  refine ⟨(setOwner_queue ..).trans queueCleared_queue, queueCleared_idle fun a queued => ?_, rfl, rfl, rfl, rfl,
    fun x => dropEntry_get ..⟩
  exact (dismissWaiter_get a).trans (if_neg fun e : o = a => p.absent (by rwa [e]))

theorem releaseChannel_queue (a : ConsoleId) (v : ConsoleState) (x y : BoothId) (k : Hall) :
    (releaseChannel a v x k).booths[y].queue = k.booths[y].queue := by
  cases feeds : k.feeds a with
  | some c => rw [releaseChannel_eq feeds, passed_queue, steppedOff_queue]
  | none =>
    unfold releaseChannel
    rw [feeds]
    exact steppedOff_queue v y

theorem release_queue (a : ConsoleId) (v : ConsoleState) {y : BoothId} {k : Hall} (empty : k.booths[y].queue = []) :
    (release a v k).booths[y].queue = [] := by
  unfold release
  split
  · next x _ =>
    by_cases e : x = y
    · have cleared := (releaseChannel_queue a v x y k).trans empty
      rw [e] at cleared ⊢
      rw [boothPassOn_nil _ cleared, setOwner_queue, cleared]
    · rw [boothPassOn_booth _ e, releaseChannel_queue, empty]
  · rw [stepDown_booths, empty]

theorem disableBooth_queue (b : BoothId) (h : Hall) : (disableBooth b h).booths[b].queue = [] := by
  rw [disableBooth_eq, setOwner_queue]
  have cleared := queueCleared_queue (h := h) (b := b)
  generalize queueCleared b h = k at cleared
  split
  · exact cleared
  · split
    · exact release_queue _ _ cleared
    · split
      · exact cleared
      · exact cleared

end

theorem release_clock (a : ConsoleId) (v : ConsoleState) (h : Hall) : (release a v h).clock = h.clock := by
  have channel (b : BoothId) : (releaseChannel a v b h).clock = h.clock := by
    cases feeds : h.feeds a with
    | some c =>
      rw [releaseChannel_eq feeds]
      exact (steady_passed _ c).clock.trans (steppedOff_clock v)
    | none =>
      unfold releaseChannel
      rw [feeds]
      exact steppedOff_clock v
  unfold release
  split
  · exact (steady_boothPassOn _ _).clock.trans (channel _)
  · exact stepDown_clock h a v

theorem disableBooth_clock (b : BoothId) (h : Hall) : (disableBooth b h).clock = h.clock := by
  rw [disableBooth_eq]
  show Hall.clock (match h.booths[b].owner with | none => _ | some o => _) = _
  split
  · rfl
  · split
    · exact release_clock _ _ _
    · split <;> rfl

/-! ### SET BOOTH -/

theorem tested_good {l : List (Bool × AnswerCode)} (good : firstFailing l = none) (s : State) (v : Verdict) :
    tested l s v = v := by
  unfold tested
  rw [good]

section
variable {s : State} {a : SetBoothArgs} {b : BoothId}

/-- An output that is neither a channel of the plan nor NONE is named. -/
def outOfPlan (a : SetBoothArgs) : Bool :=
  a.outA.any (fun o => (outputChannel o).isNone) || a.outB.any (fun o => (outputChannel o).isNone)

theorem outputChannel_isNone (n : Nat) : (outputChannel (some n)).isNone = true ↔ n = 0 ∨ 31 < n := by
  by_cases h : 1 ≤ n ∧ n < 32
  · simp only [outputChannel, dif_pos h]
    simp
    omega
  · simp only [outputChannel, dif_neg h]
    simp
    omega

theorem outputOut_iff (x : Arg (Option Nat)) : (x.any fun o => (outputChannel o).isNone) = true ↔
    ∃ n, x = .val (some n) ∧ (n = 0 ∨ 31 < n) := by
  match x with
  | .absent => simp [Arg.any, Arg.val?]
  | .bad => simp [Arg.any, Arg.val?]
  | .val none => simp [Arg.any, Arg.val?, outputChannel]
  | .val (some n) =>
    simpa [Arg.any, Arg.val?] using outputChannel_isNone n

theorem outOfPlan_iff : outOfPlan a = true ↔ ∃ n, (a.outA = .val (some n) ∨ a.outB = .val (some n)) ∧ (n = 0 ∨ 31 < n) := by
  unfold outOfPlan
  rw [Bool.or_eq_true, outputOut_iff, outputOut_iff]
  constructor
  · rintro (⟨n, h, out⟩ | ⟨n, h, out⟩)
    · exact ⟨n, .inl h, out⟩
    · exact ⟨n, .inr h, out⟩
  · rintro ⟨n, h | h, out⟩
    · exact .inl ⟨n, h, out⟩
    · exact .inr ⟨n, h, out⟩

theorem inPlan_of (outputs : ∀ o, a.outA = .val o ∨ a.outB = .val o → (outputChannel o).isSome = true) :
    outOfPlan a = false := by
  rw [Bool.eq_false_iff]
  intro out
  obtain ⟨n, given, out⟩ := outOfPlan_iff.mp out
  have known := outputs _ given
  rw [Option.isSome_iff_ne_none] at known
  exact known (Option.isNone_iff_eq_none.mp ((outputChannel_isNone n).mpr out))

theorem setBooth_taken (h : a.booth = .val (numOf b)) : Machine.setBooth a s =
    tested ((outOfPlan a, .range) :: (a.malformed, .syntaxError) :: boothTests s.pfw s.hall b a) s
      (.wait onlySettings (.ok .plain a.clamps) { s with hall := applyBooth b a s.hall }) := by
  unfold Machine.setBooth
  rw [h, needId_val (idFrom1_numOf b)]
  rfl

theorem setBooth_range (out : a.booth.outOf 1 16 ∨ ∃ n, (a.outA = .val (some n) ∨ a.outB = .val (some n)) ∧ (n = 0 ∨ 31 < n)) :
    Machine.setBooth a s = refuse .range s := by
  rcases idFrom1_cases 16 a.booth with number | bad | ⟨b, h⟩
  · unfold Machine.setBooth
    rw [needId_outOf1 number]
  · have plan := outOfPlan_iff.mpr (out.resolve_left (bad ▸ bad_not_outOf))
    unfold Machine.setBooth
    rw [bad]
    exact if_pos plan
  · have plan := outOfPlan_iff.mpr (out.resolve_left (h ▸ numOf_not_outOf b))
    rw [setBooth_taken h, tested_fails plan]

theorem setBooth_malformed (within : ¬ (a.booth.outOf 1 16 ∨ ∃ n, (a.outA = .val (some n) ∨ a.outB = .val (some n)) ∧
    (n = 0 ∨ 31 < n))) (bad : a.malformed = true) : Machine.setBooth a s = refuse .syntaxError s := by
  have plan : outOfPlan a = false := Bool.eq_false_iff.mpr fun out => within (.inr (outOfPlan_iff.mp out))
  rcases idFrom1_cases 16 a.booth with number | malformed | ⟨b, h⟩
  · exact absurd (.inl number) within
  · unfold Machine.setBooth
    rw [malformed]
    exact if_neg (Bool.eq_false_iff.mp plan)
  · rw [setBooth_taken h, tested_passes plan, tested_fails bad]

theorem boothArgs_bad (bad : a.booth = .bad ∨ a.en = .bad ∨ a.outA = .bad ∨ a.outB = .bad ∨ a.mode = .bad ∨ a.hto = .bad ∨
    a.shift1 = .bad ∨ a.shiftR = .bad ∨ ∃ d, a.hto = .val d ∧ 1 < d.places.length) : a.malformed = true := by
  rcases bad with h | h | h | h | h | h | h | h | ⟨d, h, fine⟩
  case inr.inr.inr.inr.inr.inr.inr.inr => simp [SetBoothArgs.malformed, tooFine_val h fine]
  all_goals simp [SetBoothArgs.malformed, h, Arg.isBad]

theorem boothClamps_eq (a : SetBoothArgs) : a.clamps =
    clampedTenths "HTO" 20 600 a.hto ++ clamped "SHIFT1" 1 90 a.shift1 ++ clamped "SHIFTR" 0 30 a.shiftR := by
  unfold SetBoothArgs.clamps
  rw [clampMarkTenths_eq _ (by decide), clampMark_eq _ (by decide), clampMark_eq _ (by decide)]

/-- What is left of SET BOOTH's tests where its arguments are in form. -/
theorem setBooth_tested (p : s.ready) (booth : a.booth = .val (numOf b)) (good : a.malformed = false)
    (outputs : ∀ o, a.outA = .val o ∨ a.outB = .val o → (outputChannel o).isSome = true) :
    Machine.setBooth a s.opened = tested (boothTests false s.hall b a) s.opened
      (.wait onlySettings (.ok .plain (clampedTenths "HTO" 20 600 a.hto ++ clamped "SHIFT1" 1 90 a.shift1 ++
        clamped "SHIFTR" 0 30 a.shiftR)) { s.opened with hall := applyBooth b a s.hall }) := by
  rw [setBooth_taken booth, tested_passes (inPlan_of outputs), tested_passes good, boothClamps_eq,
    show boothTests s.opened.pfw s.opened.hall b a = boothTests false s.hall b a from by rw [ready_pfw p]; rfl]
  rfl

theorem setBooth_passes (p : s.ready) (booth : a.booth = .val (numOf b)) (good : a.malformed = false)
    (outputs : ∀ o, a.outA = .val o ∨ a.outB = .val o → (outputChannel o).isSome = true)
    (passes : firstFailing (boothTests false s.hall b a) = none) :
    Machine.setBooth a s.opened = .wait onlySettings (.ok .plain (clampedTenths "HTO" 20 600 a.hto ++
      clamped "SHIFT1" 1 90 a.shift1 ++ clamped "SHIFTR" 0 30 a.shiftR)) { s.opened with hall := applyBooth b a s.hall } := by
  rw [setBooth_tested p booth good outputs, tested_good passes]

theorem outputOr_eq (x : Arg (Option Nat)) (o : Option ChannelId) : outputOr x o = (x.val?.bind outputChannel).getD o := by
  cases x <;> rfl

theorem boothApply_eq (a : SetBoothArgs) (r : BoothSettings) : a.apply r =
    ⟨a.en.or r.enabled, (a.outA.val?.bind outputChannel).getD r.outA, (a.outB.val?.bind outputChannel).getD r.outB,
      a.mode.or r.mode, tenthsOr 20 600 r.timeout a.hto, clampOr 1 90 r.shift1 a.shift1, clampOr 0 30 r.shiftR a.shiftR,
      r.relayList⟩ := by
  unfold SetBoothArgs.apply
  rw [outputOr_eq, outputOr_eq]

theorem outputDisabled_iff (h : Hall) (o : Option ChannelId) :
    h.outputDisabled o = true ↔ ∃ c, o = some c ∧ h.settings.channels[c].enabled = false := by
  cases o <;> simp [Hall.outputDisabled]

theorem outputCrowded_iff (h : Hall) (b : BoothId) (o : Option ChannelId) : h.outputCrowded b o = true ↔
    ∃ c, o = some c ∧ 4 ≤ ((ids 16).filter fun x => x != b && h.settings.booths[x].names c).length := by
  cases o <;> simp [Hall.outputCrowded]

/-- The relay graph's answer for a booth's new settings, asked for where an output changes. -/
def graphTest (h : Hall) (b : BoothId) (new : BoothSettings) : Option AnswerCode :=
  if new.outA != h.settings.booths[b].outA || new.outB != h.settings.booths[b].outB then
    relayCheck (vset h.settings.booths b new)
  else none

/-- SET BOOTH's tests past the power-fail warning, as they stand for the new settings (R21). -/
theorem boothTests_of {h : Hall} {new : BoothSettings} (e : a.apply h.settings.booths[b] = new) : boothTests false h b a =
    [(false, .powerFail),
      ((new.outA != h.settings.booths[b].outA || new.outB != h.settings.booths[b].outB) && (h.booths[b].owner).isSome, .state),
      (h.outputDisabled new.outA || h.outputDisabled new.outB, .state),
      (new.outA.isSome && new.outA == new.outB, .duplicate),
      (h.outputCrowded b new.outA || h.outputCrowded b new.outB, .full),
      ((graphTest h b new).isSome, (graphTest h b new).getD .loop)] := by
  rw [← e]
  rfl

theorem outputsChange_iff (new old : BoothSettings) :
    (new.outA != old.outA || new.outB != old.outB) = true ↔ new.outA ≠ old.outA ∨ new.outB ≠ old.outB := by
  rw [Bool.or_eq_true, bne_iff_ne, bne_iff_ne]

theorem graphTest_changed {h : Hall} {new : BoothSettings}
    (changed : new.outA ≠ h.settings.booths[b].outA ∨ new.outB ≠ h.settings.booths[b].outB) :
    graphTest h b new = relayCheck (vset h.settings.booths b new) := if_pos ((outputsChange_iff _ _).mpr changed)

theorem graphTest_fine {h : Hall} {new : BoothSettings}
    (fine : ¬ ((new.outA ≠ h.settings.booths[b].outA ∨ new.outB ≠ h.settings.booths[b].outB) ∧
      relayCheck (vset h.settings.booths b new) ≠ none)) : graphTest h b new = none := by
  by_contra some
  refine fine ⟨?_, ?_⟩
  · by_contra same
    exact some (if_neg fun e => same ((outputsChange_iff _ _).mp e))
  · intro none
    by_cases changed : (new.outA != h.settings.booths[b].outA || new.outB != h.settings.booths[b].outB) = true
    · exact some ((if_pos changed).trans none)
    · exact some (if_neg changed)

theorem applyBooth_disables {h : Hall} (enabled : h.settings.booths[b].enabled = true)
    (disabled : (a.apply h.settings.booths[b]).enabled = false) : applyBooth b a h =
      settle (disableBooth b { h with settings := { h.settings with
        booths := vset h.settings.booths b (a.apply h.settings.booths[b]) } }) := by
  unfold applyBooth
  dsimp only
  rw [if_pos (by rw [enabled, disabled]; rfl)]
  rfl

theorem applyBooth_keeps {h : Hall} (stays : ¬ (h.settings.booths[b].enabled = true ∧ (a.apply h.settings.booths[b]).enabled = false)) :
    applyBooth b a h = settle { h with settings := { h.settings with
      booths := vset h.settings.booths b (a.apply h.settings.booths[b]) } } := by
  unfold applyBooth
  dsimp only
  rw [if_neg fun both => stays ?_]
  · rfl
  · rwa [Bool.and_eq_true, Bool.not_eq_true'] at both

end

/-- Settles O50: the keys of a console that speaks, and the booth that is disabled, by what its owner does. -/
theorem outputRelayAndDisable : Obligations.OutputRelayAndDisable := by
  refine ⟨fun h a b c o p => ?_, fun h a b booth polled => ⟨relayNextPress_empty booth, fun some owned => ?_,
      fun some unowned idle => ?_⟩, fun s a old => ⟨fun up accepts => pressTakes_of accepts (keyEvents_outA up),
      fun up accepts => pressTakes_of accepts (keyEvents_outB up), fun up accepts => pressTakes_of accepts (keyEvents_relayNext up)⟩,
    fun h b apart => ⟨disableBooth_owner b h, disableBooth_queue b h, fun unowned => ?_, fun o c owner p =>
      (disableBooth_stepsDown p owner apart).2, fun o c owner p => (disableBooth_endsWait p owner).2⟩,
    fun s tag b a p booth good outputs passes enabled disabled => ?_⟩
  · cases o with
    | a => exact outputPress_gives p .a
    | b => exact outputPress_gives p .b
  · rw [relayNextPress_owned booth polled some owned]
    exact congrArg (fun x => { h with consoles := vset h.consoles a { h.consoles[a] with relaySel := x } }) (nextSource_eq ..)
  · rw [relayNextPress_unowned booth some unowned idle]
    exact congrArg (fun x => { h with
      consoles := vset h.consoles a { h.consoles[a] with relaySel := x }
      booths := vmod h.booths b fun r => { r with unowned := x } }) (nextSource_eq ..)
  · rw [disableBooth_unowned unowned]
    exact ⟨queueCleared_idle fun _ _ => rfl, rfl, rfl⟩
  · refine ⟨_, answerWaits_of p.1 rfl (setBooth_passes p booth good outputs passes), ?_⟩
    rw [applyBooth_disables (enabled := enabled) (disabled := by rw [show (a.apply _).enabled = a.en.or _ from rfl, disabled]; rfl)]
    exact kept_settle _

theorem settle_disableBooth (b : BoothId) (h : Hall) :
    let k := settle (disableBooth b h)
    k.settings = h.settings ∧ k.booths[b].owner = none ∧ k.booths[b].queue = [] ∧ k.fleet = h.fleet ∧
      k.clock = h.clock ∧ k.account.log = h.account.log ∧ k.account.queue = h.account.queue := by
  have settled := kept_settle (disableBooth b h)
  have stays := stays_disableBooth h b
  exact ⟨settled.settings.trans stays.settings, (settled.owner b).trans (disableBooth_owner ..),
    (settled.queue b).trans (disableBooth_queue ..), settled.fleet.trans stays.fleet, settled.clock.trans (disableBooth_clock ..),
    settled.log.trans stays.log, settled.records.trans stays.queue⟩

/-- Settles O24: the tests of R21 in turn, and the booth that is disabled or not. -/
theorem setBooth : Obligations.SetBooth := by
  refine ⟨fun s tag a p => ⟨fun out => refused_of p rfl (setBooth_range out), fun within bad =>
    refused_of p rfl (setBooth_malformed within (boothArgs_bad bad))⟩, fun s tag b a p booth good outputs => ?_⟩
  intro h old output new
  have e : a.apply s.hall.settings.booths[b] = new := boothApply_eq ..
  clear_value new
  dsimp only [h, old]
  have test := setBooth_tested p booth good outputs
  rw [boothTests_of e, tested_passes rfl] at test
  have first : ((new.outA != s.hall.settings.booths[b].outA || new.outB != s.hall.settings.booths[b].outB) &&
      (s.hall.booths[b].owner).isSome) = true ↔
      (new.outA ≠ s.hall.settings.booths[b].outA ∨ new.outB ≠ s.hall.settings.booths[b].outB) ∧ s.hall.booths[b].owner ≠ none := by
    rw [Bool.and_eq_true, outputsChange_iff, Option.isSome_iff_ne_none]
  have second : (s.hall.outputDisabled new.outA || s.hall.outputDisabled new.outB) = true ↔
      (∃ c, new.outA = some c ∧ s.hall.settings.channels[c].enabled = false) ∨
        ∃ c, new.outB = some c ∧ s.hall.settings.channels[c].enabled = false := by
    rw [Bool.or_eq_true, outputDisabled_iff, outputDisabled_iff]
  have third : (new.outA.isSome && new.outA == new.outB) = true ↔ new.outA = new.outB ∧ new.outA ≠ none := by
    rw [Bool.and_eq_true, Option.isSome_iff_ne_none, beq_iff_eq, and_comm]
  have fourth : (s.hall.outputCrowded b new.outA || s.hall.outputCrowded b new.outB) = true ↔
      (∃ c, new.outA = some c ∧ 4 ≤ ((ids 16).filter fun x => x != b && s.hall.settings.booths[x].names c).length) ∨
        ∃ c, new.outB = some c ∧ 4 ≤ ((ids 16).filter fun x => x != b && s.hall.settings.booths[x].names c).length := by
    rw [Bool.or_eq_true, outputCrowded_iff, outputCrowded_iff]
  refine ⟨fun owned => refused_of p.1 rfl ?_, fun free => ?_⟩
  · rw [test, tested_fails (first.mpr owned)]
  rw [tested_passes (Bool.eq_false_iff.mpr (first.not.mpr free))] at test
  refine ⟨fun off => refused_of p.1 rfl ?_, fun on => ?_⟩
  · rw [test, tested_fails (second.mpr off)]
  rw [tested_passes (Bool.eq_false_iff.mpr (second.not.mpr on))] at test
  refine ⟨fun same => refused_of p.1 rfl ?_, fun apart => ?_⟩
  · rw [test, tested_fails (third.mpr same)]
  rw [tested_passes (Bool.eq_false_iff.mpr (third.not.mpr apart))] at test
  refine ⟨fun crowd => refused_of p.1 rfl ?_, fun room => ?_⟩
  · rw [test, tested_fails (fourth.mpr crowd)]
  rw [tested_passes (Bool.eq_false_iff.mpr (fourth.not.mpr room))] at test
  refine ⟨fun loops c graph => refused_of p.1 rfl ?_, fun fine => ⟨applyBooth b a s.hall, answerWaits_of p.1 rfl ?_,
    fun disables => ?_, fun stays => ?_⟩⟩
  · rw [test, graphTest_changed loops.1, graph]
    rfl
  · rw [test, graphTest_fine fine]
    rfl
  · rw [applyBooth_disables disables.1 (by rw [e]; exact disables.2), e]
    exact settle_disableBooth b _
  · rw [applyBooth_keeps (by rwa [e]), e]
    exact kept_settle _

end Sys2Proof.StepProofs
end

-- ==== Proofs: Spells ====
section
/-! PROOFS. The spells of a channel, one channel at a time and all of them, and what the allocator's and the plan's
reports leave of service states, spells and carriers (R10 to R14, R86, R89, R90). -/

namespace Sys2Proof.StepProofs

open Machine

/-! ### One spell -/

theorem spell_since (since : Option Nat) (on : Bool) (total now : Nat) :
    (spell since on total now).2 = if on then some (since.getD now) else none := by
  cases since <;> cases on <;> rfl

theorem spell_total (since : Option Nat) (on : Bool) (total now : Nat) :
    (spell since on total now).1 = if on then total else asOf since total now := by
  cases since <;> cases on <;> rfl

/-! ### The spells of a channel -/

section
variable (h : Hall)

/-- The run of a channel whose spells meet their conditions. -/
def spelledRun (c : ChannelId) : ChannelRun :=
  { h.channels[c] with
    outageSince := if h.lacks c then some (h.channels[c].outageSince.getD h.now) else none
    servedSince := if h.serves c then some (h.channels[c].servedSince.getD h.now) else none
    fillSince := if h.fills c then some (h.channels[c].fillSince.getD h.now) else none }

/-- The day figures of a channel whose spells meet their conditions. -/
def spelledDay (c : ChannelId) : ChannelDay :=
  ⟨if h.lacks c then h.account.channels[c].outage else h.outage c,
    if h.serves c then h.account.channels[c].onAir else h.onAirMinutes c,
    if h.fills c then h.account.channels[c].fill else h.fillMinutes c⟩

/-- `k` is `h` but for the spells of channels, the minutes they count, and what the meter unit moves. -/
structure Spelled (h k : Hall) : Prop where
  eq : k = { h with
    account := { h.account with channels := k.account.channels }
    channels := k.channels
    meters := k.meters
    levels := k.levels
    free := k.free
    work := { h.work with posts := k.work.posts, asks := k.work.asks } }
  run : ∀ c : ChannelId, k.channels[c] = { h.channels[c] with
    outageSince := k.channels[c].outageSince
    servedSince := k.channels[c].servedSince
    fillSince := k.channels[c].fillSince }

variable {h} {k l : Hall}

theorem Spelled.refl (h : Hall) : Spelled h h := ⟨rfl, fun _ => rfl⟩

theorem Spelled.trans (p : Spelled h k) (q : Spelled k l) : Spelled h l where
  eq := by rw [q.eq, p.eq]
  run c := by rw [q.run c, p.run c]

theorem spelled_metered (p : Metered h k) : Spelled h k where
  eq := by rw [p]
  run c := by rw [p.channels]

theorem Spelled.settings (p : Spelled h k) : k.settings = h.settings := by rw [p.eq]
theorem Spelled.fleet (p : Spelled h k) : k.fleet = h.fleet := by rw [p.eq]
theorem Spelled.clock (p : Spelled h k) : k.clock = h.clock := by rw [p.eq]
theorem Spelled.link (p : Spelled h k) : k.link = h.link := by rw [p.eq]
theorem Spelled.air (p : Spelled h k) : k.air = h.air := by rw [p.eq]
theorem Spelled.booths (p : Spelled h k) : k.booths = h.booths := by rw [p.eq]
theorem Spelled.consoles (p : Spelled h k) : k.consoles = h.consoles := by rw [p.eq]
theorem Spelled.account (p : Spelled h k) : k.account = { h.account with channels := k.account.channels } := by rw [p.eq]
theorem Spelled.faults (p : Spelled h k) : k.work.faults = h.work.faults := by rw [p.eq]
theorem Spelled.lowFired (p : Spelled h k) : k.lowFired = h.lowFired := by rw [p.eq]
theorem Spelled.now (p : Spelled h k) : k.now = h.now := congrArg Clock.minute p.clock
theorem Spelled.service (p : Spelled h k) (c : ChannelId) : k.channels[c].service = h.channels[c].service := by rw [p.run c]
theorem Spelled.demand (p : Spelled h k) (c : ChannelId) : k.channels[c].demand = h.channels[c].demand := by rw [p.run c]
theorem Spelled.peak (p : Spelled h k) (c : ChannelId) : k.channels[c].peak = h.channels[c].peak := by rw [p.run c]

/-- What the conditions of the spells are judged by: no more than this of the blocks. -/
structure Judged (h k : Hall) : Prop where
  settings : k.settings = h.settings
  slots    : k.link.slots = h.link.slots
  session  : k.account.session = h.account.session
  day      : k.account.day = h.account.day
  service  : ∀ c : ChannelId, k.channels[c].service = h.channels[c].service
  carriers : k.air.carriers = h.air.carriers

theorem judged_spelled (p : Spelled h k) : Judged h k :=
  ⟨p.settings, by rw [p.link], by rw [p.account], by rw [p.account], p.service, by rw [p.air]⟩

theorem Judged.trans (p : Judged h k) (q : Judged k l) : Judged h l :=
  ⟨q.settings.trans p.settings, q.slots.trans p.slots, q.session.trans p.session, q.day.trans p.day,
    fun c => (q.service c).trans (p.service c), q.carriers.trans p.carriers⟩

theorem dark_congr (slots : k.link.slots = h.link.slots) : k.dark = h.dark := by
  unfold Hall.dark
  rw [slots]

theorem running_congr (session : k.account.session = h.account.session) : k.running = h.running := by
  unfold Hall.running
  rw [session]

theorem carrierView_congr (carriers : k.air.carriers = h.air.carriers) (c : ChannelId) : k.carrierView c = h.carrierView c := by
  unfold Hall.carrierView Hall.carrierOf
  rw [carriers]

theorem onAir_congr {c : ChannelId} (view : k.carrierView c = h.carrierView c) : k.onAir c = h.onAir c := by
  unfold Hall.onAir
  rw [view]

theorem Judged.serves (p : Judged h k) (c : ChannelId) : k.serves c = h.serves c := by
  unfold Hall.serves
  rw [p.settings, dark_congr p.slots, running_congr p.session, p.service, onAir_congr (carrierView_congr p.carriers c)]

theorem Judged.lacks (p : Judged h k) (c : ChannelId) : k.lacks c = h.lacks c := by
  unfold Hall.lacks
  rw [p.settings, running_congr p.session, p.serves]

theorem Judged.fills (p : Judged h k) (c : ChannelId) : k.fills c = h.fills c := by
  unfold Hall.fills Hall.dayOpen
  rw [p.settings, p.service, p.day]

/-! ### A channel's spells met -/

variable (h)

theorem spells_channel (c d : ChannelId) :
    (h.spells c).channels[d] = if c = d then spelledRun h d else h.channels[d] := by
  have run : (h.spells c).channels = vmod h.channels c fun r => { r with
      outageSince := (spell h.channels[c].outageSince (h.lacks c) h.account.channels[c].outage h.now).2
      servedSince := (spell h.channels[c].servedSince (h.serves c) h.account.channels[c].onAir h.now).2
      fillSince := (spell h.channels[c].fillSince (h.fills c) h.account.channels[c].fill h.now).2 } := by
    unfold Hall.spells
    dsimp only
    split <;> rfl
  rw [run, vmod_get]
  by_cases e : c = d
  · rw [if_pos e, if_pos e, e, spell_since, spell_since, spell_since]
    rfl
  · rw [if_neg e, if_neg e]

theorem spells_day (c d : ChannelId) :
    (h.spells c).account.channels[d] = if c = d then spelledDay h d else h.account.channels[d] := by
  have day : (h.spells c).account.channels = vmod h.account.channels c fun _ =>
      ⟨(spell h.channels[c].outageSince (h.lacks c) h.account.channels[c].outage h.now).1,
        (spell h.channels[c].servedSince (h.serves c) h.account.channels[c].onAir h.now).1,
        (spell h.channels[c].fillSince (h.fills c) h.account.channels[c].fill h.now).1⟩ := by
    unfold Hall.spells
    dsimp only
    split <;> rfl
  rw [day, vmod_get]
  by_cases e : c = d
  · rw [if_pos e, if_pos e, e, spell_total, spell_total, spell_total]
    rfl
  · rw [if_neg e, if_neg e]

theorem spelled_spells (c : ChannelId) : Spelled h (h.spells c) where
  eq := by
    unfold Hall.spells
    dsimp only
    split <;> rfl
  run d := by
    rw [spells_channel]
    split <;> rfl

theorem spelled_reviewChannel (c : ChannelId) : Spelled h (reviewChannel h c) :=
  (spelled_spells h c).trans (spelled_metered (metered_handUnserved _))

theorem reviewChannel_channel (c d : ChannelId) :
    (reviewChannel h c).channels[d] = if c = d then spelledRun h d else h.channels[d] := by
  unfold reviewChannel
  rw [(metered_handUnserved _).channels, spells_channel]

theorem reviewChannel_day (c d : ChannelId) :
    (reviewChannel h c).account.channels[d] = if c = d then spelledDay h d else h.account.channels[d] := by
  unfold reviewChannel
  rw [(metered_handUnserved _).account, spells_day]

variable {h}

/-- A channel whose run and figures stand is reviewed alike. -/
theorem spelled_congr (p : Judged h k) (now : k.now = h.now) {c : ChannelId} (run : k.channels[c] = h.channels[c])
    (day : k.account.channels[c] = h.account.channels[c]) : spelledRun k c = spelledRun h c ∧ spelledDay k c = spelledDay h c := by
  unfold spelledRun spelledDay Hall.outage Hall.onAirMinutes Hall.fillMinutes
  rw [p.serves, p.lacks, p.fills, now, run, day]
  exact ⟨rfl, rfl⟩

/-- Channels reviewed one after another, each once: every one of them meets its spells, and no other is touched. -/
theorem foldl_spelled {f : Hall → ChannelId → Hall} (spelled : ∀ h c, Spelled h (f h c))
    (run : ∀ h (c d : ChannelId), (f h c).channels[d] = if c = d then spelledRun h d else h.channels[d])
    (day : ∀ h (c d : ChannelId), (f h c).account.channels[d] = if c = d then spelledDay h d else h.account.channels[d])
    {l : List ChannelId} (once : l.Nodup) (h : Hall) (d : ChannelId) :
    (l.foldl f h).channels[d] = (if d ∈ l then spelledRun h d else h.channels[d]) ∧
      (l.foldl f h).account.channels[d] = if d ∈ l then spelledDay h d else h.account.channels[d] := by
  induction l generalizing h with
  | nil => exact ⟨rfl, rfl⟩
  | cons c l ih =>
    obtain ⟨new, once⟩ := List.nodup_cons.mp once
    rw [List.foldl_cons, (ih once _).1, (ih once _).2, run, day]
    by_cases e : c = d
    · have out : d ∉ l := e ▸ new
      have mem : d ∈ c :: l := List.mem_cons.mpr (.inl e.symm)
      rw [if_neg out, if_neg out, if_pos e, if_pos e, if_pos mem, if_pos mem]
      exact ⟨rfl, rfl⟩
    · have same := spelled_congr (judged_spelled (spelled h c)) (spelled h c).now (c := d)
        ((run h c d).trans (if_neg e)) ((day h c d).trans (if_neg e))
      have mem : d ∈ c :: l ↔ d ∈ l := ⟨fun m => (List.mem_cons.mp m).resolve_left (Ne.symm e), .tail _⟩
      rw [if_neg e, if_neg e, same.1, same.2, if_congr mem rfl rfl, if_congr mem rfl rfl]
      exact ⟨rfl, rfl⟩

theorem spelled_foldl {f : Hall → ChannelId → Hall} (spelled : ∀ h c, Spelled h (f h c)) (l : List ChannelId) (h : Hall) :
    Spelled h (l.foldl f h) := foldl_keeps Spelled.refl Spelled.trans spelled l h

variable (h)

theorem spelled_spellsAll : Spelled h h.spellsAll :=
  (spelled_foldl spelled_spells _ _).trans (spelled_metered (metered_handUnserved _))

theorem spellsAll_channel (c : ChannelId) : h.spellsAll.channels[c] = spelledRun h c := by
  unfold Hall.spellsAll
  rw [(metered_handUnserved _).channels,
    (foldl_spelled spelled_spells spells_channel spells_day ChargeProofs.nodup_ids h c).1, if_pos (mem_ids c)]

theorem spellsAll_day (c : ChannelId) : h.spellsAll.account.channels[c] = spelledDay h c := by
  unfold Hall.spellsAll
  rw [(metered_handUnserved _).account,
    (foldl_spelled spelled_spells spells_channel spells_day ChargeProofs.nodup_ids h c).2, if_pos (mem_ids c)]

/-! ### The levels handed -/

theorem meterLevel_levels (kind : MeterSource) (v : Nat) : (meterLevel kind v h).levels = h.levels.set kind v := by
  rw [show (meterLevel kind v h).levels = _ from congrArg Hall.levels (meterLevel_eq kind v h)]

theorem meterLevelChange_levels {kind : MeterSource} (level : kind.isLevel = true) (v : Nat) :
    (meterLevelChange kind v h).levels.of kind = some v := by
  unfold meterLevelChange
  split
  · next same => exact same
  · rw [meterLevel_levels, levels_of_set level]

theorem meterLevelChange_other {kind other : MeterSource} (ne : other ≠ kind) (v : Nat) :
    (meterLevelChange kind v h).levels.of other = h.levels.of other := by
  unfold meterLevelChange
  split
  · rfl
  · rw [meterLevel_levels, levels_of_other ne]

/-! ### Service states -/

/-- `k` is `h` but for what the reporting operations move other than service states and emitter slots. -/
structure Serving (h k : Hall) : Prop extends h.Kept k where
  service : ∀ c : ChannelId, k.channels[c].service = h.channels[c].service
  slots   : k.link.slots = h.link.slots

variable {h}

theorem Serving.refl (h : Hall) : Serving h h := ⟨.refl h, fun _ => rfl, rfl⟩

theorem Serving.trans (p : Serving h k) (q : Serving k l) : Serving h l :=
  ⟨p.toKept.trans q.toKept, fun c => (q.service c).trans (p.service c), q.slots.trans p.slots⟩

theorem serving_of (kept : h.Kept k) (channels : k.channels = h.channels) (link : k.link = h.link) : Serving h k :=
  ⟨kept, fun c => by rw [channels], by rw [link]⟩

theorem serving_metered (p : Metered h k) : Serving h k := serving_of (kept_metered p) p.channels p.link

theorem serving_aired (p : Aired h k) : Serving h k := by
  unfold Aired at p
  refine serving_of ?_ (by rw [p]) (by rw [p])
  rw [p]
  constructor <;> first | rfl | (intro; rfl)

variable (h)

theorem serving_reviewChannel (c : ChannelId) : Serving h (reviewChannel h c) :=
  ⟨kept_reviewChannel h c, (spelled_reviewChannel h c).service, by rw [(spelled_reviewChannel h c).link]⟩

theorem serving_raiseGeneration : Serving h (raiseGeneration h) := by
  refine ⟨kept_raiseGeneration h, fun c => ?_, ?_⟩ <;> unfold raiseGeneration <;> split <;> rfl

theorem serving_handInUse : Serving h (handInUse h) := by
  unfold handInUse
  exact (serving_aired (k := { h with air := { h.air with peak := max h.air.peak h.inUse } }) rfl).trans (serving_metered (metered_meterLevelChange _ _ _))

theorem serving_allocReport (before : Hall) : Serving h (allocReport before h) := by
  unfold allocReport
  exact ((foldl_keeps Serving.refl Serving.trans serving_reviewChannel _ _).trans (serving_raiseGeneration _)).trans
    (serving_handInUse _)

theorem serving_allocEvent {act : Hall → Hall} (p : Serving h (act h)) : Serving h (allocEvent act h) :=
  (p.trans (serving_aired (aired_serveList _ _))).trans (serving_allocReport _ _)

theorem serving_resolveBooth (b : BoothId) : Serving h (resolveBooth h b) := by
  have opened (k : Hall) : (openFallbackSpell b k).channels = k.channels ∧ (openFallbackSpell b k).link = k.link := by
    unfold openFallbackSpell
    split <;> exact ⟨rfl, rfl⟩
  have ended (k : Hall) : (endFallbackSpell b k).channels = k.channels ∧ (endFallbackSpell b k).link = k.link := by
    unfold endFallbackSpell
    split <;> exact ⟨rfl, rfl⟩
  have same : (resolveBooth h b).channels = h.channels ∧ (resolveBooth h b).link = h.link := by
    unfold resolveBooth
    split
    · rw [(opened _).1, (opened _).2, (metered_meterEvent _ _).channels, (metered_meterEvent _ _).link]
      exact ⟨rfl, rfl⟩
    · exact ended _
    · exact ⟨rfl, rfl⟩
    · exact ⟨rfl, rfl⟩
  exact serving_of (kept_resolveBooth h b) same.1 same.2

theorem serving_resolveListing (c : ChannelId) : Serving h (resolveListing c h) :=
  foldl_keeps Serving.refl Serving.trans serving_resolveBooth _ _

theorem serving_resolveAll : Serving h (resolveAll h) := foldl_keeps Serving.refl Serving.trans serving_resolveBooth _ _

/-- A channel re-evaluated takes the service state of R10; the others keep theirs. -/
theorem reevaluate_service (c d : ChannelId) :
    (reevaluate h c).channels[d].service = if c = d then h.serviceOf d else h.channels[d].service := by
  unfold reevaluate
  dsimp only
  split
  · next same =>
    rw [(serving_reviewChannel h c).service]
    split
    · next e => rw [← e, same]
    · rfl
  · rw [((serving_reviewChannel _ c).trans ((serving_allocEvent _ (serving_aired (aired_serviceReport _ c _))).trans
      (serving_resolveListing _ c))).service]
    rw [show (h.modChannel c fun r => { r with service := h.serviceOf c }).channels[d] = _ from vmod_get ..]
    split
    · next e => rw [e]
    · rfl

theorem reevaluate_serviceOf (c d : ChannelId) : (reevaluate h c).serviceOf d = h.serviceOf d := by
  unfold Hall.serviceOf
  rw [(kept_reevaluate h c).settings, (kept_reevaluate h c).feeder]

theorem reevaluated_service (l : List ChannelId) (d : ChannelId) :
    (l.foldl reevaluate h).channels[d].service = if d ∈ l then h.serviceOf d else h.channels[d].service := by
  induction l generalizing h with
  | nil => rfl
  | cons c l ih =>
    rw [List.foldl_cons, ih, reevaluate_serviceOf, reevaluate_service]
    by_cases e : c = d
    · rw [if_pos e, if_pos (List.mem_cons.mpr (.inl e.symm)), ite_self]
    · have mem : d ∈ c :: l ↔ d ∈ l := ⟨fun m => (List.mem_cons.mp m).resolve_left (Ne.symm e), .tail _⟩
      rw [if_neg e, if_congr mem rfl rfl]

/-- The end of a booth controller event gives each channel whose feeder changed its service state (R50). -/
theorem settle_service (d : ChannelId) : (settle h).channels[d].service =
    if d ∈ h.work.touched then h.serviceOf d else h.channels[d].service := by
  unfold settle
  dsimp only
  rw [(metered_meterLevelChange _ _ _).channels, (serving_resolveAll _).service]
  exact reevaluated_service { h with work := { h.work with touched := [] } } h.work.touched d

end

end Sys2Proof.StepProofs
end

-- ==== Proofs: Presses ====
section
/-! PROOFS. The presses of one key, a console's expiries, FORCE RELEASE, and the choice of the next exchange (R27, R29,
R31, R34, R36, R46 to R50, R55 to R61). -/

namespace Sys2Proof.StepProofs

open Machine

/-! ### Presses of an idle console -/

section
variable {h : Hall} {a o : ConsoleId} {b : BoothId} {t c : ChannelId}

theorem talkPress_idle (booth : h.boothOf a = some b) (idle : h.consoles[a].state = .idle) :
    talkPress a h = talkRequest a b h := by
  unfold talkPress
  rw [booth]
  dsimp only
  rw [idle]

theorem talkRequest_refused (refused : h.settings.booths[b].enabled = false ∨ h.target a = none) :
    talkRequest a b h = flash a h := by
  unfold talkRequest
  by_cases enabled : h.settings.booths[b].enabled = false
  · exact if_pos enabled
  · rw [if_neg enabled, refused.resolve_left enabled]

theorem talkRequest_unowned (enabled : h.settings.booths[b].enabled = true) (target : h.target a = some t)
    (owner : h.booths[b].owner = none) : talkRequest a b h = freshRequest a b t h := by
  unfold talkRequest
  rw [if_neg (by rw [enabled]; decide), target, owner]

theorem talkRequest_owned (enabled : h.settings.booths[b].enabled = true) (target : h.target a = some t)
    (owner : h.booths[b].owner = some o) : talkRequest a b h =
      if h.settings.booths[b].mode = .override then overrideRequest a b o t h else queueRequest a b h := by
  unfold talkRequest
  rw [if_neg (by rw [enabled]; decide), target, owner]

/-- The run of a console that waits in its booth's queue or on a channel's list. -/
theorem queueRequest_eq (a : ConsoleId) (b : BoothId) (h : Hall) : queueRequest a b h =
    { h with
      consoles := vmod h.consoles a (waitRun h b)
      booths := vmod h.booths b fun r => { r with queue := r.queue ++ [a] } } := by
  unfold queueRequest startTimer
  dsimp only
  by_cases timed : h.settings.booths[b].mode = .handover
  · refine (if_pos timed).trans ?_
    have run : vmod (vmod h.consoles a fun r => { r with state := .requesting, engagedFlash := none }) a
        (fun r => { r with handoverExpiry := some (h.tenths + h.settings.booths[b].timeout) }) = vmod h.consoles a (waitRun h b) := by
      rw [vmod_vmod]
      refine congrArg (vmod h.consoles a) (funext fun r => ?_)
      unfold waitRun
      rw [if_pos timed]
    rw [← run]
    rfl
  · refine (if_neg timed).trans ?_
    have run : (vmod h.consoles a fun r => { r with state := .requesting, engagedFlash := none }) = vmod h.consoles a (waitRun h b) := by
      refine congrArg (vmod h.consoles a) (funext fun r => ?_)
      unfold waitRun
      rw [if_neg timed]
    rw [← run]
    rfl

theorem release_through (booth : h.boothOf a = some b) (feeds : h.feeds a = some c) (v : ConsoleState) :
    release a v h = boothPassOn b (passed (steppedOff h a v b) c) := by
  unfold release
  rw [booth]
  dsimp only
  rw [releaseChannel_eq feeds]

/-- A console that speaks is released where nobody waits: its channel is left without a feeder and its booth without an
owner (R50 to R52). -/
theorem release_alone (booth : h.boothOf a = some b) (feeds : h.feeds a = some c) (queue : h.booths[b].queue = [])
    (list : h.waitLists[c] = []) (v : ConsoleState) :
    (release a v h).booths[b].owner = none ∧ (release a v h).channels[c].feeder = none ∧
      (release a v h).consoles[a] = downRun v h.consoles[a] ∧ (release a v h).work.granted = h.work.granted := by
  have empty : (passed (steppedOff h a v b) c).booths[b].queue = [] := by rw [passed_queue, steppedOff_queue, queue]
  have nobody : (steppedOff h a v b).waitLists[c] = [] := by rw [steppedOff_lists, list]
  have feeder : (passed (steppedOff h a v b) c).channels[c].feeder = none := by
    rw [passed_feeder, Hall.feedersPassed, if_pos rfl, nobody]
    rfl
  have run : (passed (steppedOff h a v b) c).consoles[a] = downRun v h.consoles[a] := by
    rw [passed_console (by rw [nobody]; exact fun _ m => absurd m List.not_mem_nil)]
    exact (steppedOff_get v a).trans (if_pos rfl)
  have grants : (passed (steppedOff h a v b) c).work.granted = h.work.granted := by
    rw [passed_granted, Hall.grantsPassed, nobody, steppedOff_granted]
    exact List.append_nil _
  rw [release_through booth feeds, boothPassOn_nil _ empty]
  generalize passed (steppedOff h a v b) c = j at feeder run grants
  exact ⟨by rw [setOwner_get, if_pos rfl], feeder, run, grants⟩

theorem granted_touched (h : Hall) (a : ConsoleId) (b : BoothId) (t : ChannelId) : t ∈ (granted h a b t).work.touched := by
  unfold granted
  dsimp only
  split
  · assumption
  · exact List.mem_append_right _ (.head _)

/-- The blocks after a grant, with their touched channels set aside (R49). -/
theorem kept_granted (h : Hall) (a : ConsoleId) (b : BoothId) (t : ChannelId) : Hall.Kept { h with
    consoles := vmod h.consoles a (grantRun h b)
    channels := vmod h.channels t fun x => { x with feeder := some a }
    booths := vmod h.booths b fun x => { x with owner := some a }
    waitLists := vmod h.waitLists t fun l => l.filter fun e => e.console != a
    work := { h.work with granted := h.work.granted ++ [a] } } (granted h a b t) :=
  kept_touched { h with
    consoles := vmod h.consoles a (grantRun h b)
    channels := vmod h.channels t fun x => { x with feeder := some a }
    booths := vmod h.booths b fun x => { x with owner := some a }
    waitLists := vmod h.waitLists t fun l => l.filter fun e => e.console != a
    work := { h.work with granted := h.work.granted ++ [a] } } (if t ∈ h.work.touched then h.work.touched else h.work.touched ++ [t])

theorem outputPress_idle (booth : h.boothOf a = some b) (idle : h.consoles[a].state = .idle) (x : Output) :
    outputPress a x h = h.modConsole a fun r => { r with output := x } := by
  unfold outputPress
  rw [booth]
  dsimp only
  rw [idle]

end

/-! ### Key presses, in the event of their poll (R31) -/

section
variable {s : State} {a : ConsoleId} {b : BoothId} {old k : Keys}

/-- The run of a console whose key state has been accepted (R30). -/
def acceptedRun (r : ConsoleRun) (k : Keys) : ConsoleRun := { r with bad := 0, accepted := some k, candidate := none }

theorem keysAccepted_get (h : Hall) : (h.keysAccepted a k).consoles[a] = acceptedRun h.consoles[a] k := afterExchange_get _

theorem keysAccepted_mod (h : Hall) (f : ConsoleRun → ConsoleRun) :
    (h.keysAccepted a k).modConsole a f = h.afterExchange a (f (acceptedRun h.consoles[a] k)) := afterExchange_mod _ f

theorem keysAccepted_consoles (h : Hall) (f : ConsoleRun → ConsoleRun) :
    vmod (h.keysAccepted a k).consoles a f = vset h.consoles a (f (acceptedRun h.consoles[a] k)) :=
  congrArg Hall.consoles (keysAccepted_mod h f)

theorem keysAccepted_other (h : Hall) {x : ConsoleId} (ne : a ≠ x) : (h.keysAccepted a k).consoles[x] = h.consoles[x] :=
  vset_other _ _ ne

theorem keysAccepted_target (h : Hall) : (h.keysAccepted a k).target a = h.target a :=
  target_congr rfl (congrArg ConsoleRun.output (keysAccepted_get (k := k) h) :)

variable (p : s.exchanges .poll a) (accepted : s.hall.consoles[a].accepted = some old)
  (candidate : s.hall.consoles[a].candidate = some k) (decodes : k.decodes = true)
include p accepted candidate decodes

/-- One key's press leaves what its handler leaves. -/
theorem press_gives {e : KeyEvent} (polled : s.hall.consoles[a].state.polled = true) (single : keyEvents old k = [e]) {g : Hall}
    (same : keyPress a e (s.hall.keysAccepted a k) = g) : ∃ j, s.takesEvent (.pollAnswer (numOf a) true k) j ∧ g.Kept j :=
  ⟨_, keyEvent_takes p accepted candidate decodes polled single, same ▸ kept_settle _⟩

/-- The press of TALK that is granted a free channel (R46, R49). -/
theorem talk_granted {t : ChannelId} (booth : s.hall.boothOf a = some b) (single : keyEvents old k = [.talk])
    (idle : s.hall.consoles[a].state = .idle) (enabled : s.hall.settings.booths[b].enabled = true)
    (target : s.hall.target a = some t) (owner : s.hall.booths[b].owner = none) (free : s.hall.channels[t].feeder = none) :
    ∃ j, s.takesEvent (.pollAnswer (numOf a) true k) j ∧
      (s.hall.settings.channels[t].enabled = true → j.channels[t].service = .live) ∧
      Hall.Kept { s.hall.afterExchange a (grantRun s.hall b (acceptedRun s.hall.consoles[a] k)) with
        channels := vmod s.hall.channels t fun x => { x with feeder := some a }
        booths := vmod s.hall.booths b fun x => { x with owner := some a }
        waitLists := vmod s.hall.waitLists t fun l => l.filter fun e => e.console != a
        work := { s.hall.work with granted := [a] } } j := by
  have taken := keyEvent_takes p accepted candidate decodes (by rw [idle]; rfl) single
  have press : keyPress a .talk (s.hall.keysAccepted a k) = grant a b t (s.hall.keysAccepted a k) := by
    have run := keysAccepted_get (a := a) (k := k) s.hall
    rw [keyPress, talkPress_idle (h := s.hall.keysAccepted a k) (b := b) booth (by rw [run]; exact idle),
      talkRequest_unowned (h := s.hall.keysAccepted a k) (t := t) enabled (by rw [keysAccepted_target]; exact target) owner,
      freshRequest_granted (s.hall.keysAccepted a k) free]
  rw [press] at taken
  have metered := grant_metered (s.hall.keysAccepted a k) a b t
  have touched : t ∈ (grant a b t (s.hall.keysAccepted a k)).work.touched := by
    rw [metered.touched]
    exact granted_touched ..
  refine ⟨_, taken, fun enabled => ?_, Hall.Kept.trans ?_ ((kept_metered metered).trans (kept_settle _))⟩
  · rw [settle_service, if_pos touched]
    have set : (grant a b t (s.hall.keysAccepted a k)).settings = s.hall.settings := metered.settings
    unfold Hall.serviceOf
    rw [set, enabled, grant_feeder, if_pos rfl]
    split <;> rfl
  · have grants : s.hall.work.granted = [] := by rw [show s.hall.work = _ from p.2.1]; rfl
    have same := keysAccepted_consoles (a := a) (k := k) s.hall (grantRun (s.hall.keysAccepted a k) b)
    have kept := kept_granted (s.hall.keysAccepted a k) a b t
    rw [same, show (s.hall.keysAccepted a k).work.granted = s.hall.work.granted from rfl, grants] at kept
    exact kept

/-- The press of TALK that waits on a channel's list (R46). -/
theorem talk_listed {t : ChannelId} (booth : s.hall.boothOf a = some b) (single : keyEvents old k = [.talk])
    (idle : s.hall.consoles[a].state = .idle) (enabled : s.hall.settings.booths[b].enabled = true)
    (target : s.hall.target a = some t) (owner : s.hall.booths[b].owner = none) (fed : s.hall.channels[t].feeder ≠ none) :
    ∃ j, s.takesEvent (.pollAnswer (numOf a) true k) j ∧
      Hall.Kept { s.hall.afterExchange a (waitRun s.hall b (acceptedRun s.hall.consoles[a] k)) with
        booths := vmod s.hall.booths b fun x => { x with owner := some a }
        waitLists := vmod s.hall.waitLists t fun l => l ++ [⟨a, b⟩] } j := by
  refine press_gives p accepted candidate decodes (by rw [idle]; rfl) single ?_
  have run := keysAccepted_get (a := a) (k := k) s.hall
  rw [keyPress, talkPress_idle (h := s.hall.keysAccepted a k) (b := b) booth (by rw [run]; exact idle),
    talkRequest_unowned (h := s.hall.keysAccepted a k) (t := t) enabled (by rw [keysAccepted_target]; exact target) owner,
    freshRequest_waits (s.hall.keysAccepted a k) fed, keysAccepted_consoles]
  rfl

/-- The press of TALK that joins its booth's queue (R47). -/
theorem talk_queued {o : ConsoleId} {t : ChannelId} (booth : s.hall.boothOf a = some b) (single : keyEvents old k = [.talk])
    (idle : s.hall.consoles[a].state = .idle) (enabled : s.hall.settings.booths[b].enabled = true)
    (target : s.hall.target a = some t) (owner : s.hall.booths[b].owner = some o)
    (mode : s.hall.settings.booths[b].mode ≠ .override) :
    ∃ j, s.takesEvent (.pollAnswer (numOf a) true k) j ∧
      Hall.Kept { s.hall.afterExchange a (waitRun s.hall b (acceptedRun s.hall.consoles[a] k)) with
        booths := vmod s.hall.booths b fun x => { x with queue := x.queue ++ [a] } } j := by
  refine press_gives p accepted candidate decodes (by rw [idle]; rfl) single ?_
  have run := keysAccepted_get (a := a) (k := k) s.hall
  rw [keyPress, talkPress_idle (h := s.hall.keysAccepted a k) (b := b) booth (by rw [run]; exact idle),
    talkRequest_owned (h := s.hall.keysAccepted a k) (t := t) enabled (by rw [keysAccepted_target]; exact target) owner,
    if_neg (show ¬ (s.hall.keysAccepted a k).settings.booths[b].mode = .override from mode), queueRequest_eq, keysAccepted_consoles]
  rfl

/-- The press of TALK that takes the channel of an OVERRIDE booth's owner (R48). -/
theorem talk_overrides {o : ConsoleId} {t : ChannelId} (booth : s.hall.boothOf a = some b) (single : keyEvents old k = [.talk])
    (idle : s.hall.consoles[a].state = .idle) (enabled : s.hall.settings.booths[b].enabled = true)
    (target : s.hall.target a = some t) (owner : s.hall.booths[b].owner = some o)
    (mode : s.hall.settings.booths[b].mode = .override) (speaks : s.hall.consoles[o].state.onChannel = true)
    (feeds : s.hall.feeds o = some t) :
    ∃ j, s.takesEvent (.pollAnswer (numOf a) true k) j ∧ j.booths[b].owner = some a ∧
      j.booths[b].queue = s.hall.booths[b].queue ∧ j.channels[t].feeder = some a ∧ j.consoles[a].state = .live ∧
      j.consoles[o].state = .idle ∧ j.consoles[o].contStart = none := by
  have ne : a ≠ o := by
    intro e
    rw [← e, idle] at speaks
    cases speaks
  have run := keysAccepted_get (a := a) (k := k) s.hall
  have press : keyPress a .talk (s.hall.keysAccepted a k) = grant a b t (stepDown o .idle (s.hall.keysAccepted a k)) := by
    rw [keyPress, talkPress_overrides (h := s.hall.keysAccepted a k) (b := b) (o := o) (t := t) booth (by rw [run]; exact idle)
      enabled mode owner (by rw [keysAccepted_target]; exact target)]
    unfold overrideRequest
    rw [if_pos (by rw [keysAccepted_other _ ne]; exact speaks), if_pos (show (s.hall.keysAccepted a k).feeds o = some t from feeds)]
  obtain ⟨j, taken, kept⟩ := press_gives p accepted candidate decodes (by rw [idle]; rfl) single press
  refine ⟨j, taken, ?_, ?_, ?_, ?_⟩
  · rw [kept.owner, grant_booths, setOwner_get, if_pos rfl]
  · rw [kept.queue, grant_booths, setOwner_queue, stepDown_booths]
    rfl
  · rw [kept.feeder, grant_feeder, if_pos rfl]
  · have own : (grant a b t (stepDown o .idle (s.hall.keysAccepted a k))).consoles[a] = grantRun _ b _ :=
      (grant_get ..).trans (if_pos rfl)
    have down : (grant a b t (stepDown o .idle (s.hall.keysAccepted a k))).consoles[o] = downRun .idle _ :=
      ((grant_get ..).trans (if_neg ne)).trans ((stepDown_get ..).trans (if_pos rfl))
    rw [kept.consoles, own, down]
    exact ⟨rfl, rfl, rfl⟩

/-- The press of TALK of a console that speaks, where nobody waits (R50). -/
theorem talk_released {c : ChannelId} (booth : s.hall.boothOf a = some b) (single : keyEvents old k = [.talk])
    (speaks : s.hall.consoles[a].state.onChannel = true) (feeds : s.hall.feeds a = some c) (queue : s.hall.booths[b].queue = [])
    (list : s.hall.waitLists[c] = []) :
    ∃ j, s.takesEvent (.pollAnswer (numOf a) true k) j ∧ j.booths[b].owner = none ∧ j.channels[c].feeder = none ∧
      j.consoles[a].state = .idle ∧ j.consoles[a].contStart = none ∧ j.consoles[a].nextShift = none := by
  have run := keysAccepted_get (a := a) (k := k) s.hall
  have press : keyPress a .talk (s.hall.keysAccepted a k) = release a .idle (s.hall.keysAccepted a k) := by
    rw [keyPress, talkPress_speaks (h := s.hall.keysAccepted a k) booth (by rw [run]; exact speaks)]
  obtain ⟨j, taken, kept⟩ := press_gives p accepted candidate decodes (polled_of_onChannel speaks) single press
  obtain ⟨owner, feeder, down, -⟩ := release_alone (h := s.hall.keysAccepted a k) booth feeds queue list .idle
  refine ⟨j, taken, (kept.owner b).trans owner, (kept.feeder c).trans feeder, ?_⟩
  rw [kept.consoles, down]
  exact ⟨rfl, rfl, rfl⟩

/-- The press of TALK of a console that waits in its booth's queue (R53). -/
theorem talk_withdrawn (booth : s.hall.boothOf a = some b) (single : keyEvents old k = [.talk])
    (waits : s.hall.consoles[a].state = .requesting) (queued : a ∈ s.hall.booths[b].queue) :
    ∃ j, s.takesEvent (.pollAnswer (numOf a) true k) j ∧
      Hall.Kept { s.hall.afterExchange a (unwaitRun .idle (acceptedRun s.hall.consoles[a] k)) with
        booths := vmod s.hall.booths b fun x => { x with queue := x.queue.filter fun y => y != a } } j := by
  refine press_gives p accepted candidate decodes (by rw [waits]; rfl) single ?_
  have run := keysAccepted_get (a := a) (k := k) s.hall
  rw [keyPress, talkPress_waits (h := s.hall.keysAccepted a k) booth (by rw [run]; exact waits),
    endWait_queued (h := s.hall.keysAccepted a k) .idle booth queued, keysAccepted_mod]
  rfl

/-- A press that changes no more than the console's own run. -/
theorem press_changes {e : KeyEvent} (polled : s.hall.consoles[a].state.polled = true) (single : keyEvents old k = [e])
    {f : ConsoleRun → ConsoleRun} (same : keyPress a e (s.hall.keysAccepted a k) = (s.hall.keysAccepted a k).modConsole a f) :
    ∃ j, s.takesEvent (.pollAnswer (numOf a) true k) j ∧
      Hall.Kept (s.hall.afterExchange a (f (acceptedRun s.hall.consoles[a] k))) j :=
  press_gives p accepted candidate decodes polled single (same.trans (keysAccepted_mod ..))

end

theorem modConsole_same {h : Hall} {a : ConsoleId} {f : ConsoleRun → ConsoleRun} (same : f h.consoles[a] = h.consoles[a]) :
    h.modConsole a f = h := by
  unfold Hall.modConsole
  rw [vmod_same_eq same]

theorem mutePress_eq (h : Hall) (a : ConsoleId) : mutePress a h =
    h.modConsole a fun r => { r with state := if h.consoles[a].state = .live then .muted else h.consoles[a].state } := by
  unfold mutePress
  split
  · rfl
  · exact (modConsole_same (f := fun r => { r with state := h.consoles[a].state }) rfl).symm

theorem muteRelease_eq (h : Hall) (a : ConsoleId) : muteRelease a h =
    h.modConsole a fun r => { r with state := if h.consoles[a].state = .muted then .live else h.consoles[a].state } := by
  unfold muteRelease
  split
  · rfl
  · exact (modConsole_same (f := fun r => { r with state := h.consoles[a].state }) rfl).symm

/-- Settles O44: each press of one key, by the state it finds the console in. -/
theorem keyPresses : Obligations.KeyPresses := by
  intro s a b old k p booth accepted candidate decodes
  have accepts := And.intro accepted (And.intro candidate decodes)
  have run := keysAccepted_get (a := a) (k := k) s.hall
  refine ⟨fun up key idle => ⟨fun refused => ?_, fun t enabled target => ?_⟩, fun up key speaks c feeds queue list =>
      talk_released p accepted candidate decodes booth (key ▸ keyEvents_talk up) speaks feeds queue list,
    fun up key waits queued => talk_withdrawn p accepted candidate decodes booth (key ▸ keyEvents_talk up) waits queued,
    fun up key polled => ?_, fun down key polled => ?_, fun up key idle => ?_, fun up key idle => ?_⟩
  · refine press_changes p accepted candidate decodes (f := fun r => { r with engagedFlash := some (s.hall.tenths + 20) })
      (by rw [idle]; rfl) (key ▸ keyEvents_talk up) ?_
    rw [keyPress, talkPress_idle (h := s.hall.keysAccepted a k) (b := b) booth (by rw [run]; exact idle),
      talkRequest_refused (h := s.hall.keysAccepted a k) (by rw [keysAccepted_target]; exact refused)]
    rfl
  · have single : keyEvents old k = [.talk] := key ▸ keyEvents_talk up
    split
    · next owner =>
      exact ⟨fun free => talk_granted p accepted candidate decodes booth single idle enabled target owner free,
        fun fed => talk_listed p accepted candidate decodes booth single idle enabled target owner fed⟩
    · next o owner =>
      exact ⟨fun mode => talk_queued p accepted candidate decodes booth single idle enabled target owner mode,
        fun mode speaks feeds =>
          talk_overrides p accepted candidate decodes booth single idle enabled target owner mode speaks feeds⟩
  · refine press_changes p accepted candidate decodes (f := fun r => { r with
      state := if s.hall.consoles[a].state = .live then .muted else s.hall.consoles[a].state }) polled (key ▸ keyEvents_mute up) ?_
    rw [keyPress, mutePress_eq, run]
    rfl
  · refine press_changes p accepted candidate decodes (f := fun r => { r with
      state := if s.hall.consoles[a].state = .muted then .live else s.hall.consoles[a].state }) polled (key ▸ keyEvents_unmute down) ?_
    rw [keyPress, muteRelease_eq, run]
    rfl
  · exact press_changes p accepted candidate decodes (e := .output .a) (f := fun r => { r with output := .a }) (by rw [idle]; rfl)
      (key ▸ keyEvents_outA up) (outputPress_idle (h := s.hall.keysAccepted a k) booth (by rw [run]; exact idle) .a)
  · exact press_changes p accepted candidate decodes (e := .output .b) (f := fun r => { r with output := .b }) (by rw [idle]; rfl)
      (key ▸ keyEvents_outB up) (outputPress_idle (h := s.hall.keysAccepted a k) booth (by rw [run]; exact idle) .b)

/-! ### A console's expiries (R29, R34, R36, R56, R60) -/

theorem timerDue_iff {h : Hall} {t : Option Nat} : h.timerDue t = true ↔ ∃ x, t = some x ∧ x ≤ h.tenths := by
  cases t <;> simp [Hall.timerDue]

section
variable {s : State} {h : Hall} {a : ConsoleId} {b : BoothId}

/-- What an expiry does where its timer stands due, and nothing otherwise. -/
theorem due_ifElse {t : Option Nat} {i : Instr} {act : Hall → Hall} {g : Hall} (taken : s.takesEvent i (act s.hall))
    (due : s.hall.timerDue t = true → act s.hall = g) (early : ¬ s.hall.timerDue t = true → act s.hall = s.hall) :
    ifElse (∃ x, t = some x ∧ x ≤ s.hall.tenths) (s.takesEvent i g) (s.takesEvent i s.hall) :=
  ⟨fun d => due (timerDue_iff.mpr d) ▸ taken, fun e => by
    have same := early fun d => e (timerDue_iff.mp d)
    rwa [same] at taken⟩

theorem takeGoodRun_due {m : Nat} (next : h.consoles[a].goodExpiry = some m) (due : m ≤ h.now)
    (fault : h.consoles[a].state ≠ .fault) (quarantined : h.consoles[a].state ≠ .quarantined) :
    takeGoodRun a h = h.modConsole a fun r => { r with isolation := 0, goodExpiry := none } := by
  unfold takeGoodRun
  rw [next]
  exact if_pos ⟨due, fault, quarantined⟩

theorem expireHandover_early (early : ¬ h.timerDue h.consoles[a].handoverExpiry = true) : expireHandover a h = h := by
  unfold expireHandover
  split
  · exact if_neg fun due => early due.1
  · rfl

theorem kept_modConsole {k : Hall} (p : h.Kept k) (a : ConsoleId) (f : ConsoleRun → ConsoleRun) :
    (h.modConsole a f).Kept (k.modConsole a f) :=
  ⟨p.settings, p.fleet, p.clock, p.waitLists, congrArg (fun v => vmod v a f) p.consoles, p.bus, p.lowFired, p.owner, p.queue,
    p.unowned, p.feeder, p.demand, p.peak, p.day, p.session, p.last, p.log, p.balances, p.live, p.boothLive, p.handovers,
    p.records, p.seq, p.counter, p.peakHires, p.granted⟩

theorem modConsole_modConsole (f g : ConsoleRun → ConsoleRun) :
    (h.modConsole a f).modConsole a g = h.modConsole a fun r => g (f r) := by
  unfold Hall.modConsole
  dsimp only
  rw [vmod_vmod]

/-- The blocks as a reminder lights the lamp and posts its notice (R60). -/
def reminded (h : Hall) (a : ConsoleId) (start : Nat) : Hall :=
  (h.modConsole a fun r => { r with shiftLamp := true }).post .booth .shiftDue (numOf a) (h.now - start)

theorem takeShiftReminder_eq {m start : Nat} (next : h.consoles[a].nextShift = some m)
    (began : h.consoles[a].contStart = some start) (booth : h.boothOf a = some b) (due : m ≤ h.now)
    (speaks : h.consoles[a].state.onChannel = true) :
    takeShiftReminder a h = (meterEvent (boothEvent .shiftDue b (h.feeds a)) (reminded h a start)).modConsole a fun r =>
      { r with nextShift := if h.settings.booths[b].shiftR = 0 then none else some (h.now + h.settings.booths[b].shiftR) } := by
  unfold takeShiftReminder
  rw [next, booth]
  refine (if_pos ⟨due, speaks⟩).trans ?_
  rw [began]
  rfl

/-- A shift reminder that is due, and its notice (R60). -/
theorem takeShiftReminder_due {m start : Nat} (next : h.consoles[a].nextShift = some m)
    (began : h.consoles[a].contStart = some start) (booth : h.boothOf a = some b) (due : m ≤ h.now)
    (speaks : h.consoles[a].state.onChannel = true) :
    (h.modConsole a fun r => { r with
      shiftLamp := true
      nextShift := if h.settings.booths[b].shiftR = 0 then none else some (h.now + h.settings.booths[b].shiftR) }).Kept
        (takeShiftReminder a h) ∧
      (⟨.booth, .shiftDue, numOf a, h.now, h.now - start, false⟩ : Notice) ∈ (takeShiftReminder a h).work.posts := by
  have notice : (⟨.booth, .shiftDue, numOf a, h.now, h.now - start, false⟩ : Notice) ∈ (reminded h a start).work.posts :=
    mem_post ..
  have posted := (posted_meterEvent (reminded h a start) (boothEvent .shiftDue b (h.feeds a))).mem notice
  have kept : (h.modConsole a fun r => { r with shiftLamp := true }).Kept
      (meterEvent (boothEvent .shiftDue b (h.feeds a)) (reminded h a start)) :=
    (kept_post (h.modConsole a fun r => { r with shiftLamp := true }) ..).trans (kept_meterEvent _ _)
  rw [takeShiftReminder_eq next began booth due speaks]
  generalize meterEvent (boothEvent .shiftDue b (h.feeds a)) (reminded h a start) = k at posted kept
  have moved := kept_modConsole kept a fun r =>
    { r with nextShift := if h.settings.booths[b].shiftR = 0 then none else some (h.now + h.settings.booths[b].shiftR) }
  rw [modConsole_modConsole] at moved
  exact ⟨moved, posted⟩

/-! ### FORCE RELEASE (R61) -/

/-- A console that speaks is released where another waits for its channel, and none for its booth. -/
theorem release_toHead {c : ChannelId} {e : WaitEntry} {rest : List WaitEntry} (booth : h.boothOf a = some b)
    (feeds : h.feeds a = some c) (queue : h.booths[b].queue = []) (list : h.waitLists[c] = e :: rest) (v : ConsoleState) :
    (release a v h).channels[c].feeder = some e.console ∧ (release a v h).consoles[e.console].state = .live ∧
      (release a v h).work.granted = h.work.granted ++ [e.console] := by
  have empty : (passed (steppedOff h a v b) c).booths[b].queue = [] := by rw [passed_queue, steppedOff_queue, queue]
  have head : (steppedOff h a v b).waitLists[c] = e :: rest := by rw [steppedOff_lists, list]
  have feeder : (passed (steppedOff h a v b) c).channels[c].feeder = some e.console := by
    rw [passed_feeder, Hall.feedersPassed, if_pos rfl, head]
    rfl
  have live : (passed (steppedOff h a v b) c).consoles[e.console].state = .live := by
    rw [passed_cons head, grant_get, if_pos rfl]
    rfl
  have grants : (passed (steppedOff h a v b) c).work.granted = h.work.granted ++ [e.console] := by
    rw [passed_granted, Hall.grantsPassed, head, steppedOff_granted]
    rfl
  rw [release_through booth feeds, boothPassOn_nil _ empty]
  generalize passed (steppedOff h a v b) c = j at feeder live grants
  exact ⟨feeder, live, grants⟩

theorem onChannel_iff (v : ConsoleState) : v.onChannel = true ↔ v = .live ∨ v = .muted := by
  cases v <;> simp [ConsoleState.onChannel]

theorem forceRelease_refused (live : s.hall.consoles[a].state ≠ .live) (muted : s.hall.consoles[a].state ≠ .muted)
    (waits : s.hall.consoles[a].state ≠ .requesting) : forceRelease (.val (numOf a)) s = refuse .state s := by
  unfold forceRelease
  rw [rangeOnly_numOf]
  exact if_neg fun held => held.elim (fun speaks => ((onChannel_iff _).mp speaks).elim live muted) waits

end

/-- Settles O46: each expiry where its timer stands due, and the console the host releases by its place. -/
theorem consoleTimers : Obligations.ConsoleTimers := by
  refine ⟨fun s a awake rest => ⟨?_, fun m next due fault quarantined => ?_, ?_, fun early => ?_, fun b due booth waits queued => ?_,
    fun m b start next began booth due speaks => ?_⟩, fun s tag p rest => ⟨fun a b booth => ⟨fun waits queued => ?_,
      fun speaks queue c feeds => ⟨fun list => ?_, fun e others list => ?_⟩, fun live muted waits => ?_⟩, fun x bad => ?_⟩⟩
  · exact due_ifElse (act := expireProbe a) (takesEvent_of awake rfl) (fun d => if_pos d) fun e => if_neg e
  · have taken : s.takesEvent (.goodRunExpiry a) (takeGoodRun a s.hall) := takesEvent_of awake rfl
    rwa [takeGoodRun_due next due fault quarantined] at taken
  · exact due_ifElse (act := endFlash a) (takesEvent_of awake rfl) (fun d => if_pos d) fun e => if_neg e
  · have taken : s.takesEvent (.handoverTimerExpiry a) (expireHandover a s.hall) := takesEvent_of awake rfl
    rwa [expireHandover_early fun due => early (timerDue_iff.mp due)] at taken
  · have taken : s.takesEvent (.handoverTimerExpiry a) (expireHandover a s.hall) := takesEvent_of awake rfl
    obtain ⟨kept, notice⟩ := expireHandover_taken booth (timerDue_iff.mpr due) waits
    rw [endWait_queued .idle booth queued] at kept
    exact ⟨_, taken, kept, notice⟩
  · have taken : s.takesEvent (.shiftReminder a) (takeShiftReminder a s.hall) := takesEvent_of awake rfl
    exact ⟨_, taken, takeShiftReminder_due next began booth due speaks⟩
  · obtain ⟨k, given, kept⟩ := forceRelease_gives (tag := tag) p (.inr waits)
    rw [show forceOff a s.hall = endWait a .idle s.hall from if_neg (by rw [waits]; decide), endWait_queued .idle booth queued]
      at given kept
    have grants : ((s.hall.modConsole a (unwaitRun .idle)).modBooth b fun x =>
        { x with queue := x.queue.filter fun y => y != a }).work.granted = [] := by
      show s.hall.work.granted = []
      rw [show s.hall.work = _ from rest]
      rfl
    rw [grants, waits] at given
    exact ⟨k, given, kept⟩
  · obtain ⟨k, given, kept⟩ := forceRelease_gives (tag := tag) p (.inl speaks)
    obtain ⟨owner, feeder, down, grants⟩ := release_alone booth feeds queue list .idle
    rw [show forceOff a s.hall = release a .idle s.hall from if_pos speaks] at given kept
    rw [grants, show s.hall.work = _ from rest] at given
    refine ⟨k, given, (kept.owner b).trans owner, (kept.feeder c).trans feeder, ?_⟩
    rw [kept.consoles, down]
    rfl
  · obtain ⟨k, given, kept⟩ := forceRelease_gives (tag := tag) p (.inl speaks)
    obtain ⟨feeder, live, grants⟩ := release_toHead booth feeds queue list .idle
    rw [show forceOff a s.hall = release a .idle s.hall from if_pos speaks] at given kept
    rw [grants, show s.hall.work = _ from rest] at given
    refine ⟨k, given, (kept.feeder c).trans feeder, ?_⟩
    rw [kept.consoles, live]
  · exact refused_of p rfl (forceRelease_refused live muted waits)
  · refine refused_of p rfl ?_
    unfold forceRelease
    rw [rangeOnly_bad_or_out bad]

/-! ### The choice of the next exchange (R27, R29) -/

/-- The first index that meets a test, of all that meet it. -/
theorem find_ids {n : Nat} {p : Fin n → Bool} {a : Fin n} (meets : p a = true) (least : ∀ x, p x = true → a ≤ x) :
    (ids n).find? p = some a := by
  have found : ((ids n).find? p).isSome = true := List.find?_isSome.mpr ⟨a, mem_ids a, meets⟩
  obtain ⟨x, e⟩ := Option.isSome_iff_exists.mp found
  obtain ⟨px, before, after, split, early⟩ := List.find?_eq_some_iff_append.mp e
  have ascending : (before ++ x :: after).Pairwise (· < ·) := split ▸ ChargeProofs.ids_ascending n
  have ordered : x ≤ a := by
    have mem : a ∈ before ++ x :: after := split ▸ mem_ids a
    rcases List.mem_append.mp mem with m | m
    · exact absurd meets (by simpa using early a m)
    · rcases List.mem_cons.mp m with rfl | m
      · exact Fin.le_refl _
      · obtain ⟨-, tail, -⟩ := List.pairwise_append.mp ascending
        exact Fin.le_of_lt ((List.pairwise_cons.mp tail).1 a m)
  rw [e, Fin.le_antisymm ordered (least x px)]

section
variable {h : Hall} {a : ConsoleId}

theorem polled_iff (v : ConsoleState) : v.polled = true ↔ v = .idle ∨ v = .requesting ∨ v = .live ∨ v = .muted := by
  cases v <;> simp [ConsoleState.polled]

theorem probeDue_iff (h : Hall) (a : ConsoleId) : (h.consoles[a].state == .fault && h.consoles[a].probeDue) = true ↔
    h.consoles[a].state = .fault ∧ h.consoles[a].probeDue = true := by
  rw [Bool.and_eq_true, beq_iff_eq]

theorem nextProbe_none (none : ∀ a : ConsoleId, ¬ (h.consoles[a].state = .fault ∧ h.consoles[a].probeDue = true)) :
    h.nextProbe = .none :=
  List.find?_eq_none.mpr fun a _ due => none a ((probeDue_iff h a).mp due)

theorem nextPolled_none (none : ∀ a : ConsoleId, ¬ h.consoles[a].state.polled = true) : h.nextPolled = .none := by
  have empty : ((ids 48).filter fun a => h.consoles[a].state.polled) = [] :=
    List.filter_eq_nil_iff.mpr fun a _ => none a
  unfold Hall.nextPolled
  rw [empty]
  cases h.bus.lastPolled <;> rfl

/-- The address polled next: the lowest behind the last one polled, and the lowest of all where none is (R27). -/
theorem nextPolled_some (polled : h.consoles[a].state.polled = true)
    (first : ((∃ l, h.bus.lastPolled = some l ∧ l < a) ∧ ∀ x : ConsoleId, h.consoles[x].state.polled = true →
        (∃ l, h.bus.lastPolled = some l ∧ l < x) → a ≤ x) ∨
      ((∀ x : ConsoleId, h.consoles[x].state.polled = true → ¬ ∃ l, h.bus.lastPolled = some l ∧ l < x) ∧
        ∀ x : ConsoleId, h.consoles[x].state.polled = true → a ≤ x)) : h.nextPolled = some a := by
  have lowest (least : ∀ x : ConsoleId, h.consoles[x].state.polled = true → a ≤ x) :
      ((ids 48).filter fun a => h.consoles[a].state.polled).head? = some a := by
    rw [List.head?_filter, find_ids polled least]
  unfold Hall.nextPolled
  dsimp only
  cases last : h.bus.lastPolled with
  | none =>
    rcases first with ⟨⟨l, e, -⟩, -⟩ | ⟨-, least⟩
    · rw [last] at e
      cases e
    · exact lowest least
  | some l =>
    have behind (x : ConsoleId) : (∃ l, h.bus.lastPolled = some l ∧ l < x) ↔ l < x := by
      rw [last]
      exact ⟨fun ⟨_, e, lt⟩ => Option.some.inj e ▸ lt, fun lt => ⟨l, rfl, lt⟩⟩
    simp only [behind] at first
    dsimp only
    rw [List.find?_filter]
    rcases first with ⟨lt, least⟩ | ⟨none, least⟩
    · rw [find_ids (a := a) (decide_eq_true ⟨polled, decide_eq_true lt⟩) fun x px =>
        have ⟨px, lt⟩ := of_decide_eq_true px
        least x px (of_decide_eq_true lt)]
    · have no : (ids 48).find? (fun x => decide (h.consoles[x].state.polled = true ∧ decide (l < x) = true)) = .none :=
        List.find?_eq_none.mpr fun x _ px =>
          have ⟨px, lt⟩ := of_decide_eq_true px
          none x px (of_decide_eq_true lt)
      rw [no]
      exact lowest least

theorem chooseExchange_busy {x : Exchange} (busy : h.bus.current = some x) : chooseExchange h = h := by
  unfold chooseExchange
  rw [busy]

theorem chooseExchange_probe (idle : h.bus.current = none) (next : h.nextProbe = some a) : chooseExchange h =
    { h with
      consoles := vset h.consoles a { h.consoles[a] with probeDue := false }
      bus := ⟨some ⟨.probe, a, ⟨.off, .off, .off, .off, .off, .off, .off⟩, false⟩, h.bus.lastPolled⟩ } := by
  unfold chooseExchange
  rw [idle]
  dsimp only
  rw [next]
  rfl

theorem chooseExchange_poll (idle : h.bus.current = none) (noProbe : h.nextProbe = none) (next : h.nextPolled = some a) :
    chooseExchange h = { h with bus := ⟨some ⟨.poll, a, h.lamps a, false⟩, some a⟩ } := by
  unfold chooseExchange
  rw [idle]
  dsimp only
  rw [noProbe]
  dsimp only
  rw [next]

theorem chooseExchange_none (idle : h.bus.current = none) (noProbe : h.nextProbe = none) (next : h.nextPolled = none) :
    chooseExchange h = h := by
  unfold chooseExchange
  rw [idle]
  dsimp only
  rw [noProbe]
  dsimp only
  rw [next]

theorem lamp_onIf {b : Bool} {p : Prop} (same : b = true ↔ p) : ifElse p (Lamp.ofBool b = .on) (Lamp.ofBool b = .off) := by
  cases b
  · exact ⟨fun holds => absurd (same.mpr holds) Bool.false_ne_true, fun _ => rfl⟩
  · exact ⟨fun _ => rfl, fun fails => absurd (same.mp rfl) fails⟩

theorem waitsOn_isSome (h : Hall) (a : ConsoleId) : (h.waitsOn a).isSome = true ↔
    ∃ (c : ChannelId) (e : WaitEntry), e ∈ h.waitLists[c] ∧ e.console = a := by
  unfold Hall.waitsOn
  rw [List.find?_isSome]
  constructor
  · rintro ⟨c, -, listed⟩
    obtain ⟨e, mem, same⟩ := List.any_eq_true.mp listed
    exact ⟨c, e, mem, eq_of_beq same⟩
  · rintro ⟨c, e, mem, same⟩
    exact ⟨c, mem_ids c, List.any_eq_true.mpr ⟨e, mem, beq_iff_eq.mpr same⟩⟩

/-- The lamp set of a console that is polled, lamp by lamp (R29). -/
theorem lamps_polled (polled : h.consoles[a].state.polled = true) :
    let lamps := h.lamps a
    let r := h.consoles[a]
    let onIf (p : Prop) (x : Lamp) : Prop := ifElse p (x = .on) (x = .off)
    (r.state = .muted → lamps.mic = .flashing) ∧ (r.state ≠ .muted → onIf (r.state = .live) lamps.mic) ∧
    (r.engagedFlash ≠ none → lamps.engaged = .flashing) ∧
    (r.engagedFlash = none → onIf (∃ (c : ChannelId) (e : WaitEntry), e ∈ h.waitLists[c] ∧ e.console = a) lamps.engaged) ∧
    onIf ((r.state = .live ∨ r.state = .muted) ∧ ∃ b, h.settings.consoleBooth[a] = some b ∧ h.booths[b].queue ≠ [])
      lamps.asked ∧
    onIf (r.shiftLamp = true) lamps.shift ∧
    onIf (∃ b, h.settings.consoleBooth[a] = some b ∧ h.booths[b].fallback ≠ none) lamps.relayLost ∧
    onIf (r.output = .a) lamps.lampA ∧ onIf (r.output = .b) lamps.lampB := by
  have set : h.lamps a = _ := if_neg (show ¬ h.consoles[a].state.polled = false by rw [polled]; decide)
  dsimp only
  rw [set]
  refine ⟨fun muted => ?_, fun sounds => ?_, fun flashes => if_pos (Option.isSome_iff_ne_none.mpr flashes), fun steady => ?_,
    lamp_onIf ?_, lamp_onIf Iff.rfl, lamp_onIf ?_, lamp_onIf beq_iff_eq, lamp_onIf beq_iff_eq⟩
  · dsimp only
    rw [muted]
  · dsimp only
    cases e : h.consoles[a].state with
    | muted => exact absurd e sounds
    | live => exact ⟨fun _ => rfl, fun n => absurd rfl n⟩
    | absent | idle | requesting | fault | quarantined => exact ⟨fun live => (by cases live), fun _ => rfl⟩
  · dsimp only
    rw [steady]
    exact lamp_onIf (waitsOn_isSome h a)
  · rw [Bool.and_eq_true, onChannel_iff]
    unfold Hall.boothOf
    cases h.settings.consoleBooth[a] <;> simp
  · unfold Hall.boothOf
    cases h.settings.consoleBooth[a] <;> simp [Option.isSome_iff_ne_none]

end

/-- Settles O47: an exchange in progress, a probe that is due, and the poll that comes next. -/
theorem busChooses : Obligations.BusChooses := by
  intro h
  refine ⟨rfl, ?_, fun x busy => ?_, fun idle a due least => ?_, fun idle noProbe => ?_⟩
  · rw [rested_frame]
  · unfold Hall.rested
    rw [chooseExchange_busy busy]
    exact ⟨rfl, rfl⟩
  · have next : h.nextProbe = some a := find_ids ((probeDue_iff h a).mpr due) fun x dx => least x ((probeDue_iff h x).mp dx)
    unfold Hall.rested
    rw [chooseExchange_probe idle next]
    exact ⟨rfl, rfl⟩
  · have noProbe := nextProbe_none noProbe
    have polled_iff (a : ConsoleId) := polled_iff h.consoles[a].state
    simp only [← polled_iff]
    have consoles : h.rested.consoles = h.consoles := by
      unfold Hall.rested
      cases next : h.nextPolled with
      | none => rw [chooseExchange_none idle noProbe next]
      | some x => rw [chooseExchange_poll idle noProbe next]
    refine ⟨consoles, fun nobody => ?_, fun a polled first => ⟨h.lamps a, ?_, lamps_polled polled⟩⟩
    · unfold Hall.rested
      rw [chooseExchange_none idle noProbe (nextPolled_none nobody)]
    · unfold Hall.rested
      rw [chooseExchange_poll idle noProbe (nextPolled_some polled first)]

end Sys2Proof.StepProofs
end

-- ==== Proofs: Relay ====
section
/-! PROOFS. Relay: a booth resolved, every booth after an event of the booth controller, and the booths that list a channel
after a change of its service state (R67, R72 to R74). -/

namespace Sys2Proof.StepProofs

open Machine

/-! ### What the meters of an event are taken from -/

section
variable {h k : Hall}

theorem offerEvent_meters (settings : k.settings = h.settings) (meters : k.meters = h.meters) (e : MeterEvent) (m : MeterId) :
    (offerEvent e k m).meters = (offerEvent e h m).meters := by
  by_cases counts : countsOn e h.settings.meters[m]
  · have counts' : countsOn e k.settings.meters[m] := settings ▸ counts
    by_cases zero : h.settings.meters[m].threshold = 0
    · rw [offerEvent_raises counts zero, offerEvent_raises counts' (settings ▸ zero)]
      by_cases room : h.meters[m].count < maxCount
      · rw [raiseCount_eq room, raiseCount_eq (by rw [meters]; exact room)]
        unfold risen
        rw [settings, meters]
      · rw [raiseCount_same room, raiseCount_same (by rw [meters]; exact room), meters]
    · rw [offerEvent_tallies counts zero, offerEvent_tallies counts' (settings ▸ zero)]
      exact congrArg (fun v => vmod v m fun r => { r with tally := satCount (r.tally + 1) }) meters
  · rw [offerEvent_same counts, offerEvent_same (settings ▸ counts), meters]

/-- What an event leaves of the meters is taken from the settings and the meters alone. -/
theorem meterEvent_meters (settings : k.settings = h.settings) (meters : k.meters = h.meters) (e : MeterEvent) :
    (meterEvent e k).meters = (meterEvent e h).meters := by
  unfold meterEvent
  generalize ids 8 = l
  induction l generalizing h k with
  | nil => exact meters
  | cons m l ih =>
    have one (g : Hall) : (offerEvent e g m).settings = g.settings := by
      have metered : Metered g (meterEvent e g) := metered_meterEvent e g
      unfold offerEvent
      dsimp only
      split
      · split
        · exact (metered_raiseCount m g).settings
        · rfl
      · rfl
    exact ih (by rw [one, one, settings]) (offerEvent_meters settings meters e m)

end

/-! ### A booth resolved (R72 to R74) -/

section
variable {h : Hall} {b : BoothId} {c : ChannelId}

theorem fallbackDue_iff (h : Hall) (b : BoothId) (c : ChannelId) : h.fallbackDue b = some c ↔
    h.incoming b = some c ∧ h.settings.booths[b].enabled = true ∧ h.channels[c].service ≠ .live := by
  unfold Hall.fallbackDue
  cases source : h.incoming b with
  | none => exact ⟨fun e => (by cases e), fun ⟨e, _⟩ => (by cases e)⟩
  | some d =>
    dsimp only
    constructor
    · intro e
      split at e
      · next both => exact ⟨e, Option.some.inj e ▸ both⟩
      · cases e
    · rintro ⟨e, both⟩
      rw [if_pos (Option.some.inj e ▸ both), e]

theorem fallbackDue_none (stands : ∀ d, ¬ (h.incoming b = some d ∧ h.settings.booths[b].enabled = true ∧ h.channels[d].service ≠ .live)) :
    h.fallbackDue b = none := by
  cases due : h.fallbackDue b with
  | none => rfl
  | some d => exact absurd ((fallbackDue_iff h b d).mp due) (stands d)

theorem effective_eq (h : Hall) (b : BoothId) :
    h.effective b = (h.incoming b).filter fun c => h.channels[c].service == .live := by
  unfold Hall.effective
  cases h.incoming b with
  | none => rfl
  | some c =>
    dsimp only
    by_cases live : h.channels[c].service = .live
    · rw [if_pos live, Option.filter_some, if_pos (beq_iff_eq.mpr live)]
    · rw [if_neg live, Option.filter_some, if_neg fun e => live (eq_of_beq e)]

/-- The blocks as a booth's fallback begins, but for its spell: the notice, and the meter event. -/
def fallenBack (h : Hall) (b : BoothId) (c : ChannelId) : Hall :=
  meterEvent (boothEvent .relayFallback b (some c))
    ((h.modBooth b fun r => { r with fallback := some c }).post .booth .relayFallback (numOf b) c.val)

theorem resolveBooth_begins (rests : h.booths[b].fallback = none) (due : h.fallbackDue b = some c) :
    resolveBooth h b = openFallbackSpell b (fallenBack h b c) := by
  unfold resolveBooth
  rw [rests, due]
  rfl

theorem resolveBooth_ends (on : h.booths[b].fallback = some c) (due : h.fallbackDue b = none) :
    resolveBooth h b = endFallbackSpell b
      ((h.modBooth b fun r => { r with fallback := none }).post .booth .relayRestored (numOf b) c.val) := by
  unfold resolveBooth
  rw [on, due]

theorem resolveBooth_moves {d : ChannelId} (on : h.booths[b].fallback = some c) (due : h.fallbackDue b = some d) :
    resolveBooth h b = h.modBooth b fun r => { r with fallback := some d } := by
  unfold resolveBooth
  rw [on, due]

theorem resolveBooth_rests (rests : h.booths[b].fallback = none) (due : h.fallbackDue b = none) : resolveBooth h b = h := by
  unfold resolveBooth
  rw [rests, due]

theorem fallenBack_metered (h : Hall) (b : BoothId) (c : ChannelId) :
    Metered (h.modBooth b fun r => { r with fallback := some c }) (fallenBack h b c) :=
  (metered_post _ _ _ _ _).trans (metered_meterEvent _ _)

/-- The run of a booth whose fallback has begun. -/
def fallenRun (h : Hall) (c : ChannelId) (r : BoothRun) : BoothRun :=
  { r with fallback := some c, fallbackSince := if h.dayOpen then some h.now else r.fallbackSince }

theorem openFallbackSpell_booths (h : Hall) (b : BoothId) : (openFallbackSpell b h).booths =
    vmod h.booths b fun r => { r with fallbackSince := if h.dayOpen then some h.now else r.fallbackSince } := by
  unfold openFallbackSpell
  cases h.dayOpen with
  | true => rfl
  | false => exact (vmod_same_eq rfl).symm

theorem openFallbackSpell_rest (h : Hall) (b : BoothId) : (openFallbackSpell b h).work = h.work ∧
    (openFallbackSpell b h).meters = h.meters ∧ (openFallbackSpell b h).account = h.account := by
  unfold openFallbackSpell
  split <;> exact ⟨rfl, rfl, rfl⟩

theorem fallenBack_posts (h : Hall) (b : BoothId) (c : ChannelId) : ∃ posts, (fallenBack h b c).work.posts =
    h.work.posts ++ ⟨.booth, .relayFallback, numOf b, h.now, c.val, false⟩ :: posts := by
  have posted := posted_meterEvent ((h.modBooth b fun r => { r with fallback := some c }).post .booth .relayFallback
    (numOf b) c.val) (boothEvent .relayFallback b (some c))
  unfold Posted at posted
  obtain ⟨posts, grown⟩ := posted
  refine ⟨posts, ?_⟩
  unfold fallenBack
  rw [← grown]
  exact List.append_assoc ..

theorem fallenBack_meters (h : Hall) (b : BoothId) (c : ChannelId) :
    (fallenBack h b c).meters = (meterEvent ⟨.relayFallback, some b, none, none, some c⟩ h).meters :=
  meterEvent_meters (h := h) (k := (h.modBooth b fun r => { r with fallback := some c }).post .booth .relayFallback
    (numOf b) c.val) rfl rfl _

/-- A booth begins fallback (R73, R74). -/
theorem resolveBooth_begun (rests : h.booths[b].fallback = none) (due : h.fallbackDue b = some c) :
    let k := resolveBooth h b
    k.booths = vmod h.booths b (fallenRun h c) ∧
      (∃ posts, k.work.posts = h.work.posts ++ ⟨.booth, .relayFallback, numOf b, h.now, c.val, false⟩ :: posts) ∧
      k.meters = (meterEvent ⟨.relayFallback, some b, none, none, some c⟩ h).meters ∧ k.account = h.account := by
  have metered := fallenBack_metered h b c
  have day : (fallenBack h b c).dayOpen = h.dayOpen := congrArg (fun a => a.day.isOpen) metered.account
  have now : (fallenBack h b c).now = h.now := congrArg Clock.minute metered.clock
  have booths : (vmod (fallenBack h b c).booths b fun r =>
      { r with fallbackSince := if h.dayOpen then some h.now else r.fallbackSince }) = vmod h.booths b (fallenRun h c) := by
    rw [metered.booths]
    exact vmod_vmod h.booths b (fun r => { r with fallback := some c }) fun r =>
      { r with fallbackSince := if h.dayOpen then some h.now else r.fallbackSince }
  rw [← day, ← now, ← openFallbackSpell_booths] at booths
  dsimp only
  obtain ⟨work, meters, account⟩ := openFallbackSpell_rest (fallenBack h b c) b
  rw [resolveBooth_begins rests due, work, meters, account, fallenBack_meters, metered.account]
  exact ⟨booths, fallenBack_posts h b c, rfl, rfl⟩

/-- A booth's fallback ends (R73, R74). -/
theorem resolveBooth_ended (on : h.booths[b].fallback = some c) (due : h.fallbackDue b = none) :
    let k := resolveBooth h b
    k.booths = vmod h.booths b (fun r => { r with fallback := none, fallbackSince := none }) ∧
      k.work.posts = h.work.posts ++ [⟨.booth, .relayRestored, numOf b, h.now, c.val, false⟩] ∧ k.meters = h.meters ∧
      k.account = { h.account with booths := vmod h.account.booths b fun d =>
        { d with fallback := asOf h.booths[b].fallbackSince d.fallback h.now } } ∧
      (h.booths[b].fallbackSince ≠ none → onlyAccount ∈ k.work.asks) := by
  dsimp only
  rw [resolveBooth_ends on due]
  unfold endFallbackSpell
  have since : ((h.modBooth b fun r => { r with fallback := none }).post .booth .relayRestored (numOf b) c.val).booths[b].fallbackSince =
      h.booths[b].fallbackSince := (congrArg BoothRun.fallbackSince ((modBooth_get h b b fun r => { r with fallback := none }).trans (if_pos rfl)) :)
  rw [since]
  cases e : h.booths[b].fallbackSince with
  | none =>
    refine ⟨?_, rfl, rfl, ?_, fun n => absurd rfl n⟩
    · refine table_ext fun x => ?_
      show (vmod h.booths b _)[x] = _
      rw [vmod_get, vmod_get]
      split
      · next same => rw [← same, ← e]
      · rfl
    · have same : (vmod h.account.booths b fun d => { d with fallback := asOf none d.fallback h.now }) = h.account.booths :=
        vmod_same_eq rfl
      rw [same]
      rfl
  | some m =>
    dsimp only
    exact ⟨vmod_vmod h.booths b (fun r => { r with fallback := none }) fun r => { r with fallbackSince := none },
      rfl, rfl, rfl, fun _ => List.mem_append_right _ (.head _)⟩

/-! ### Every booth resolved -/

theorem incoming_congr {k : Hall} (p : h.Kept k) (b : BoothId) : k.incoming b = h.incoming b := by
  unfold Hall.incoming
  rw [p.owner, p.unowned, p.consoles]

theorem fallbackDue_congr {k : Hall} (p : Serving h k) (b : BoothId) : k.fallbackDue b = h.fallbackDue b := by
  unfold Hall.fallbackDue
  simp only [incoming_congr p.toKept, p.settings, p.service]

theorem resolveBooth_other {d : BoothId} (ne : b ≠ d) : (resolveBooth h b).booths[d] = h.booths[d] := by
  cases on : h.booths[b].fallback with
  | none =>
    cases due : h.fallbackDue b with
    | none => rw [resolveBooth_rests on due]
    | some c => rw [(resolveBooth_begun on due).1, vmod_other _ _ ne]
  | some c =>
    cases due : h.fallbackDue b with
    | none => rw [(resolveBooth_ended on due).1, vmod_other _ _ ne]
    | some d =>
      rw [resolveBooth_moves on due]
      exact vmod_other _ _ ne

theorem resolveBooth_fallback (h : Hall) (b : BoothId) : (resolveBooth h b).booths[b].fallback = h.fallbackDue b := by
  cases on : h.booths[b].fallback with
  | none =>
    cases due : h.fallbackDue b with
    | none => rw [resolveBooth_rests on due, on]
    | some c => rw [(resolveBooth_begun on due).1, vmod_get, if_pos rfl]; rfl
  | some c =>
    cases due : h.fallbackDue b with
    | none => rw [(resolveBooth_ended on due).1, vmod_get, if_pos rfl]
    | some d =>
      rw [resolveBooth_moves on due]
      exact congrArg BoothRun.fallback ((modBooth_get ..).trans (if_pos rfl))

/-- Booths resolved one after another: each of them is in fallback exactly where it is due. -/
theorem resolved_fallback {l : List BoothId} (h : Hall) {b : BoothId} (mem : b ∈ l) :
    (l.foldl resolveBooth h).booths[b].fallback = (l.foldl resolveBooth h).fallbackDue b := by
  have stays (l : List BoothId) (h : Hall) : Serving h (l.foldl resolveBooth h) :=
    foldl_keeps Serving.refl Serving.trans serving_resolveBooth l h
  suffices (l.foldl resolveBooth h).booths[b].fallback = h.fallbackDue b by
    rw [this, fallbackDue_congr (stays l h)]
  have holds (l : List BoothId) (k : Hall) (p : Serving h k) (on : k.booths[b].fallback = h.fallbackDue b) :
      (l.foldl resolveBooth k).booths[b].fallback = h.fallbackDue b := by
    induction l generalizing k with
    | nil => exact on
    | cons x l ih =>
      refine ih _ (p.trans (serving_resolveBooth k x)) ?_
      by_cases e : x = b
      · rw [e, resolveBooth_fallback, fallbackDue_congr p]
      · rw [resolveBooth_other e, on]
  obtain ⟨before, after, split⟩ := List.append_of_mem mem
  rw [split, List.foldl_append, List.foldl_cons]
  refine holds after _ ((stays before h).trans (serving_resolveBooth _ b)) ?_
  rw [resolveBooth_fallback, fallbackDue_congr (stays before h)]

theorem settle_fallback (h : Hall) (b : BoothId) : (settle h).booths[b].fallback = (settle h).fallbackDue b := by
  unfold settle
  dsimp only
  have metered := metered_meterLevelChange .liveConsoles (resolveAll (reportFeeders h)).liveCount (resolveAll (reportFeeders h))
  rw [metered.booths, fallbackDue_congr (serving_metered metered)]
  exact resolved_fallback _ (mem_ids b)

theorem reevaluate_fallback (changes : h.channels[c].service ≠ h.serviceOf c) (listed : c ∈ h.settings.booths[b].relayList) :
    (reevaluate h c).booths[b].fallback = (reevaluate h c).fallbackDue b := by
  have settings := (kept_reevaluate h c).settings
  unfold reevaluate at settings ⊢
  dsimp only at settings ⊢
  rw [if_neg changes] at settings ⊢
  generalize allocEvent (serviceReport c (h.serviceOf c)) (reviewChannel (h.modChannel c fun r => { r with service := h.serviceOf c }) c) = k
    at settings ⊢
  have same : k.settings = h.settings := (kept_resolveListing k c).settings.symm.trans settings
  refine resolved_fallback k (List.mem_filter.mpr ⟨mem_ids b, ?_⟩)
  rw [same]
  exact decide_eq_true listed

end

/-- Settles O51: a booth by its fallback before and after, then all of them, then those that list a channel. -/
theorem relayFallback : Obligations.RelayFallback := by
  refine ⟨fun h b => ⟨effective_eq h b, kept_resolveBooth h b, fun c rests lost => ?_, fun c on stands => ?_,
    fun c d on lost => ?_, fun rests stands => resolveBooth_rests rests (fallbackDue_none stands)⟩, settle_fallback,
    fun h c changes b listed => reevaluate_fallback changes listed⟩
  · obtain ⟨booths, given⟩ := resolveBooth_begun rests ((fallbackDue_iff h b c).mpr lost)
    refine ⟨?_, given⟩
    rw [booths, vmod_get, if_pos rfl]
    rfl
  · obtain ⟨booths, given⟩ := resolveBooth_ended on (fallbackDue_none stands)
    refine ⟨?_, given⟩
    rw [booths, vmod_get, if_pos rfl]
  · exact resolveBooth_moves on ((fallbackDue_iff h b d).mpr lost)

end Sys2Proof.StepProofs
end

-- ==== Proofs: Carriers ====
section
/-! PROOFS. What a request for a carrier takes, and the service of the wait list (R81 to R84, R86). -/

namespace Sys2Proof.StepProofs

open Machine

/-! ### The first of a list by an order -/

/-- An entry that is taken before all that stand ahead of it, and before which none behind it is taken, is picked. -/
theorem pick_eq {α : Type} {better : α → α → Bool} {k : α} {before after : List α}
    (ahead : ∀ x ∈ before, x = k ∨ better k x = true) (behind : ∀ x ∈ after, x = k ∨ better x k = false) :
    pick better (before ++ k :: after) = some k := by
  induction before with
  | nil =>
    show pick better (k :: after) = some k
    unfold pick
    split
    · rfl
    · next y picked =>
      rcases behind y (pick_mem picked) with same | worse
      · rw [same, ite_self]
      · rw [if_neg (by rw [worse]; decide)]
  | cons x before ih =>
    show pick better (x :: (before ++ k :: after)) = some k
    unfold pick
    rw [ih fun y m => ahead y (.tail _ m)]
    dsimp only
    rcases ahead x (.head _) with same | first
    · rw [same, ite_self]
    · rw [if_pos first]

/-- An entry taken before every other is picked. -/
theorem pick_least {α : Type} {better : α → α → Bool} {k : α} {l : List α} (mem : k ∈ l)
    (first : ∀ x ∈ l, x = k ∨ better k x = true ∧ better x k = false) : pick better l = some k := by
  obtain ⟨before, after, split⟩ := List.append_of_mem mem
  rw [split] at first ⊢
  exact pick_eq (fun x m => (first x (List.mem_append_left _ m)).imp_right And.left)
    fun x m => (first x (List.mem_append_right _ (.tail _ m))).imp_right And.right

theorem pick_none {α : Type} {better : α → α → Bool} {l : List α} (none : pick better l = .none) : l = [] := by
  cases l with
  | nil => rfl
  | cons x l =>
    unfold pick at none
    split at none
    · cases none
    · split at none <;> cases none

theorem allocatable_ascending : allocatable.Pairwise (· < ·) := (ChargeProofs.ids_ascending 16).filter _

/-! ### The four steps of R81 -/

section
variable {h : Hall} {j : CarrierId} {c d : ChannelId}

theorem isFree_iff (r : Carrier) : r.isFree = true ↔ r = .free := by
  cases r <;> simp [Carrier.isFree]

theorem isHolding_iff (r : Carrier) : r.isHolding = true ↔ ∃ d since e, r = .holding d since e := by
  cases r <;> simp [Carrier.isHolding]

theorem find_allocatable {p : CarrierId → Bool} (meets : p j = true) (alloc : j ≠ 0) (least : ∀ i, i ≠ 0 → p i = true → j ≤ i) :
    allocatable.find? p = some j := by
  unfold allocatable
  rw [List.find?_filter]
  refine find_ids (decide_eq_true ⟨bne_iff_ne.mpr alloc, meets⟩) fun i pi => ?_
  have ⟨ne, pi⟩ := of_decide_eq_true pi
  exact least i (bne_iff_ne.mp ne) pi

theorem freeCarrier_some (alloc : j ≠ 0) (free : h.air.carriers[j] = .free)
    (least : ∀ i : CarrierId, i ≠ 0 → h.air.carriers[i] = .free → j ≤ i) : freeCarrier h = some j :=
  find_allocatable (by rw [free]; rfl) alloc fun i ne f => least i ne ((isFree_iff _).mp f)

theorem freeCarrier_none : freeCarrier h = none ↔ ∀ i : CarrierId, i ≠ 0 → h.air.carriers[i] ≠ .free := by
  unfold freeCarrier
  rw [List.find?_eq_none]
  exact ⟨fun none i ne free => none i (mem_allocatable.mpr ne) (by rw [free]; rfl),
    fun none i mem free => none i (mem_allocatable.mp mem) ((isFree_iff _).mp free)⟩

theorem mem_holding {i : CarrierId} : i ∈ allocatable.filter (fun k => h.air.carriers[k].isHolding) ↔
    i ≠ 0 ∧ ∃ d since e, h.air.carriers[i] = .holding d since e := by
  rw [List.mem_filter, mem_allocatable, isHolding_iff]

theorem holdingCarrier_some {e : Nat} (alloc : j ≠ 0) (holds : ∃ d since, h.air.carriers[j] = .holding d since e)
    (first : ∀ (i : CarrierId) x, (i ≠ 0 ∧ ∃ d since, h.air.carriers[i] = .holding d since x) → e < x ∨ (e = x ∧ j ≤ i)) :
    holdingCarrier h = some j := by
  obtain ⟨d, since, holds⟩ := holds
  have mem : j ∈ allocatable.filter (fun k => h.air.carriers[k].isHolding) := mem_holding.mpr ⟨alloc, d, since, e, holds⟩
  have ascending : (allocatable.filter fun k => h.air.carriers[k].isHolding).Pairwise (· < ·) := allocatable_ascending.filter _
  have order {i : CarrierId} (m : i ∈ allocatable.filter (fun k => h.air.carriers[k].isHolding)) :
      e < (h.air.carriers[i].expiry?).getD 0 ∨ (e = (h.air.carriers[i].expiry?).getD 0 ∧ j ≤ i) := by
    obtain ⟨ne, x, start, t, r⟩ := mem_holding.mp m
    have later := first i t ⟨ne, x, start, r⟩
    rwa [r]
  have own : (h.air.carriers[j].expiry?).getD 0 = e := by rw [holds]; rfl
  unfold holdingCarrier
  obtain ⟨before, after, split⟩ := List.append_of_mem mem
  rw [split] at ascending ⊢
  obtain ⟨-, tail, across⟩ := List.pairwise_append.mp ascending
  refine pick_eq (fun i m => .inr (decide_eq_true ?_)) fun i m => .inr (decide_eq_false ?_)
  · have ahead := across i m j (.head _)
    rw [own]
    exact (order (split ▸ List.mem_append_left _ m)).resolve_right fun tie => absurd ahead (Fin.not_lt.mpr tie.2)
  · rw [own]
    rcases order (split ▸ List.mem_append_right _ (.tail _ m)) with lt | ⟨tie, -⟩ <;> omega

theorem holdingCarrier_none : holdingCarrier h = none ↔
    ∀ i : CarrierId, i ≠ 0 → ∀ d since e, h.air.carriers[i] ≠ .holding d since e := by
  unfold holdingCarrier
  constructor
  · intro none i ne d since e holds
    have mem := mem_holding.mpr ⟨ne, d, since, e, holds⟩
    rw [pick_none none] at mem
    cases mem
  · intro none
    have empty : (allocatable.filter fun k => h.air.carriers[k].isHolding) = [] := by
      refine List.eq_nil_iff_forall_not_mem.mpr fun i mem => ?_
      obtain ⟨ne, d, since, e, holds⟩ := mem_holding.mp mem
      exact none i ne d since e holds
    rw [empty]
    rfl

theorem mem_holders {v : Service} : (j, d) ∈ holders v h ↔ j ≠ 0 ∧ (∃ since, h.air.carriers[j] = .onAir d since) ∧
    h.settings.channels[d].pinned = false ∧ h.channels[d].service = v := by
  refine ⟨holder_mem, fun ⟨ne, ⟨since, own⟩, unpinned, service⟩ => List.mem_filterMap.mpr ⟨j, mem_allocatable.mpr ne, ?_⟩⟩
  rw [own]
  exact if_pos (by rw [unpinned, service]; simp)

/-- A holder of the lowest demand, the higher channel of equals, is picked from any part of the holders. -/
theorem pick_holder {v : Service} {p : CarrierId × ChannelId → Bool} (l : h.AirLawful) (mem : (j, d) ∈ holders v h) (meets : p (j, d) = true)
    (first : ∀ i x, (i, x) ∈ holders v h → p (i, x) = true → h.demand d < h.demand x ∨ (h.demand d = h.demand x ∧ x ≤ d)) :
    pick h.takenFirst ((holders v h).filter p) = some (j, d) := by
  refine pick_least (List.mem_filter.mpr ⟨mem, meets⟩) fun ⟨i, x⟩ m => ?_
  obtain ⟨m, px⟩ := List.mem_filter.mp m
  by_cases same : x = d
  · left
    obtain ⟨-, ⟨since, own⟩, -⟩ := mem_holders.mp mem
    obtain ⟨-, ⟨start, other⟩, -⟩ := mem_holders.mp m
    by_contra ne
    have apart : i ≠ j := fun e => ne (by rw [e, same])
    exact l.single i j apart d (by rw [other, same]; rfl) (by rw [own]; rfl)
  · right
    have order := first i x m px
    have apart : x.val ≠ d.val := fun e => same (Fin.ext e)
    unfold Hall.takenFirst
    simp only [Bool.or_eq_true, Bool.and_eq_true, Bool.or_eq_false_iff, Bool.and_eq_false_iff, decide_eq_true_eq,
      decide_eq_false_iff_not, beq_iff_eq, beq_eq_false_iff_ne, Fin.lt_def, Fin.le_def] at order ⊢
    omega

theorem fillHolder_some (l : h.AirLawful) (mem : (j, d) ∈ holders .fill h)
    (first : ∀ i x, (i, x) ∈ holders .fill h → h.demand d < h.demand x ∨ (h.demand d = h.demand x ∧ x ≤ d)) :
    fillHolder h = some (j, d) := by
  have picked := pick_holder (p := fun _ => true) l mem rfl fun i x m _ => first i x m
  rwa [List.filter_eq_self.mpr fun _ _ => rfl] at picked

theorem fillHolder_none : fillHolder h = none ↔ ∀ i x, (i, x) ∉ holders .fill h := by
  unfold fillHolder
  constructor
  · intro none i x mem
    rw [pick_none none] at mem
    cases mem
  · intro none
    have empty : holders .fill h = [] := List.eq_nil_iff_forall_not_mem.mpr fun p => none p.1 p.2
    rw [empty]
    rfl

theorem liveHolder_some (l : h.AirLawful) (mem : (j, d) ∈ holders .live h)
    (below : h.settings.channels[c].pinned = true ∨ h.demand d + h.settings.hall.margin < h.demand c)
    (first : ∀ i x, (i, x) ∈ holders .live h → (h.settings.channels[c].pinned = true ∨
      h.demand x + h.settings.hall.margin < h.demand c) → h.demand d < h.demand x ∨ (h.demand d = h.demand x ∧ x ≤ d)) :
    liveHolder c h = some (j, d) :=
  pick_holder l mem (by simpa using below) fun i x m px => first i x m (by simpa using px)

theorem liveHolder_none (none : ∀ i x, (i, x) ∈ holders .live h → ¬ (h.settings.channels[c].pinned = true ∨
    h.demand x + h.settings.hall.margin < h.demand c)) : liveHolder c h = .none := by
  unfold liveHolder
  rw [List.filter_eq_nil_iff.mpr fun ⟨i, x⟩ m px => none i x m (by simpa using px)]
  rfl

/-! ### The offer, by the first step that succeeds -/

theorem offer_free (free : freeCarrier h = some j) : offer c h = some (giveCarrier j c h) := by
  unfold offer
  rw [free]

theorem offer_holding (free : freeCarrier h = none) (holding : holdingCarrier h = some j) :
    offer c h = some (giveCarrier j c h) := by
  unfold offer
  rw [free]
  dsimp only
  rw [holding]

theorem offer_fill (free : freeCarrier h = none) (holding : holdingCarrier h = none) (fill : fillHolder h = some (j, d)) :
    offer c h = some (giveCarrier j c (postEvict j d h)) := by
  unfold offer
  rw [free]
  dsimp only
  rw [holding]
  dsimp only
  rw [fill]

theorem offer_live (free : freeCarrier h = none) (holding : holdingCarrier h = none) (fill : fillHolder h = none)
    (live : liveHolder c h = some (j, d)) : offer c h = some (joinWait d (giveCarrier j c (postEvict j d h))) := by
  unfold offer
  rw [free]
  dsimp only
  rw [holding]
  dsimp only
  rw [fill]
  dsimp only
  rw [live]

theorem offer_none (free : freeCarrier h = none) (holding : holdingCarrier h = none) (fill : fillHolder h = none)
    (live : liveHolder c h = none) : offer c h = none := by
  unfold offer
  rw [free]
  dsimp only
  rw [holding]
  dsimp only
  rw [fill]
  dsimp only
  rw [live]

theorem requestCarrier_of {k : Hall} (e : offer c h = some k) : requestCarrier c h = k := by
  unfold requestCarrier
  rw [e]

theorem requestCarrier_joins (e : offer c h = none) : requestCarrier c h = joinWait c h := by
  unfold requestCarrier
  rw [e]

theorem joinWait_eq {l : List ChannelId} (e : insertBy h.outranks d h.air.waiting = l) : joinWait d h =
    meterEvent (channelEvent .carrierWait d) ((h.setWaiting l).post .carrier .carrierWait d.val (l.idxOf d + 1)) := by
  unfold joinWait
  rw [e]

theorem joinWait_notice {l : List ChannelId} (e : insertBy h.outranks d h.air.waiting = l) :
    (⟨.carrier, .carrierWait, d.val, h.now, l.idxOf d + 1, false⟩ : Notice) ∈ (joinWait d h).work.posts := by
  have notice := mem_post (h.setWaiting l) .carrier .carrierWait d.val (l.idxOf d + 1)
  rw [joinWait_eq e]
  exact (posted_meterEvent ((h.setWaiting l).post .carrier .carrierWait d.val (l.idxOf d + 1)) _).mem notice

/-- A channel joins the wait list in its place, with the notice of it (R84). -/
theorem joinWait_joins (l : (joinWait d h).AirLawful) :
    (joinWait d h).air.waiting.Perm (d :: h.air.waiting) ∧
      ((joinWait d h).air.waiting.Pairwise fun x y => h.outranks x y = true) ∧
      (⟨.carrier, .carrierWait, d.val, h.now, (joinWait d h).air.waiting.idxOf d + 1, false⟩ : Notice) ∈
        (joinWait d h).work.posts := by
  have waiting : (joinWait d h).air.waiting = insertBy h.outranks d h.air.waiting := congrArg Allocator.waiting (joinWait_air d)
  refine ⟨by rw [waiting]; exact insertBy_perm .., ?_, ?_⟩
  · have ranked := l.ranked
    rwa [outranks_congr h fun x => (kept_joinWait h d).demand x] at ranked
  · rw [waiting]
    exact joinWait_notice rfl

theorem postEvict_mem (k : CarrierId) (e : ChannelId) :
    (⟨.carrier, .carrierEvict, e.val, h.now, k.val, false⟩ : Notice) ∈ (postEvict k e h).work.posts := by
  have notice := mem_post h .carrier .carrierEvict e.val k.val
  unfold postEvict
  exact (posted_meterEvent _ (channelEvent .carrierEvict e)).mem notice

theorem giveCarrier_carriers (j : CarrierId) (c : ChannelId) (h : Hall) :
    (giveCarrier j c h).air.carriers = vset h.air.carriers j (.onAir c h.now) := rfl

theorem giveCarrier_waiting (j : CarrierId) (c : ChannelId) (h : Hall) : (giveCarrier j c h).air.waiting = h.air.waiting := rfl

theorem evictedFrom_carriers : (giveCarrier j c (postEvict j d h)).air.carriers = vset h.air.carriers j (.onAir c h.now) := by
  rw [giveCarrier_carriers, postEvict_air, show (postEvict j d h).now = h.now from congrArg Clock.minute (kept_postEvict h j d).clock]

theorem evictedFrom_waiting : (giveCarrier j c (postEvict j d h)).air.waiting = h.air.waiting := by
  rw [giveCarrier_waiting, postEvict_air]

theorem joinWait_carriers (d : ChannelId) (h : Hall) : (joinWait d h).air.carriers = h.air.carriers := by
  rw [joinWait_air]
  rfl

theorem mem_joinWait {x : ChannelId} : x ∈ (joinWait d h).air.waiting ↔ x = d ∨ x ∈ h.air.waiting := by
  rw [show (joinWait d h).air.waiting = _ from congrArg Allocator.waiting (joinWait_air d)]
  exact mem_insertBy

/-! ### Service of the wait list -/

/-- The carrier would be given without an eviction of a LIVE channel: it is FREE, HOLDING, or ON_AIR for an unpinned
channel in FILL (R81, steps 1 to 3). -/
def loose (h : Hall) (j : CarrierId) : Prop :=
  j ≠ 0 ∧ ¬ ∃ c since, h.air.carriers[j] = .onAir c since ∧
    ¬(h.settings.channels[c].pinned = false ∧ h.channels[c].service = .fill)

/-- The loose carriers are at most `n`. -/
def looseWithin (h : Hall) (n : Nat) : Prop := ∃ l : List CarrierId, l.length ≤ n ∧ ∀ j, loose h j → j ∈ l

/-- Every channel that waits is LIVE and unpinned. -/
def waitersLive (h : Hall) : Prop :=
  ∀ c ∈ h.air.waiting, h.channels[c].service = .live ∧ h.settings.channels[c].pinned = false

theorem loose_congr {k : Hall} (kept : h.Kept k) (service : ∀ c : ChannelId, k.channels[c].service = h.channels[c].service)
    (carriers : k.air.carriers = h.air.carriers) (j : CarrierId) : loose k j ↔ loose h j := by
  unfold loose
  rw [carriers, kept.settings]
  simp only [service]

/-- No carrier is loose where the first three steps of R81 fail. -/
theorem no_loose (free : freeCarrier h = none) (holding : holdingCarrier h = none) (fill : fillHolder h = none) (j : CarrierId) :
    ¬ loose h j := by
  rintro ⟨ne, out⟩
  cases r : h.air.carriers[j] with
  | free => exact freeCarrier_none.mp free j ne r
  | holding d since e => exact holdingCarrier_none.mp holding j ne d since e r
  | onAir d since =>
    refine out ⟨d, since, r, fun ⟨unpinned, service⟩ => ?_⟩
    exact fillHolder_none.mp fill j d (mem_holders.mpr ⟨ne, ⟨since, r⟩, unpinned, service⟩)

theorem offer_none_no_loose (none : offer c h = .none) (j : CarrierId) : ¬ loose h j := by
  unfold offer at none
  split at none
  · cases none
  · next free =>
    split at none
    · cases none
    · next holding =>
      split at none
      · cases none
      · next fill => exact no_loose free holding fill j

/-- A carrier given to a LIVE channel is loose no longer. -/
theorem loose_given {k : Hall} (serving : Serving h k) (carriers : k.air.carriers = vset h.air.carriers j (.onAir c h.now))
    (live : h.channels[c].service = .live) {i : CarrierId} (out : loose k i) : loose h i ∧ i ≠ j := by
  obtain ⟨ne, out⟩ := out
  rw [carriers, serving.settings] at out
  simp only [serving.service] at out
  by_cases e : i = j
  · refine absurd ⟨c, h.now, ?_, fun both => ?_⟩ out
    · rw [e]
      exact vset_same ..
    · rw [live] at both
      cases both.2
  · rw [show (vset h.air.carriers j (.onAir c h.now))[i] = h.air.carriers[i] from vset_other _ _ (Ne.symm e)] at out
    exact ⟨⟨ne, out⟩, e⟩

theorem serving_offer {k : Hall} (e : offer c h = some k) : Serving h k := serving_aired (aired_offer h e)

/-- A grant takes a loose carrier, or evicts a LIVE channel where none is loose. -/
theorem offer_steps {k : Hall} (e : offer c h = some k) :
    (∃ j, loose h j ∧ k.air.carriers = vset h.air.carriers j (.onAir c h.now) ∧ k.air.waiting = h.air.waiting) ∨
    ((∀ j, ¬ loose h j) ∧ ∃ j d, (j, d) ∈ holders .live h ∧ k.air.carriers = vset h.air.carriers j (.onAir c h.now) ∧
      ∀ x ∈ k.air.waiting, x = d ∨ x ∈ h.air.waiting) := by
  unfold offer at e
  split at e
  · next j free =>
    rw [← Option.some.inj e]
    refine .inl ⟨j, ⟨mem_allocatable.mp (List.mem_of_find?_eq_some free), ?_⟩, giveCarrier_carriers .., giveCarrier_waiting ..⟩
    rintro ⟨d, since, r, -⟩
    have found : h.air.carriers[j].isFree = true := List.find?_some (p := fun k : CarrierId => h.air.carriers[k].isFree) free
    rw [r] at found
    cases found
  · next free =>
    split at e
    · next j holding =>
      obtain ⟨alloc, d, since, t, r⟩ := mem_holding.mp (pick_mem holding)
      rw [← Option.some.inj e]
      refine .inl ⟨j, ⟨alloc, ?_⟩, giveCarrier_carriers .., giveCarrier_waiting ..⟩
      rintro ⟨x, start, other, -⟩
      rw [r] at other
      cases other
    · next holding =>
      split at e
      · next j d fill =>
        obtain ⟨alloc, ⟨since, r⟩, unpinned, service⟩ := holder_mem (fillHolder_mem fill)
        rw [← Option.some.inj e]
        refine .inl ⟨j, ⟨alloc, ?_⟩, evictedFrom_carriers, evictedFrom_waiting⟩
        rintro ⟨x, start, other, pinned⟩
        rw [r] at other
        injection other with same
        rw [← same] at pinned
        exact pinned ⟨unpinned, service⟩
      · next fill =>
        split at e
        · next j d evicted =>
          rw [← Option.some.inj e]
          refine .inr ⟨no_loose free holding fill, j, d, liveHolder_mem evicted, ?_, fun x m => ?_⟩
          · rw [joinWait_carriers, evictedFrom_carriers]
          · rw [mem_joinWait, evictedFrom_waiting] at m
            exact m
        · cases e

/-- One grant uses a loose carrier where there is one, and leaves those that wait LIVE and unpinned. -/
theorem offer_serves {k : Hall} {n : Nat} (e : offer c h = some k) (live : h.channels[c].service = .live)
    (waiters : waitersLive h) (within : looseWithin h (n + 1)) : waitersLive k ∧ looseWithin k n := by
  have serving := serving_offer e
  rcases offer_steps e with ⟨j, out, carriers, waiting⟩ | ⟨none, j, d, holder, carriers, waiting⟩
  · refine ⟨fun x m => ?_, ?_⟩
    · rw [serving.service, serving.settings]
      exact waiters x (waiting ▸ m)
    · obtain ⟨l, short, all⟩ := within
      refine ⟨l.erase j, ?_, fun i loose_i => ?_⟩
      · rw [List.length_erase_of_mem (all j out)]
        omega
      · obtain ⟨out, ne⟩ := loose_given serving carriers live loose_i
        exact (List.mem_erase_of_ne ne).mpr (all i out)
  · obtain ⟨-, -, unpinned, service⟩ := holder_mem holder
    refine ⟨fun x m => ?_, [], Nat.zero_le n, fun i loose_i => absurd (loose_given serving carriers live loose_i).1 (none i)⟩
    rw [serving.service, serving.settings]
    rcases waiting x m with same | m
    · rw [same]
      exact ⟨service, unpinned⟩
    · exact waiters x m

/-- While channels still wait after the list was served, no carrier is loose (R86). -/
theorem serveList_serves (n : Nat) (h : Hall) (waiters : waitersLive h) (within : looseWithin h n)
    (left : (serveList n h).air.waiting ≠ []) (j : CarrierId) : ¬ loose (serveList n h) j := by
  induction n generalizing h with
  | zero =>
    obtain ⟨l, short, all⟩ := within
    intro out
    have mem := all j out
    rw [List.length_eq_zero_iff.mp (Nat.le_zero.mp short)] at mem
    cases mem
  | succ n ih =>
    unfold serveList at left ⊢
    cases w : h.air.waiting with
    | nil =>
      rw [w] at left
      exact absurd w left
    | cons c rest =>
      rw [w] at left
      dsimp only at left ⊢
      have kept : waitersLive (h.setWaiting rest) := fun x m => waiters x (w ▸ .tail _ m)
      have head := (waiters c (w ▸ .head _)).1
      cases e : offer c (h.setWaiting rest) with
      | none => exact fun out => offer_none_no_loose e j out
      | some k =>
        rw [e] at left
        obtain ⟨live, fewer⟩ := offer_serves e head kept within
        exact ih k live fewer left

/-- At the end of an event of the allocator (R86). -/
theorem allocEvent_serves {act : Hall → Hall} (waiters : waitersLive (act h))
    (left : (allocEvent act h).air.waiting ≠ []) {j : CarrierId} (alloc : j ≠ 0) :
    ∃ c since, (allocEvent act h).air.carriers[j] = .onAir c since ∧
      ¬((allocEvent act h).settings.channels[c].pinned = false ∧ (allocEvent act h).channels[c].service = .fill) := by
  obtain ⟨carriers, waiting⟩ := allocReport_air h (serveList 32 (act h))
  have serving := serving_allocReport (serveList 32 (act h)) h
  have none : ¬ loose (allocEvent act h) j := by
    unfold allocEvent
    rw [loose_congr serving.toKept serving.service carriers]
    refine serveList_serves 32 (act h) waiters ⟨ids 16, by decide, fun i _ => mem_ids i⟩ ?_ j
    rw [← waiting]
    exact left
  by_contra out
  exact none ⟨alloc, out⟩

end

/-- Settles O52: the request by the first step that succeeds, and the list as an event leaves it. -/
theorem carrierOffers : Obligations.CarrierOffers := by
  refine ⟨fun h c l ne out free => ?_, fun h act waiters => ⟨?_, fun left j alloc => allocEvent_serves waiters left alloc⟩⟩
  · have uninvolved : ¬ Involved h c := fun i => i.elim (fun ⟨k, e⟩ => free k e) out
    have joins {d : ChannelId} {g : Hall} (lawful : (joinWait d g).AirLawful) (kept : h.Kept g) (waiting : g.air.waiting = h.air.waiting) :
        (joinWait d g).air.waiting.Perm (d :: h.air.waiting) ∧
          ((joinWait d g).air.waiting.Pairwise fun x y => h.outranks x y = true) ∧
          (⟨.carrier, .carrierWait, d.val, h.now, (joinWait d g).air.waiting.idxOf d + 1, false⟩ : Notice) ∈
            (joinWait d g).work.posts := by
      have given := joinWait_joins lawful
      rwa [waiting, outranks_congr h kept.demand, show g.now = h.now from congrArg Clock.minute kept.clock] at given
    have lawful := requestCarrier_lawful l ne uninvolved
    refine ⟨kept_requestCarrier h c, by rw [aired_requestCarrier h c], fun _ j alloc least => ?_, fun none => ?_⟩
    · rw [requestCarrier_of (offer_free (freeCarrier_some alloc.1 alloc.2 fun i a b => least i ⟨a, b⟩))]
      exact ⟨rfl, rfl, rfl⟩
    have no_free : freeCarrier h = .none := freeCarrier_none.mpr fun i a b => none ⟨i, a, b⟩
    refine ⟨fun _ j e holding first => ?_, fun none => ?_⟩
    · rw [requestCarrier_of (offer_holding no_free (holdingCarrier_some holding.1 holding.2 first))]
      exact ⟨rfl, rfl, rfl⟩
    have no_holding : holdingCarrier h = .none := holdingCarrier_none.mpr fun i a d since e r => none ⟨i, e, a, d, since, r⟩
    refine ⟨fun _ j d holder first => ?_, fun none => ?_⟩
    · rw [requestCarrier_of (offer_fill no_free no_holding
        (fillHolder_some l (mem_holders.mpr holder) fun i x m => first i x (mem_holders.mp m)))]
      have notice := (posted_giveCarrier (postEvict j d h) j c).mem (postEvict_mem j d)
      exact ⟨evictedFrom_carriers, evictedFrom_waiting, notice⟩
    have no_fill : fillHolder h = .none := fillHolder_none.mpr fun i x m => none ⟨i, x, mem_holders.mp m⟩
    refine ⟨fun _ j d ⟨holder, below⟩ first => ?_, fun none => ?_⟩
    · rw [requestCarrier_of (offer_live no_free no_holding no_fill (liveHolder_some l (mem_holders.mpr holder) below
        fun i x m below => first i x ⟨mem_holders.mp m, below⟩))] at lawful ⊢
      have kept : h.Kept (giveCarrier j c (postEvict j d h)) := (kept_postEvict h j d).trans (kept_giveCarrier _ j c)
      have notice := (posted_giveCarrier (postEvict j d h) j c).mem (postEvict_mem j d)
      have carriers : (giveCarrier j c (postEvict j d h)).air.carriers = vset h.air.carriers j (.onAir c h.now) := evictedFrom_carriers
      have waiting : (giveCarrier j c (postEvict j d h)).air.waiting = h.air.waiting := evictedFrom_waiting
      generalize giveCarrier j c (postEvict j d h) = g at lawful kept notice carriers waiting ⊢
      exact ⟨(joinWait_carriers d g).trans carriers, joins lawful kept waiting, (posted_joinWait g d).mem notice⟩
    · have no_live : liveHolder c h = .none := liveHolder_none fun i x m below => none ⟨i, x, mem_holders.mp m, below⟩
      rw [requestCarrier_joins (offer_none no_free no_holding no_fill no_live)] at lawful ⊢
      exact ⟨joinWait_carriers .., joins lawful (.refl h) rfl⟩
  · exact (kept_serveList _ _).trans (kept_allocReport _ _)

end Sys2Proof.StepProofs
end

-- ==== Proofs: Lookups ====
section
/-! PROOFS. What is found in the fleet's tables after a record was entered or taken out (R100, R102, R103). -/

namespace Sys2Proof.StepProofs

open Machine

section
variable {α κ : Type} [BEq κ] [LawfulBEq κ] (key : α → κ)

theorem find_filter_other {x k : κ} (ne : x ≠ k) (l : List α) :
    (l.filter fun y => key y != x).find? (fun y => key y == k) = l.find? fun y => key y == k := by
  rw [List.find?_filter]
  congr 1
  funext y
  cases e : key y == k with
  | false => simp
  | true => simpa [beq_iff_eq.mp e] using Ne.symm ne

theorem find_filter_same (k : κ) (l : List α) : (l.filter fun y => key y != k).find? (fun y => key y == k) = none := by
  rw [List.find?_eq_none]
  intro y m
  simpa using (List.mem_filter.mp m).2

variable [DecidableEq κ]

theorem find_insertBy (before : α → α → Bool) (x : α) {l : List α} (new : ∀ y ∈ l, key y ≠ key x) (k : κ) :
    (insertBy before x l).find? (fun y => key y == k) = if key x = k then some x else l.find? fun y => key y == k := by
  induction l with
  | nil =>
    by_cases e : key x = k <;> simp [insertBy, e]
  | cons y l ih =>
    have first := new y (.head _)
    have rest := ih fun z m => new z (.tail _ m)
    unfold insertBy
    split
    · by_cases e : key x = k <;> simp [e]
    · rw [List.find?_cons, rest, List.find?_cons]
      by_cases e : key y = k
      · have ne : key x ≠ k := by rw [← e]; exact Ne.symm first
        simp [e, ne]
      · rw [beq_eq_false_iff_ne.mpr e]

/-- A record entered for its key's is found by that key, and the others by theirs. -/
theorem find_entered (before : α → α → Bool) (x : α) (l : List α) (k : κ) :
    (insertBy before x (l.filter fun y => key y != key x)).find? (fun y => key y == k) =
      if key x = k then some x else l.find? fun y => key y == k := by
  rw [find_insertBy key before x (fun y m => by simpa using (List.mem_filter.mp m).2)]
  by_cases e : key x = k
  · rw [if_pos e, if_pos e]
  · rw [if_neg e, if_neg e, find_filter_other key e]

end

section
variable (h : Hall)

theorem hire_putHire (x : Hire) (n : Nat) : (h.putHire x).hire n = if x.number = n then some x else h.hire n :=
  find_entered Hire.number _ x h.fleet.hires n

theorem hire_dropHire (m n : Nat) : (h.dropHire m).hire n = if m = n then none else h.hire n := by
  by_cases e : m = n
  · rw [if_pos e, ← e]
    exact find_filter_same Hire.number m h.fleet.hires
  · rw [if_neg e]
    exact find_filter_other Hire.number e h.fleet.hires

theorem hire_find {h : Hall} (o : h.fleet.ordered) {x : Hire} (mem : x ∈ h.fleet.hires) : h.hire x.number = some x := by
  cases f : h.hire x.number with
  | none => exact absurd (List.find?_eq_none.mp f x mem) (by simp)
  | some y => rw [hire_unique o (hire_mem f) mem (hire_number f)]

theorem receiver_putReceiver (x : Receiver) (n : Serial) :
    (h.putReceiver x).receiver n = if x.serial = n then some x else h.receiver n :=
  find_entered Receiver.serial _ x h.fleet.receivers n

theorem receiver_dropReceiver (m n : Serial) : (h.dropReceiver m).receiver n = if m = n then none else h.receiver n := by
  by_cases e : m = n
  · rw [if_pos e, ← e]
    exact find_filter_same Receiver.serial m h.fleet.receivers
  · rw [if_neg e]
    exact find_filter_other Receiver.serial e h.fleet.receivers

/-- A badge entered; one that lists no hire and owes nothing has no entry (R103). -/
theorem badge_putBadge (x : Badge) (n : Serial) : (h.putBadge x).badge n =
    if x.number = n then (if x.hires = [] ∧ x.debt = 0 then none else some x) else h.badge n := by
  unfold Hall.putBadge Hall.badge
  dsimp only
  by_cases idle : x.hires = [] ∧ x.debt = 0
  · rw [if_pos idle, if_pos idle]
    by_cases e : x.number = n
    · rw [if_pos e, ← e]
      exact find_filter_same Badge.number x.number h.fleet.badges
    · rw [if_neg e]
      exact find_filter_other Badge.number e h.fleet.badges
  · rw [if_neg idle, if_neg idle]
    exact find_entered Badge.number _ x h.fleet.badges n

end

end Sys2Proof.StepProofs
end

-- ==== Proofs: Reports ====
section
/-! PROOFS. What the carrier allocator's report moves: the spells of each channel whose carrier changed, the directory's
generation, and the counts handed to the meter unit (R89, R90, R93). -/

namespace Sys2Proof.StepProofs

open Machine

/-! ### The figures as of now, which no review of spells moves -/

theorem asOf_le {since : Option Nat} {total now : Nat} (bounded : total ≤ 4294967295) : asOf since total now ≤ 4294967295 := by
  cases since with
  | none => exact bounded
  | some m => exact Nat.min_le_right _ _

/-- The figure of a kind of spell as of now stands while the spell begins, ends or goes on. -/
theorem asOf_spell {total : Nat} (bounded : total ≤ 4294967295) (since : Option Nat) (on : Bool) (now : Nat) :
    asOf (if on then some (since.getD now) else none) (if on then total else asOf since total now) now = asOf since total now := by
  cases on with
  | false => rfl
  | true =>
    cases since with
    | some m => rfl
    | none =>
      show satCount (total + (now - now)) = total
      rw [Nat.sub_self, Nat.add_zero]
      exact Nat.min_eq_left bounded

/-- The figures of channel `c` as of now stand, those whose total lies in its range. -/
structure Figures (c : ChannelId) (h k : Hall) : Prop where
  outage : h.account.channels[c].outage ≤ 4294967295 →
    k.account.channels[c].outage ≤ 4294967295 ∧ k.outage c = h.outage c
  onAir : h.account.channels[c].onAir ≤ 4294967295 →
    k.account.channels[c].onAir ≤ 4294967295 ∧ k.onAirMinutes c = h.onAirMinutes c
  fill : h.account.channels[c].fill ≤ 4294967295 →
    k.account.channels[c].fill ≤ 4294967295 ∧ k.fillMinutes c = h.fillMinutes c

section
variable {c : ChannelId} {h k l : Hall}

theorem Figures.refl (h : Hall) : Figures c h h := ⟨fun b => ⟨b, rfl⟩, fun b => ⟨b, rfl⟩, fun b => ⟨b, rfl⟩⟩

theorem Figures.trans (p : Figures c h k) (q : Figures c k l) : Figures c h l where
  outage b := ⟨(q.outage (p.outage b).1).1, (q.outage (p.outage b).1).2.trans (p.outage b).2⟩
  onAir b := ⟨(q.onAir (p.onAir b).1).1, (q.onAir (p.onAir b).1).2.trans (p.onAir b).2⟩
  fill b := ⟨(q.fill (p.fill b).1).1, (q.fill (p.fill b).1).2.trans (p.fill b).2⟩

/-- The spells of a channel and their totals stand, and the minute with them. -/
structure SpellsStand (c : ChannelId) (h k : Hall) : Prop where
  outage : k.channels[c].outageSince = h.channels[c].outageSince
  served : k.channels[c].servedSince = h.channels[c].servedSince
  fill   : k.channels[c].fillSince = h.channels[c].fillSince
  day    : k.account.channels[c] = h.account.channels[c]
  now    : k.now = h.now

theorem SpellsStand.outageMinutes (p : SpellsStand c h k) : k.outage c = h.outage c := by
  unfold Hall.outage
  rw [p.outage, p.day, p.now]

theorem SpellsStand.onAirMinutes (p : SpellsStand c h k) : k.onAirMinutes c = h.onAirMinutes c := by
  unfold Hall.onAirMinutes
  rw [p.served, p.day, p.now]

theorem SpellsStand.fillMinutes (p : SpellsStand c h k) : k.fillMinutes c = h.fillMinutes c := by
  unfold Hall.fillMinutes
  rw [p.fill, p.day, p.now]

theorem SpellsStand.figures (p : SpellsStand c h k) : Figures c h k where
  outage b := ⟨by rwa [p.day], p.outageMinutes⟩
  onAir b := ⟨by rwa [p.day], p.onAirMinutes⟩
  fill b := ⟨by rwa [p.day], p.fillMinutes⟩

/-- A channel reviewed keeps its figures as of now. -/
theorem figures_reviewed (now : k.now = h.now) (run : k.channels[c] = spelledRun h c)
    (day : k.account.channels[c] = spelledDay h c) : Figures c h k where
  outage b := by
    unfold Hall.outage
    rw [run, day, now]
    refine ⟨?_, asOf_spell b ..⟩
    show (if h.lacks c then _ else h.outage c) ≤ _
    split
    · exact b
    · exact asOf_le b
  onAir b := by
    unfold Hall.onAirMinutes
    rw [run, day, now]
    refine ⟨?_, asOf_spell b ..⟩
    show (if h.serves c then _ else h.onAirMinutes c) ≤ _
    split
    · exact b
    · exact asOf_le b
  fill b := by
    unfold Hall.fillMinutes
    rw [run, day, now]
    refine ⟨?_, asOf_spell b ..⟩
    show (if h.fills c then _ else h.fillMinutes c) ≤ _
    split
    · exact b
    · exact asOf_le b

theorem figures_reviewChannel (h : Hall) (d : ChannelId) : Figures c h (reviewChannel h d) := by
  have now := (spelled_reviewChannel h d).now
  have run := reviewChannel_channel h d c
  have day := reviewChannel_day h d c
  by_cases e : d = c
  · rw [if_pos e] at run day
    exact figures_reviewed now run day
  · rw [if_neg e] at run day
    exact SpellsStand.figures ⟨by rw [run], by rw [run], by rw [run], day, now⟩

theorem spellsStand_aired (p : Aired h k) : SpellsStand c h k := by
  unfold Aired at p
  rw [p]
  exact ⟨rfl, rfl, rfl, rfl, rfl⟩

end

/-! ### The allocator's report -/

/-- `k` is `h` but for carriers, the directory's generation, spells and their minutes, and what the meter unit moves. -/
structure Allotted (h k : Hall) : Prop where
  eq : k = { h with
    account := { h.account with channels := k.account.channels }
    channels := k.channels
    air := k.air
    link := { h.link with content := k.link.content, generation := k.link.generation }
    meters := k.meters
    levels := k.levels
    free := k.free
    work := { h.work with posts := k.work.posts, asks := k.work.asks } }
  run : ∀ c : ChannelId, k.channels[c] = { h.channels[c] with
    outageSince := k.channels[c].outageSince
    servedSince := k.channels[c].servedSince
    fillSince := k.channels[c].fillSince }
  figures : ∀ c : ChannelId, Figures c h k

section
variable {h k l : Hall}

theorem Allotted.refl (h : Hall) : Allotted h h := ⟨rfl, fun _ => rfl, fun _ => .refl h⟩

theorem Allotted.trans (p : Allotted h k) (q : Allotted k l) : Allotted h l where
  eq := by rw [q.eq, p.eq]
  run c := by rw [q.run c, p.run c]
  figures c := (p.figures c).trans (q.figures c)

theorem Allotted.settings (p : Allotted h k) : k.settings = h.settings := by rw [p.eq]
theorem Allotted.fleet (p : Allotted h k) : k.fleet = h.fleet := by rw [p.eq]
theorem Allotted.clock (p : Allotted h k) : k.clock = h.clock := by rw [p.eq]
theorem Allotted.booths (p : Allotted h k) : k.booths = h.booths := by rw [p.eq]
theorem Allotted.account (p : Allotted h k) : k.account = { h.account with channels := k.account.channels } := by rw [p.eq]
theorem Allotted.slots (p : Allotted h k) : k.link.slots = h.link.slots := by rw [p.eq]
theorem Allotted.now (p : Allotted h k) : k.now = h.now := congrArg Clock.minute p.clock
theorem Allotted.service (p : Allotted h k) (c : ChannelId) : k.channels[c].service = h.channels[c].service := by rw [p.run c]

variable (h)

theorem allotted_aired (p : Aired h k) : Allotted h k where
  eq := by
    unfold Aired at p
    rw [p]
  run c := by
    unfold Aired at p
    rw [p]
  figures _ := (spellsStand_aired p).figures

theorem allotted_metered (p : Metered h k) : Allotted h k := allotted_aired h (aired_metered p)

theorem allotted_reviewChannel (c : ChannelId) : Allotted h (reviewChannel h c) where
  eq := by
    have p := (spelled_reviewChannel h c).eq
    generalize reviewChannel h c = k at p
    rw [p]
  run := (spelled_reviewChannel h c).run
  figures _ := figures_reviewChannel h c

theorem allotted_raiseGeneration : Allotted h (raiseGeneration h) := by
  unfold raiseGeneration
  split
  · exact .refl h
  · exact ⟨rfl, fun _ => rfl, fun _ => SpellsStand.figures ⟨rfl, rfl, rfl, rfl, rfl⟩⟩

theorem allotted_handInUse : Allotted h (handInUse h) :=
  (allotted_aired h (k := { h with air := { h.air with peak := max h.air.peak h.inUse } }) rfl).trans
    (allotted_metered _ (metered_meterLevelChange _ _ _))

theorem allotted_allocReport (before : Hall) : Allotted h (allocReport before h) := by
  unfold allocReport
  exact ((foldl_keeps Allotted.refl Allotted.trans allotted_reviewChannel _ _).trans (allotted_raiseGeneration _)).trans
    (allotted_handInUse _)

theorem allotted_allocEvent {act : Hall → Hall} (p : Allotted h (act h)) : Allotted h (allocEvent act h) :=
  (p.trans (allotted_aired _ (aired_serveList _ _))).trans (allotted_allocReport _ _)

theorem raiseGeneration_spells : (raiseGeneration h).channels = h.channels ∧ (raiseGeneration h).account = h.account := by
  unfold raiseGeneration
  split <;> exact ⟨rfl, rfl⟩

theorem handInUse_spells : (handInUse h).channels = h.channels ∧ (handInUse h).account = h.account := by
  unfold handInUse
  rw [(metered_meterLevelChange _ _ _).channels, (metered_meterLevelChange _ _ _).account]
  exact ⟨rfl, rfl⟩

/-- The report reviews each channel whose carrier changed, and leaves the spells of the others. -/
theorem allocReport_spells (before : Hall) (c : ChannelId) :
    (allocReport before h).channels[c] =
      (if before.carrierView c ≠ h.carrierView c then spelledRun h c else h.channels[c]) ∧
    (allocReport before h).account.channels[c] =
      (if before.carrierView c ≠ h.carrierView c then spelledDay h c else h.account.channels[c]) := by
  have once : ((ids 32).filter fun c => before.carrierView c != h.carrierView c).Nodup :=
    ChargeProofs.nodup_ids.sublist List.filter_sublist
  have mem : (c ∈ (ids 32).filter fun c => before.carrierView c != h.carrierView c) ↔
      before.carrierView c ≠ h.carrierView c := by
    rw [List.mem_filter, bne_iff_ne]
    exact and_iff_right (mem_ids c)
  have spelled := foldl_spelled spelled_reviewChannel reviewChannel_channel reviewChannel_day once h c
  rw [if_congr mem rfl rfl, if_congr mem rfl rfl] at spelled
  unfold allocReport
  dsimp only
  rw [(handInUse_spells _).1, (handInUse_spells _).2, (raiseGeneration_spells _).1, (raiseGeneration_spells _).2]
  exact spelled

end

/-! ### Booths resolved -/

theorem meterEvent_levels (h : Hall) (e : MeterEvent) : (meterEvent e h).levels = h.levels := by
  have preset (k : Hall) (m : MeterId) : (presetTest m k).levels = k.levels := by
    unfold presetTest
    dsimp only
    split <;> rfl
  have full (k : Hall) (m : MeterId) : (fullTest m k).levels = k.levels := by
    unfold fullTest
    dsimp only
    split <;> rfl
  have raised (k : Hall) (m : MeterId) : (raiseCount m k).levels = k.levels := by
    unfold raiseCount
    split
    · exact (full _ m).trans (preset _ m)
    · rfl
  refine foldl_keeps (R := fun h k : Hall => k.levels = h.levels) (fun _ => rfl) (fun p q => q.trans p) (fun k m => ?_) _ _
  unfold offerEvent
  dsimp only
  split
  · split
    · exact raised k m
    · rfl
  · rfl

/-- `k` is `h` but for booths and their minutes, and the meters. -/
def Relayed (h k : Hall) : Prop := k = { h with
  account := { h.account with booths := k.account.booths }
  booths := k.booths
  meters := k.meters
  free := k.free
  work := { h.work with posts := k.work.posts, asks := k.work.asks } }

section
variable {h k l : Hall}

theorem Relayed.trans (p : Relayed h k) (q : Relayed k l) : Relayed h l := by
  unfold Relayed at *
  rw [q, p]

theorem Relayed.channels (p : Relayed h k) : k.channels = h.channels := by unfold Relayed at p; rw [p]
theorem Relayed.days (p : Relayed h k) : k.account.channels = h.account.channels := by unfold Relayed at p; rw [p]
theorem Relayed.air (p : Relayed h k) : k.air = h.air := by unfold Relayed at p; rw [p]
theorem Relayed.link (p : Relayed h k) : k.link = h.link := by unfold Relayed at p; rw [p]
theorem Relayed.levels (p : Relayed h k) : k.levels = h.levels := by unfold Relayed at p; rw [p]
theorem Relayed.settings (p : Relayed h k) : k.settings = h.settings := by unfold Relayed at p; rw [p]

theorem Relayed.session (p : Relayed h k) : k.account.session = h.account.session := by unfold Relayed at p; rw [p]
theorem Relayed.day (p : Relayed h k) : k.account.day = h.account.day := by unfold Relayed at p; rw [p]

theorem Relayed.judged (p : Relayed h k) : Judged h k :=
  ⟨p.settings, by rw [p.link], p.session, p.day, fun c => by rw [p.channels], by rw [p.air]⟩

variable (h)

theorem relayed_meterEvent (e : MeterEvent) : Relayed h (meterEvent e h) := by
  have p := metered_meterEvent e h
  have same := meterEvent_levels h e
  generalize meterEvent e h = k at p same
  unfold Metered at p
  unfold Relayed
  rw [same] at p
  rw [p]

theorem relayed_resolveBooth (b : BoothId) : Relayed h (resolveBooth h b) := by
  have opened (k : Hall) : Relayed k (openFallbackSpell b k) := by
    unfold openFallbackSpell
    split <;> rfl
  have ended (k : Hall) : Relayed k (endFallbackSpell b k) := by
    unfold endFallbackSpell
    split <;> rfl
  unfold resolveBooth
  split
  · next c _ _ =>
    have begun : Relayed h ((h.modBooth b fun r => { r with fallback := some c }).post .booth .relayFallback (numOf b) c.val) := rfl
    exact (begun.trans (relayed_meterEvent _ _)).trans (opened _)
  · exact ended _
  · rfl
  · rfl

theorem relayed_resolveListing (c : ChannelId) : Relayed h (resolveListing c h) :=
  foldl_keeps (R := Relayed) (fun _ => rfl) Relayed.trans relayed_resolveBooth _ _

/-! ### A channel re-evaluated -/

/-- The channel's service state taken and its spells reviewed: what the allocator is told of. -/
def reviewedAs (h : Hall) (c : ChannelId) : Hall :=
  reviewChannel (h.modChannel c fun r => { r with service := h.serviceOf c }) c

variable {h}

theorem reevaluate_moved {c : ChannelId} (changed : h.channels[c].service ≠ h.serviceOf c) : reevaluate h c =
    resolveListing c (allocEvent (serviceReport c (h.serviceOf c)) (reviewedAs h c)) := by
  unfold reevaluate
  exact if_neg changed

theorem reevaluate_stands {c : ChannelId} (same : h.channels[c].service = h.serviceOf c) :
    reevaluate h c = reviewChannel h c := by
  unfold reevaluate
  exact if_pos same

end

end Sys2Proof.StepProofs
end

-- ==== Proofs: Channels ====
section
/-! PROOFS. SET CHANNEL (R2 to R9): its tests in their order, and a channel that stays or becomes ENABLED. -/

namespace Sys2Proof.StepProofs

open Machine

/-- A test of a chain: where its words hold it refuses, and where they do not the chain's rest decides. -/
theorem ifElse_tested_not {b : Bool} {P A Q : Prop} {c : AnswerCode} {l : List (Bool × AnswerCode)} {s : State} {v m : Verdict}
    (test : m = tested ((b, c) :: l) s v) (words : b = true ↔ P) (fails : m = refuse c s → A)
    (passes : ¬ P → m = tested l s v → Q) : ifElse P A Q :=
  ⟨fun holds => fails (test.trans (tested_fails (words.mpr holds) ..)),
    fun not => passes not (test.trans (tested_passes (Bool.eq_false_iff.mpr fun e => not (words.mp e)) ..))⟩

theorem ifElse_tested {b : Bool} {P A Q : Prop} {c : AnswerCode} {l : List (Bool × AnswerCode)} {s : State} {v m : Verdict}
    (test : m = tested ((b, c) :: l) s v) (words : b = true ↔ P) (fails : m = refuse c s → A)
    (passes : m = tested l s v → Q) : ifElse P A Q :=
  ifElse_tested_not test words fails fun _ => passes

/-! ### The tests -/

section
variable {s : State} {c : ChannelId} {a : SetChannelArgs}

/-- SET CHANNEL's areas and blocks, its tests passed. -/
def channelGathered (c : ChannelId) (a : SetChannelArgs) (h : Hall) : AreaSet × Hall :=
  gatherAsks (if 0 < hiresMoved c a h then onlySettings.union fleetAccount else onlySettings) (applyChannel c a h)

theorem setChannel_taken (h : a.ch = .val c.val) : setChannel a s =
    tested ((a.malformed, .syntaxError) :: channelTests s.pfw s.hall c a) s
      (.wait (channelGathered c a s.hall).1 (.ok (if a.en == Arg.val false then .moved (hiresMoved c a s.hall) else .plain) [])
        { s with hall := (channelGathered c a s.hall).2 }) := by
  unfold setChannel
  rw [h, needId_val (idFrom0_val c)]
  rfl

theorem codeTaken_iff (h : Hall) (c : ChannelId) (code : Text) : h.codeTaken c code = true ↔
    ∃ d : ChannelId, d ≠ c ∧ h.settings.channels[d].enabled = true ∧ h.settings.channels[d].code = code := by
  simp [Hall.codeTaken, and_assoc]

theorem channelNamed_iff (h : Hall) (c : ChannelId) : h.channelNamed c = true ↔
    ∃ b : BoothId, h.settings.booths[b].names c = true ∨ c ∈ h.settings.booths[b].relayList := by
  simp [Hall.channelNamed]

/-- Settles O25: the tests stand in the list in the order of R2, each with its code. -/
theorem setChannelTests : Obligations.SetChannelTests := by
  intro s tag a p h refused
  refine ⟨fun out => refused_of p rfl ?_, fun bad => refused_of p rfl ?_, ?_⟩
  · have beyond : a.ch.outOf 0 31 := out.imp_right fun ⟨n, e, high⟩ => ⟨n, e, .inr high⟩
    unfold setChannel
    rw [needId_outOf0 beyond]
  · unfold setChannel
    rw [bad, needId]
  intro c number old enabled code
  have test := setChannel_taken (s := s.opened) number
  have refuses {code : AnswerCode} (e : setChannel a s.opened = refuse code s.opened) : refused code := refused_of p rfl e
  refine ifElse_tested test Iff.rfl refuses fun test => ?_
  refine ifElse_tested test Iff.rfl refuses fun test => ?_
  refine ifElse_tested test ?_ refuses fun test => ?_
  · simp [or_assoc]
  refine ifElse_tested test ?_ refuses fun test => ?_
  · rw [Bool.and_eq_true, beq_iff_eq]
    exact Iff.rfl
  refine ifElse_tested test ?_ refuses fun test => ?_
  · rw [Bool.and_eq_true, codeTaken_iff]
    exact Iff.rfl
  refine ifElse_tested test ?_ refuses fun test => ?_
  · simp only [Bool.and_eq_true, bne_iff_ne, beq_iff_eq, decide_eq_true_eq, and_assoc]
    exact Iff.rfl
  refine ifElse_tested test ?_ refuses fun test off hires force => refuses ?_
  · rw [Bool.and_eq_true, beq_iff_eq, channelNamed_iff]
    exact Iff.rfl
  · refine test.trans (tested_fails ?_ ..)
    simp only [Bool.and_eq_true, beq_iff_eq, decide_eq_true_eq, bne_iff_ne]
    exact ⟨⟨off, hires⟩, force⟩

/-! ### An accepted order -/

theorem setChannel_accepted (p : s.ready) (number : a.ch = .val c.val) (good : a.malformed = false)
    (passes : firstFailing (channelTests false s.hall c a) = none) : setChannel a s.opened =
    .wait (channelGathered c a s.hall).1 (.ok (if a.en == Arg.val false then .moved (hiresMoved c a s.hall) else .plain) [])
      { s.opened with hall := (channelGathered c a s.hall).2 } := by
  rw [setChannel_taken number, tested_passes good,
    show channelTests s.opened.pfw s.opened.hall c a = channelTests false s.hall c a by rw [ready_pfw p]; rfl,
    tested_good passes]
  rfl

theorem has_gathered (own : AreaSet) (h : Hall) (x : Area) (o : own.has x = true) : (gatherAsks own h).1.has x = true :=
  (foldl_union_has _ _ x).mpr (.inl o)

theorem subset_of_has {x y : AreaSet} (all : ∀ a : Area, x.has a = true → y.has a = true) : x.subset y = true := by
  have settings := all .settings
  have fleet := all .fleet
  have account := all .account
  have clock := all .clock
  obtain ⟨xs, xf, xa, xc⟩ := x
  obtain ⟨ys, yf, ya, yc⟩ := y
  simp only [AreaSet.has] at settings fleet account clock
  refine decide_eq_true ?_
  simp only [AreaSet.diff, AreaSet.none, AreaSet.mk.injEq]
  grind

theorem channelGathered_settings (c : ChannelId) (a : SetChannelArgs) (h : Hall) :
    onlySettings.subset (channelGathered c a h).1 = true := by
  refine subset_of_has fun x o => has_gathered _ _ x ?_
  split
  · rw [union_has, o, Bool.true_or]
  · exact o

theorem channelGathered_hires (c : ChannelId) (a : SetChannelArgs) (h : Hall) (moved : 0 < hiresMoved c a h) :
    fleetAccount.subset (channelGathered c a h).1 = true := by
  refine subset_of_has fun x o => has_gathered _ _ x ?_
  rw [if_pos moved, union_has, o, Bool.or_true]

theorem serving_channelConsequences (c : ChannelId) (old : ChannelSettings) (h : Hall) :
    Serving (reevaluate h c) (channelConsequences c old h) := by
  unfold channelConsequences
  extract_lets new h1 h2
  have second : Serving h1 h2 := by
    show Serving h1 (if _ then _ else _)
    split
    · exact serving_allocEvent _ (serving_aired (aired_pinnedReport _ c))
    · split
      · exact serving_allocEvent _ (serving_aired (aired_unpinnedReport _ c))
      · exact .refl _
  split
  · exact second.trans (serving_allocEvent _ (.refl _))
  · exact second

theorem kept_gathered (own : AreaSet) (h : Hall) : h.Kept (gatherAsks own h).2 := by
  unfold gatherAsks
  constructor <;> first | rfl | exact fun _ => rfl

theorem hiresMovedOff_none {h : Hall} (stays : h.settings.channels[c].enabled = true →
    (a.apply c h.settings.channels[c]).enabled = true) : hiresMovedOff c a h = h ∧ hiresMoved c a h = 0 := by
  have off : (h.settings.channels[c].enabled && !(a.apply c h.settings.channels[c]).enabled) = false := by
    cases e : h.settings.channels[c].enabled with
    | false => rfl
    | true => rw [stays e]; rfl
  unfold hiresMovedOff hiresMoved
  dsimp only
  rw [off]
  exact ⟨rfl, rfl⟩

end

/-- Settles O26: no hire moves, and what follows from the settings reports alone. -/
theorem setChannel : Obligations.SetChannel := by
  intro s tag c a p number good passes h old new stays plain
  obtain ⟨same, none⟩ := hiresMovedOff_none (c := c) (a := a) (h := h) stays
  have applied : applyChannel c a h = channelConsequences c old plain := by
    rw [applyChannel_eq, same]
    rfl
  have accepted := setChannel_accepted p number good passes
  rw [none] at accepted
  refine ⟨(channelGathered c a h).1, (channelGathered c a h).2, answerWaits_of p.1 rfl ?_, channelGathered_settings c a h, ?_, ?_⟩
  · rw [show (if a.en = .val false then Reply.moved 0 else .plain) = if a.en == Arg.val false then .moved 0 else .plain by
      simp only [beq_iff_eq]]
    exact accepted
  · have kept : plain.Kept (applyChannel c a h) := by
      rw [applied]
      exact (kept_reevaluate plain c).trans (serving_channelConsequences c old plain).toKept
    exact kept.trans (kept_gathered _ _)
  · show (applyChannel c a h).channels[c].service = _
    rw [applied, (serving_channelConsequences c old plain).service, reevaluate_service, if_pos rfl]
    have settings : plain.settings.channels[c] = new := vset_same ..
    unfold Hall.serviceOf
    rw [settings]
    show (if c = 0 then _ else if _ then _ else if h.channels[c].feeder.isSome = true then _ else _) = _
    rw [if_congr (Option.isSome_iff_ne_none (o := h.channels[c].feeder)) rfl rfl]

end Sys2Proof.StepProofs
end

-- ==== Proofs: Disable ====
section
/-! PROOFS. The disable of a channel (R6, R7, R13): the hires moved onto channel 0, and the channel left without spells,
carrier and wait. -/

namespace Sys2Proof.StepProofs

open Machine

/-! ### One hire moved -/

/-- `k` is `h` but for the hires, the demand, and what the allocator's events move. -/
structure Rehired (h k : Hall) : Prop where
  settings : k.settings = h.settings
  clock : k.clock = h.clock
  booths : k.booths = h.booths
  receivers : k.fleet.receivers = h.fleet.receivers
  badges : k.fleet.badges = h.fleet.badges
  service : ∀ c : ChannelId, k.channels[c].service = h.channels[c].service
  figures : ∀ c : ChannelId, Figures c h k
  air : h.AirLawful → k.AirLawful

section
variable {h k l : Hall}

theorem Rehired.refl (h : Hall) : Rehired h h :=
  ⟨rfl, rfl, rfl, rfl, rfl, fun _ => rfl, fun _ => .refl h, id⟩

theorem Rehired.trans (p : Rehired h k) (q : Rehired k l) : Rehired h l :=
  ⟨q.settings.trans p.settings, q.clock.trans p.clock, q.booths.trans p.booths, q.receivers.trans p.receivers,
    q.badges.trans p.badges, fun c => (q.service c).trans (p.service c), fun c => (p.figures c).trans (q.figures c),
    fun l => q.air (p.air l)⟩

theorem rehired_putHire (h : Hall) (x : Hire) : Rehired h (h.putHire x) :=
  ⟨rfl, rfl, rfl, rfl, rfl, fun _ => rfl, fun _ => SpellsStand.figures ⟨rfl, rfl, rfl, rfl, rfl⟩,
    fun l => lawful_congr (h := h) rfl (fun _ => rfl) l⟩

/-- A channel's demand changed, and the allocator told. -/
theorem rehired_demand (h : Hall) (c : ChannelId) (f : ChannelRun → ChannelRun) (service : ∀ r, (f r).service = r.service)
    (outage : ∀ r, (f r).outageSince = r.outageSince) (served : ∀ r, (f r).servedSince = r.servedSince)
    (fill : ∀ r, (f r).fillSince = r.fillSince) (air : h.AirLawful → (allocEvent reorder (h.modChannel c f)).AirLawful) :
    Rehired h (allocEvent reorder (h.modChannel c f)) := by
  have p : Allotted (h.modChannel c f) (allocEvent reorder (h.modChannel c f)) :=
    allotted_allocEvent _ (allotted_aired _ rfl)
  have changed (d : ChannelId) : (h.modChannel c f).channels[d] = if d = c then f h.channels[d] else h.channels[d] :=
    modChannel_get ..
  refine ⟨p.settings, p.clock, p.booths, by rw [p.fleet]; rfl, by rw [p.fleet]; rfl, fun d => ?_, fun d => ?_, air⟩
  · rw [p.service, changed]
    split
    · exact service _
    · rfl
  · have stands : SpellsStand d h (h.modChannel c f) := by
      constructor
      case day | now => rfl
      all_goals rw [changed]; split
      case outage.isTrue => exact outage _
      case served.isTrue => exact served _
      case fill.isTrue => exact fill _
      all_goals rfl
    exact stands.figures.trans (p.figures d)

theorem rehired_demandRise (h : Hall) (c : ChannelId) : Rehired h (demandRise c h) :=
  rehired_demand h c _ (fun _ => rfl) (fun _ => rfl) (fun _ => rfl) (fun _ => rfl) fun l => demandRise_lawful l c

theorem rehired_demandFall (h : Hall) (c : ChannelId) : Rehired h (demandFall c h) :=
  rehired_demand h c _ (fun _ => rfl) (fun _ => rfl) (fun _ => rfl) (fun _ => rfl) fun l => demandFall_lawful l c

theorem rehired_moveHire (d : ChannelId) (h : Hall) (x : Hire) : Rehired h (moveHire d h x) :=
  ((rehired_putHire h _).trans (rehired_demandFall _ _)).trans (rehired_demandRise _ _)

theorem moveHire_demand (d : ChannelId) (h : Hall) (x : Hire) (c : ChannelId) : (moveHire d h x).channels[c].demand =
    h.channels[c].demand - (if c = x.preset then 1 else 0) + if c = d then 1 else 0 := by
  unfold moveHire
  rw [demandRise_demand, demandFall_demand]
  rfl

end

/-! ### The hires of the channel moved, one after another (R6) -/

/-- A hire of channel `c` as its move onto channel 0 leaves it, the channels' outages being those of `h`. -/
def offChannel (h : Hall) (c : ChannelId) (x : Hire) : Hire :=
  { x with
    unserved := min (x.unserved + (h.outage c - x.snapshot)) 4294967295
    snapshot := h.outage 0
    preset := 0
    stale := x.stale || h.clock.stale }

theorem moved_eq {h : Hall} {c : ChannelId} {x : Hire} (preset : x.preset = c) : h.moved x 0 = offChannel h c x := by
  rw [← preset]
  rfl

section
variable {c : ChannelId} {l : List Hire}

theorem rehired_moveHires (l : List Hire) (h : Hall) : Rehired h (l.foldl (moveHire 0) h) :=
  foldl_keeps Rehired.refl Rehired.trans (rehired_moveHire 0) l h

theorem hire_moveHire (d : ChannelId) (h : Hall) (x : Hire) (n : Nat) :
    (moveHire d h x).hire n = if x.number = n then some (h.moved x d) else h.hire n := by
  unfold Hall.hire
  rw [moveHire_fleet]
  exact hire_putHire h (h.moved x d) n

theorem hire_moveHires (presets : ∀ x ∈ l, x.preset = c) (distinct : l.Pairwise fun x y => x.number < y.number) {h : Hall}
    (own : h.account.channels[c].outage ≤ 4294967295) (zero : h.account.channels[(0 : ChannelId)].outage ≤ 4294967295) (n : Nat) :
    (l.foldl (moveHire 0) h).hire n =
      ((l.find? fun x => x.number == n).map (offChannel h c)).or (h.hire n) := by
  induction l generalizing h with
  | nil => rfl
  | cons x l ih =>
    obtain ⟨below, distinct⟩ := List.pairwise_cons.mp distinct
    have p := rehired_moveHire 0 h x
    have same : offChannel (moveHire 0 h x) c = offChannel h c := by
      funext y
      unfold offChannel
      rw [((p.figures c).outage own).2, ((p.figures 0).outage zero).2, p.clock]
    rw [List.foldl_cons, ih (fun y m => presets y (.tail _ m)) distinct ((p.figures c).outage own).1
      ((p.figures 0).outage zero).1, same, hire_moveHire, List.find?_cons, moved_eq (presets x (.head _))]
    by_cases e : x.number = n
    · have later : (l.find? fun y => y.number == n) = none := List.find?_eq_none.mpr fun y m => by
        have := below y m
        simp only [beq_iff_eq]
        omega
      rw [later, if_pos e, beq_iff_eq.mpr e]
      rfl
    · rw [if_neg e, beq_eq_false_iff_ne.mpr e]

/-- A hire that stands after the moves is on channel 0, or was none of those moved. -/
theorem mem_moveHires {h : Hall} {y : Hire} (m : y ∈ (l.foldl (moveHire 0) h).fleet.hires) :
    y.preset = 0 ∨ y ∈ h.fleet.hires ∧ ∀ x ∈ l, y.number ≠ x.number := by
  induction l generalizing h with
  | nil => exact .inr ⟨m, nofun⟩
  | cons x l ih =>
    rw [List.foldl_cons] at m
    rcases ih m with zero | ⟨m, ne⟩
    · exact .inl zero
    · rw [moveHire_fleet] at m
      rcases mem_putHire.mp m with e | ⟨m, first⟩
      · exact .inl (by rw [e]; rfl)
      · refine .inr ⟨m, fun z hz => ?_⟩
        rcases List.mem_cons.mp hz with e | hz
        · rw [e]
          exact first
        · exact ne z hz

theorem demand_moveHires (presets : ∀ x ∈ l, x.preset = c) (nonzero : c ≠ 0) (h : Hall) :
    (l.foldl (moveHire 0) h).channels[c].demand = h.channels[c].demand - l.length ∧
      (l.foldl (moveHire 0) h).channels[(0 : ChannelId)].demand = h.channels[(0 : ChannelId)].demand + l.length := by
  induction l generalizing h with
  | nil => exact ⟨rfl, rfl⟩
  | cons x l ih =>
    obtain ⟨own, zero⟩ := ih (fun y m => presets y (.tail _ m)) (moveHire 0 h x)
    rw [List.foldl_cons, own, zero, moveHire_demand, moveHire_demand, presets x (.head _), if_pos rfl, if_neg nonzero,
      if_neg (Ne.symm nonzero), if_pos rfl, List.length_cons]
    omega

/-! ### The channel left OFF -/

/-- What follows from a disable: the channel's state re-evaluated, and no report on pinning or code. -/
theorem channelConsequences_off {h : Hall} {old : ChannelSettings} (off : h.settings.channels[c].enabled = false) :
    channelConsequences c old h = reevaluate h c := by
  unfold channelConsequences
  dsimp only
  rw [off]
  rfl

/-- No spell of a DISABLED channel goes on. -/
theorem reviewed_off {h : Hall} (off : h.settings.channels[c].enabled = false) :
    spelledRun h c = { h.channels[c] with outageSince := none, servedSince := none, fillSince := none } ∧
      spelledDay h c = ⟨h.outage c, h.onAirMinutes c, h.fillMinutes c⟩ := by
  have serves : h.serves c = false := by simp only [Hall.serves, off, Bool.false_and]
  have lacks : h.lacks c = false := by simp only [Hall.lacks, off, Bool.false_and]
  have fills : h.fills c = false := by simp only [Hall.fills, off, Bool.and_false, Bool.false_and]
  unfold spelledRun spelledDay
  rw [serves, lacks, fills]
  exact ⟨rfl, rfl⟩

/-- What a channel without a spell has as of now is its day's record. -/
theorem figures_over {h : Hall} (outage : h.channels[c].outageSince = none) (served : h.channels[c].servedSince = none)
    (fill : h.channels[c].fillSince = none) :
    (⟨h.outage c, h.onAirMinutes c, h.fillMinutes c⟩ : ChannelDay) = h.account.channels[c] := by
  unfold Hall.outage Hall.onAirMinutes Hall.fillMinutes
  rw [outage, served, fill]
  rfl

/-- A DISABLED channel re-evaluated has no spell, and its day holds the figures as of now. -/
theorem reevaluate_ends {h : Hall} (off : h.settings.channels[c].enabled = false) :
    (reevaluate h c).channels[c].outageSince = none ∧ (reevaluate h c).channels[c].servedSince = none ∧
      (reevaluate h c).channels[c].fillSince = none ∧
      (reevaluate h c).account.channels[c] = ⟨h.outage c, h.onAirMinutes c, h.fillMinutes c⟩ := by
  have ended (k : Hall) (off : k.settings.channels[c].enabled = false) :
      (reviewChannel k c).channels[c].outageSince = none ∧ (reviewChannel k c).channels[c].servedSince = none ∧
      (reviewChannel k c).channels[c].fillSince = none ∧
      (reviewChannel k c).account.channels[c] = ⟨k.outage c, k.onAirMinutes c, k.fillMinutes c⟩ := by
    rw [reviewChannel_channel, reviewChannel_day, if_pos rfl, if_pos rfl, (reviewed_off off).1, (reviewed_off off).2]
    exact ⟨rfl, rfl, rfl, rfl⟩
  by_cases same : h.channels[c].service = h.serviceOf c
  · rw [reevaluate_stands same]
    exact ended h off
  · have run : (h.modChannel c fun r => { r with service := h.serviceOf c }).channels[c] =
        { h.channels[c] with service := h.serviceOf c } := vmod_same ..
    have stands : SpellsStand c h (h.modChannel c fun r => { r with service := h.serviceOf c }) :=
      ⟨by rw [run], by rw [run], by rw [run], rfl, rfl⟩
    obtain ⟨outage, served, fill, day⟩ := ended (h.modChannel c fun r => { r with service := h.serviceOf c }) off
    rw [stands.outageMinutes, stands.onAirMinutes, stands.fillMinutes] at day
    rw [reevaluate_moved same, (relayed_resolveListing _ c).channels, (relayed_resolveListing _ c).days]
    have air : Aired (reviewedAs h c) (serveList 32 (serviceReport c (h.serviceOf c) (reviewedAs h c))) :=
      (aired_serviceReport _ c _).trans (aired_serveList 32 _)
    have report := allocReport_spells (serveList 32 (serviceReport c (h.serviceOf c) (reviewedAs h c))) (reviewedAs h c) c
    unfold allocEvent
    generalize serveList 32 (serviceReport c (h.serviceOf c) (reviewedAs h c)) = k at air report ⊢
    have told : SpellsStand c (reviewedAs h c) k := spellsStand_aired air
    have offAir : k.settings.channels[c].enabled = false := by
      rw [(allotted_aired _ air).settings]
      unfold reviewedAs
      rw [(spelled_reviewChannel _ c).settings]
      exact off
    have outageOver : k.channels[c].outageSince = none := told.outage.trans outage
    have servedOver : k.channels[c].servedSince = none := told.served.trans served
    have fillOver : k.channels[c].fillSince = none := told.fill.trans fill
    have dayOver : k.account.channels[c] = ⟨h.outage c, h.onAirMinutes c, h.fillMinutes c⟩ := told.day.trans day
    rw [report.1, report.2]
    split
    · rw [(reviewed_off offAir).1, (reviewed_off offAir).2, figures_over outageOver servedOver fillOver]
      exact ⟨rfl, rfl, rfl, dayOver⟩
    · exact ⟨outageOver, servedOver, fillOver, dayOver⟩

theorem serveList_involved (n : Nat) {h : Hall} {d : ChannelId} (i : Involved (serveList n h) d) : Involved h d := by
  induction n generalizing h with
  | zero => exact i
  | succ n ih =>
    unfold serveList at i
    split at i
    · exact i
    · next e rest wait =>
      have listed {x : ChannelId} (i : Involved (h.setWaiting rest) x) : Involved h x :=
        i.imp id fun m => by rw [wait]; exact .tail _ m
      split at i
      · next k given =>
        rcases offer_involved given (ih (h := k) i) with i | same
        · exact listed i
        · rw [same]
          exact .inr (by rw [wait]; exact .head _)
      · exact i

/-- A channel reported OFF neither holds a carrier nor waits. -/
theorem serviceReport_off {h : Hall} (l : h.AirLawful) : ¬ Involved (serviceReport c .off h) c := by
  cases e : h.carrierOf c with
  | none =>
    rw [show serviceReport c .off h = leaveWait c h by unfold serviceReport; rw [e]]
    exact not_involved_leaveWait (carrierOf_none e)
  | some j =>
    rw [show serviceReport c .off h = leaveWait c (h.setCarrier j .free) by unfold serviceReport; rw [e]]
    refine not_involved_leaveWait ?_
    rintro ⟨i, held⟩
    by_cases same : j = i
    · rw [← same, show (h.setCarrier j .free).air.carriers[j] = .free from vset_same ..] at held
      cases held
    · rw [show (h.setCarrier j .free).air.carriers[i] = h.air.carriers[i] from vset_other _ _ same] at held
      exact l.single j i same c (carrierOf_some e) held

theorem reevaluate_off {h : Hall} (l : h.AirLawful) (nonzero : c ≠ 0) (off : h.settings.channels[c].enabled = false)
    (on : h.channels[c].service ≠ .off) : ¬ Involved (reevaluate h c) c := by
  have service : h.serviceOf c = .off := by
    unfold Hall.serviceOf
    rw [if_neg nonzero, if_pos off]
  have lawful : (reviewedAs h c).AirLawful :=
    lawful_congr (by unfold reviewedAs; rw [reviewChannel_air]; rfl) (fun d => by
      unfold reviewedAs
      rw [(spelled_reviewChannel _ c).demand, modChannel_get]
      split <;> rfl) l
  rw [reevaluate_moved (by rw [service]; exact on), service]
  unfold Involved Holds
  rw [(relayed_resolveListing _ c).air]
  unfold allocEvent
  rw [(allocReport_air _ _).1, (allocReport_air _ _).2]
  exact fun i => serviceReport_off lawful (serveList_involved 32 i)

end


section
variable {c : ChannelId} {a : SetChannelArgs} {h : Hall}

theorem firstFailing_passes {l : List (Bool × AnswerCode)} (good : firstFailing l = none) {t : Bool × AnswerCode}
    (mem : t ∈ l) : t.1 = false := by
  induction l with
  | nil => cases mem
  | cons x l ih =>
    unfold firstFailing at good
    split at good
    · cases good
    · next passes =>
      rcases List.mem_cons.mp mem with e | mem
      · rw [e]
        exact Bool.eq_false_iff.mpr passes
      · exact ih good mem

/-- The blocks with the hires of the channel moved and its settings changed, before the consequences. -/
def disabledHall (c : ChannelId) (a : SetChannelArgs) (h : Hall) : Hall :=
  ((h.hiresOn c).foldl (moveHire 0) h).modChannelSettings c fun _ => a.apply c h.settings.channels[c]

/-- The order disables the channel: no other than 1 to 31, and the order takes it from ENABLED to DISABLED. -/
theorem disables (passes : firstFailing (channelTests false h c a) = none) (off : a.en = .val false) :
    c ≠ 0 ∧ (a.apply c h.settings.channels[c]).enabled = false := by
  have test := firstFailing_passes passes (.tail _ (.head _))
  have nonzero : c ≠ 0 := by
    rintro rfl
    simp [off] at test
  refine ⟨nonzero, ?_⟩
  unfold SetChannelArgs.apply
  dsimp only
  rw [if_neg nonzero, off]
  rfl

theorem disabled_moves (enabled : h.settings.channels[c].enabled = true)
    (off : (a.apply c h.settings.channels[c]).enabled = false) :
    hiresMoved c a h = (h.hiresOn c).length ∧ applyChannel c a h = reevaluate (disabledHall c a h) c := by
  have moves : (h.settings.channels[c].enabled && !(a.apply c h.settings.channels[c]).enabled) = true := by
    rw [enabled, off]
    rfl
  have ended : (disabledHall c a h).settings.channels[c].enabled = false := by
    rw [show (disabledHall c a h).settings.channels[c] = a.apply c h.settings.channels[c] from vmod_same ..]
    exact off
  refine ⟨if_pos moves, ?_⟩
  rw [applyChannel_eq, show hiresMovedOff c a h = (h.hiresOn c).foldl (moveHire 0) h from if_pos moves]
  exact channelConsequences_off ended

theorem disabledHall_off (off : (a.apply c h.settings.channels[c]).enabled = false) :
    (disabledHall c a h).settings.channels[c].enabled = false := by
  rw [show (disabledHall c a h).settings.channels[c] = a.apply c h.settings.channels[c] from vmod_same ..]
  exact off

/-- The hires and the figures behind a disable are those behind the moves. -/
theorem disabledHall_rest (c : ChannelId) (a : SetChannelArgs) (h : Hall) :
    (disabledHall c a h).fleet = ((h.hiresOn c).foldl (moveHire 0) h).fleet ∧
      (disabledHall c a h).channels = ((h.hiresOn c).foldl (moveHire 0) h).channels ∧
      (disabledHall c a h).booths = ((h.hiresOn c).foldl (moveHire 0) h).booths ∧
      (disabledHall c a h).air = ((h.hiresOn c).foldl (moveHire 0) h).air ∧
      Figures c ((h.hiresOn c).foldl (moveHire 0) h) (disabledHall c a h) :=
  ⟨rfl, rfl, rfl, rfl, SpellsStand.figures ⟨rfl, rfl, rfl, rfl, rfl⟩⟩

theorem hiresOn_presets (h : Hall) (c : ChannelId) : ∀ x ∈ h.hiresOn c, x.preset = c :=
  fun x m => by simpa using (List.mem_filter.mp m).2

/-- Every hire of the channel stands as the move leaves it, and the others stand. -/
theorem hire_movedOff (o : h.fleet.ordered) (own : h.account.channels[c].outage ≤ 4294967295)
    (zero : h.account.channels[(0 : ChannelId)].outage ≤ 4294967295) (n : Nat) :
    ((h.hiresOn c).foldl (moveHire 0) h).hire n =
      (h.hire n).map fun x => if x.preset = c then offChannel h c x else x := by
  rw [hire_moveHires (hiresOn_presets h c) (o.2.1.filter _) own zero]
  cases found : (h.hiresOn c).find? fun x => x.number == n with
  | none =>
    cases e : h.hire n with
    | none => rfl
    | some x =>
      have other : x.preset ≠ c := fun preset => by
        have mem : x ∈ h.hiresOn c := List.mem_filter.mpr ⟨hire_mem e, beq_iff_eq.mpr preset⟩
        exact List.find?_eq_none.mp found x mem (beq_iff_eq.mpr (hire_number e))
      rw [Option.map_some, if_neg other]
      rfl
  | some x =>
    have number : x.number = n := beq_iff_eq.mp (List.find?_some (p := fun x : Hire => x.number == n) found)
    have mem := List.mem_of_find?_eq_some found
    cases e : h.hire n with
    | none => exact absurd (beq_iff_eq.mpr number) (List.find?_eq_none.mp e x (List.mem_filter.mp mem).1)
    | some y =>
      rw [hire_unique o (hire_mem e) (List.mem_filter.mp mem).1 ((hire_number e).trans number.symm), Option.map_some, Option.map_some,
        if_pos (hiresOn_presets h c x mem)]
      rfl

theorem moveHires_presets (nonzero : c ≠ 0) (h : Hall) :
    ∀ x ∈ ((h.hiresOn c).foldl (moveHire 0) h).fleet.hires, x.preset ≠ c := by
  intro x mem preset
  rcases mem_moveHires mem with zero | ⟨mem, others⟩
  · exact nonzero (preset.symm.trans zero)
  · exact others x (List.mem_filter.mpr ⟨mem, beq_iff_eq.mpr preset⟩) rfl

end

/-- Settles O27: every hire of the channel is moved, the channel re-evaluated as OFF. -/
theorem disableChannel : Obligations.DisableChannel := by
  intro s tag c a p number good passes enabled off h moved bounded
  obtain ⟨nonzero, new⟩ := disables (h := h) passes off
  obtain ⟨count, applied⟩ := disabled_moves (h := h) enabled new
  have disabled := disabledHall_off (h := h) new
  obtain ⟨fleet, channels, booths, air, figures⟩ := disabledHall_rest c a h
  obtain ⟨own, zero⟩ := demand_moveHires (hiresOn_presets h c) nonzero h
  have rehired := rehired_moveHires (h.hiresOn c) h
  have kept := kept_reevaluate (disabledHall c a h) c
  have ends := reevaluate_ends disabled
  have accepted := setChannel_accepted p number good passes
  rw [show s.hall = h from rfl, count, off] at accepted
  refine ⟨(channelGathered c a h).1, (channelGathered c a h).2, answerWaits_of p.1 rfl accepted,
    channelGathered_settings c a h, fun some => channelGathered_hires c a h (by rw [count]; exact some), ?_⟩
  have hall : ∃ asks, (channelGathered c a h).2 = { reevaluate (disabledHall c a h) c with
      work := { (reevaluate (disabledHall c a h) c).work with asks := asks } } :=
    ⟨[], by rw [← applied]; rfl⟩
  obtain ⟨asks, hall⟩ := hall
  rw [hall]
  have involved := reevaluate_off (h := disabledHall c a h) (c := c)
  have service := reevaluate_service (disabledHall c a h) c c
  generalize reevaluate (disabledHall c a h) c = k at kept ends involved service hall ⊢
  generalize (channelGathered c a h).2 = gathered at hall
  have hires : k.fleet = ((h.hiresOn c).foldl (moveHire 0) h).fleet := kept.fleet.trans fleet
  have asOf (b : bounded c) (onAir : h.account.channels[c].onAir ≤ 4294967295) (fill : h.account.channels[c].fill ≤ 4294967295) :
      k.account.channels[c] = ⟨h.outage c, h.onAirMinutes c, h.fillMinutes c⟩ := by
    have same := (rehired.figures c).trans figures
    rw [ends.2.2.2, (same.outage b).2, (same.onAir onAir).2, (same.fill fill).2]
  have off : (disabledHall c a h).serviceOf c = .off := by
    unfold Hall.serviceOf
    rw [if_neg nonzero, if_pos disabled]
  refine ⟨(congrArg (fun s : Settings => s.channels[c].enabled) kept.settings).trans disabled, ?_, ?_, ?_, ?_, ?_, ?_, ?_, ?_, ?_, ?_⟩
  · exact service.trans ((if_pos rfl).trans off)
  · intro x mem
    exact moveHires_presets nonzero h x (hires ▸ mem)
  · exact (kept.demand c).trans ((congrArg (fun v : Vector ChannelRun 32 => v[c].demand) channels).trans own)
  · exact (kept.demand 0).trans ((congrArg (fun v : Vector ChannelRun 32 => v[(0 : ChannelId)].demand) channels).trans zero)
  · exact (congrArg Fleet.receivers hires).trans rehired.receivers
  · exact (congrArg Fleet.badges hires).trans rehired.badges
  · intro b
    exact ⟨(kept.owner b).trans (by rw [booths, rehired.booths]), (kept.queue b).trans (by rw [booths, rehired.booths])⟩
  · intro o own zero n
    have found := hire_movedOff (h := h) o own zero n
    unfold Hall.hire at found ⊢
    rw [← hires] at found
    exact found
  · exact fun b onAir fill => ⟨ends.1, ends.2.1, ends.2.2.1, asOf b onAir fill⟩
  · intro l stands
    have lawful : (disabledHall c a h).AirLawful :=
      lawful_congr air (fun d => congrArg (fun v : Vector ChannelRun 32 => v[d].demand) channels) (rehired.air l)
    have served : (disabledHall c a h).channels[c].service = h.channels[c].service :=
      (congrArg (fun v : Vector ChannelRun 32 => v[c].service) channels).trans (rehired.service c)
    have on : (disabledHall c a h).channels[c].service ≠ .off := by
      rw [served, stands]
      unfold Hall.serviceOf
      rw [if_neg nonzero, enabled, if_neg nofun]
      split
      · nofun
      · split <;> nofun
    have free := involved lawful nonzero disabled on
    exact ⟨fun w => free (.inr w), fun j held => free (.inl ⟨j, held⟩)⟩

end Sys2Proof.StepProofs
end

-- ==== Proofs: Service ====
section
/-! PROOFS. What the reports of a channel's service state and of its pinning do to the carriers (R80 to R90). -/

namespace Sys2Proof.StepProofs

open Machine

/-! ### The allocator's actions hand nothing over -/

/-- `k` is `h` but for the carriers and the wait list, and the meters. -/
def Assigned (h k : Hall) : Prop := k = { h with
  air := { k.air with peak := h.air.peak }
  meters := k.meters
  free := k.free
  work := { h.work with posts := k.work.posts } }

section
variable {h k l : Hall}

theorem Assigned.trans (p : Assigned h k) (q : Assigned k l) : Assigned h l := by
  unfold Assigned at *
  rw [q, p]

theorem Assigned.aired (p : Assigned h k) : Aired h k := by
  unfold Assigned at p
  rw [p]
  rfl

theorem Assigned.peak (p : Assigned h k) : k.air.peak = h.air.peak := by unfold Assigned at p; rw [p]
theorem Assigned.levels (p : Assigned h k) : k.levels = h.levels := by unfold Assigned at p; rw [p]
theorem Assigned.channels (p : Assigned h k) : k.channels = h.channels := by unfold Assigned at p; rw [p]
theorem Assigned.account (p : Assigned h k) : k.account = h.account := by unfold Assigned at p; rw [p]
theorem Assigned.settings (p : Assigned h k) : k.settings = h.settings := by unfold Assigned at p; rw [p]
theorem Assigned.clock (p : Assigned h k) : k.clock = h.clock := by unfold Assigned at p; rw [p]
theorem Assigned.link (p : Assigned h k) : k.link = h.link := by unfold Assigned at p; rw [p]

variable (h)

theorem Assigned.refl : Assigned h h := rfl

theorem assigned_meterEvent (e : MeterEvent) : Assigned h (meterEvent e h) := by
  have p := metered_meterEvent e h
  have same := meterEvent_levels h e
  generalize meterEvent e h = k at p same
  unfold Metered at p
  unfold Assigned
  rw [same] at p
  rw [p]

theorem assigned_joinWait (c) : Assigned h (joinWait c h) := by
  have listed (l n) : Assigned h ((h.setWaiting l).post .carrier .carrierWait c.val n) := rfl
  unfold joinWait
  exact (listed _ _).trans (assigned_meterEvent _ _)

theorem assigned_giveCarrier (k c) : Assigned h (giveCarrier k c h) := rfl

theorem assigned_postEvict (k e) : Assigned h (postEvict k e h) :=
  Assigned.trans (k := h.post .carrier .carrierEvict e.val k.val) rfl (assigned_meterEvent _ _)

theorem assigned_offer {c : ChannelId} {k : Hall} (e : offer c h = some k) : Assigned h k := by
  rcases offer_cases e with ⟨j, -, e⟩ | ⟨j, d, -, e⟩ | ⟨j, d, -, e⟩ <;> rw [e]
  · exact assigned_giveCarrier h j c
  · exact (assigned_postEvict h j d).trans (assigned_giveCarrier _ _ _)
  · exact ((assigned_postEvict h j d).trans (assigned_giveCarrier _ _ _)).trans (assigned_joinWait _ _)

theorem assigned_requestCarrier (c) : Assigned h (requestCarrier c h) := by
  unfold requestCarrier
  split
  · exact assigned_offer h ‹_›
  · exact assigned_joinWait h c

theorem assigned_serveList (n : Nat) (h : Hall) : Assigned h (serveList n h) := by
  induction n generalizing h with
  | zero => exact .refl h
  | succ n ih =>
    unfold serveList
    split
    · exact .refl h
    · next c rest _ =>
      split
      · exact (Assigned.trans (k := h.setWaiting rest) rfl (assigned_offer _ ‹_›)).trans (ih _)
      · exact .refl h

theorem assigned_resumeCarrier (k) : Assigned h (resumeCarrier k h) := by
  unfold resumeCarrier
  split <;> rfl

theorem assigned_serviceReport (c v) : Assigned h (serviceReport c v h) := by
  unfold serviceReport
  split
  · split
    · exact .refl h
    · exact assigned_requestCarrier h c
  · rfl
  · exact assigned_resumeCarrier h _
  · exact assigned_resumeCarrier h _
  · split
    · exact .refl h
    · unfold beginHold
      split
      · split <;> rfl
      · exact .refl h
  · rfl

end

/-! ### What the report hands over -/

section
variable {h k : Hall}

theorem directory_congr (carriers : k.air.carriers = h.air.carriers) (settings : k.settings = h.settings) :
    k.directory = h.directory := by
  unfold Hall.directory
  rw [carriers, settings]

theorem inUse_congr (carriers : k.air.carriers = h.air.carriers) : k.inUse = h.inUse := by
  unfold Hall.inUse
  rw [carriers]

theorem unservedCount_congr (settings : k.settings = h.settings) (channels : k.channels = h.channels) :
    k.unservedCount = h.unservedCount := by
  unfold Hall.unservedCount
  rw [settings, channels]

variable (h)

theorem handUnserved_unserved : h.handUnserved.levels.unserved = h.handUnserved.unservedCount := by
  have handed := meterLevelChange_levels h (kind := .unservedChannels) rfl h.unservedCount
  have p := metered_meterLevelChange .unservedChannels h.unservedCount h
  rw [unservedCount_congr (kept_handUnserved h).settings p.channels]
  exact Option.some.inj handed

theorem reviewChannel_unserved (c : ChannelId) :
    (reviewChannel h c).levels.unserved = (reviewChannel h c).unservedCount := handUnserved_unserved _

theorem reviewed_unserved (l : List ChannelId) (h : Hall) (stands : h.levels.unserved = h.unservedCount) :
    (l.foldl reviewChannel h).levels.unserved = (l.foldl reviewChannel h).unservedCount :=
  List.foldlRecOn (motive := fun k : Hall => k.levels.unserved = k.unservedCount) l reviewChannel stands
    fun k _ c _ => reviewChannel_unserved k c

theorem handInUse_levels : (handInUse h).levels.carriers = h.inUse ∧ (handInUse h).levels.unserved = h.levels.unserved := by
  unfold handInUse
  exact ⟨Option.some.inj (meterLevelChange_levels _ (kind := .carriersInUse) rfl _),
    Option.some.inj (meterLevelChange_other _ (kind := .carriersInUse) (other := .unservedChannels) nofun _)⟩

theorem raiseGeneration_rest : (raiseGeneration h).levels = h.levels ∧ (raiseGeneration h).settings = h.settings := by
  unfold raiseGeneration
  split <;> exact ⟨rfl, rfl⟩

/-- What the allocator hands over at an event's end: the counts of carriers in use and of unserved channels, the peak, and
the directory's generation. -/
theorem allocReport_hands (before : Hall) (stands : h.levels.unserved = h.unservedCount) :
    (allocReport before h).levels.carriers = h.inUse ∧
      (allocReport before h).levels.unserved = (allocReport before h).unservedCount ∧
      (allocReport before h).air.peak = max h.air.peak h.inUse := by
  have reviewed := spelled_foldl spelled_reviewChannel ((ids 32).filter fun c => before.carrierView c != h.carrierView c) h
  have handed := reviewed_unserved ((ids 32).filter fun c => before.carrierView c != h.carrierView c) h stands
  unfold allocReport
  dsimp only
  generalize ((ids 32).filter fun c => before.carrierView c != h.carrierView c).foldl reviewChannel h = k at reviewed handed ⊢
  have inUse : (raiseGeneration k).inUse = h.inUse :=
    inUse_congr ((congrArg Allocator.carriers (raiseGeneration_air k)).trans (congrArg Allocator.carriers reviewed.air))
  refine ⟨(handInUse_levels _).1.trans inUse, ?_, ?_⟩
  · rw [(handInUse_levels _).2, (raiseGeneration_rest k).1, handed]
    refine (unservedCount_congr ?_ ?_).symm
    · exact (kept_handInUse _).settings.trans (raiseGeneration_rest k).2
    · exact (handInUse_spells _).1.trans (raiseGeneration_spells k).1
  · rw [handInUse_air, raiseGeneration_air, reviewed.air]
    show max h.air.peak (raiseGeneration k).inUse = _
    rw [inUse]

/-- The generation rises exactly where the directory differs from the content last numbered (R90). -/
theorem allocReport_generation (before : Hall) : (allocReport before h).link.generation =
    if (allocReport before h).directory = h.link.content then h.link.generation else (h.link.generation + 1) % 65536 := by
  have reviewed := spelled_foldl spelled_reviewChannel ((ids 32).filter fun c => before.carrierView c != h.carrierView c) h
  have same : (allocReport before h).directory = h.directory :=
    directory_congr (allocReport_air before h).1 (kept_allocReport h before).settings
  rw [same]
  unfold allocReport
  dsimp only
  generalize ((ids 32).filter fun c => before.carrierView c != h.carrierView c).foldl reviewChannel h = k at reviewed ⊢
  have directory : k.directory = h.directory := directory_congr (by rw [reviewed.air]) reviewed.settings
  have handed (g : Hall) : (handInUse g).link = g.link := by
    unfold handInUse
    rw [(metered_meterLevelChange _ _ _).link]
  rw [handed]
  unfold raiseGeneration
  rw [directory]
  split
  · next same => rw [reviewed.link] at same ⊢; rw [if_pos same]
  · next other => rw [reviewed.link] at other; rw [if_neg other, ← reviewed.link]

end

/-! ### A report of a service state, by the carrier it finds (R80, R87, R88) -/

section
variable {h : Hall} {c : ChannelId} {j : CarrierId}

theorem serveList_idle (n : Nat) (idle : h.air.waiting = []) : serveList n h = h := by
  cases n with
  | zero => rfl
  | succ n =>
    unfold serveList
    rw [idle]

theorem carrierOf_holder (l : h.AirLawful) (held : h.air.carriers[j].channel? = some c) : h.carrierOf c = some j := by
  cases e : h.carrierOf c with
  | none => exact absurd ⟨j, held⟩ (carrierOf_none e)
  | some i =>
    by_contra ne
    exact l.single i j (fun same => ne (by rw [same])) c (carrierOf_some e) held

theorem carrierOf_nobody (none : ∀ i : CarrierId, h.air.carriers[i].channel? ≠ some c) : h.carrierOf c = .none := by
  unfold Hall.carrierOf
  exact List.find?_eq_none.mpr fun i _ => by simpa using none i

theorem serviceReport_takes (nobody : h.carrierOf c = none) (idle : h.air.waiting = []) (free : freeCarrier h = some j) :
    serviceReport c .live h = giveCarrier j c h := by
  unfold serviceReport
  rw [nobody]
  dsimp only
  rw [if_neg (by rw [idle]; exact List.not_mem_nil), requestCarrier_of (offer_free free)]

theorem serviceReport_leaves {v : Service} (nobody : h.carrierOf c = none) (other : v ≠ .live) :
    serviceReport c v h = leaveWait c h := by
  unfold serviceReport
  rw [nobody]
  cases v with
  | live => exact absurd rfl other
  | _ => rfl

theorem serviceReport_resumes {v : Service} {since e : Nat} (own : h.carrierOf c = some j)
    (holding : h.air.carriers[j] = .holding c since e) (served : v = .live ∨ v = .fill) :
    serviceReport c v h = h.setCarrier j (.onAir c since) := by
  unfold serviceReport
  rw [own]
  have resumed : resumeCarrier j h = h.setCarrier j (.onAir c since) := by
    unfold resumeCarrier
    rw [holding]
  rcases served with rfl | rfl <;> exact resumed

theorem serviceReport_rests {v : Service} {since : Nat} (own : h.carrierOf c = some j)
    (onAir : h.air.carriers[j] = .onAir c since)
    (kept : v = .live ∨ v = .fill ∨ (v = .silent ∧ h.settings.channels[c].pinned = true)) : serviceReport c v h = h := by
  unfold serviceReport
  rw [own]
  have resumed : resumeCarrier j h = h := by
    unfold resumeCarrier
    rw [onAir]
  rcases kept with rfl | rfl | ⟨rfl, pinned⟩
  · exact resumed
  · exact resumed
  · exact if_pos pinned

theorem serviceReport_holds {since : Nat} (own : h.carrierOf c = some j) (onAir : h.air.carriers[j] = .onAir c since)
    (unpinned : h.settings.channels[c].pinned = false) : serviceReport c .silent h =
      h.setCarrier j (if h.settings.hall.hold = 0 then .free else .holding c since (h.tenths + h.settings.hall.hold)) := by
  unfold serviceReport
  rw [own]
  dsimp only
  rw [unpinned, if_neg nofun]
  unfold beginHold
  rw [onAir]
  dsimp only
  split <;> rfl

theorem serviceReport_frees (own : h.carrierOf c = some j) : serviceReport c .off h = leaveWait c (h.setCarrier j .free) := by
  unfold serviceReport
  rw [own]

theorem leaveWait_idle (idle : h.air.waiting = []) : (leaveWait c h).air.waiting = [] := by
  unfold leaveWait Hall.setWaiting
  rw [idle]
  rfl

/-- With one channel waiting, the carrier freed or held is given to it (R86). -/
theorem serveList_gives {d : ChannelId} (one : h.air.waiting = [d])
    (given : offer d (h.setWaiting []) = some (giveCarrier j d (h.setWaiting []))) :
    (serveList 32 h).air.carriers = vset h.air.carriers j (.onAir d h.now) ∧ (serveList 32 h).air.waiting = [] := by
  have served : serveList 32 h = serveList 31 (giveCarrier j d (h.setWaiting [])) := by
    rw [serveList, one]
    dsimp only
    rw [given]
  rw [served, serveList_idle 31 (giveCarrier_waiting ..)]
  exact ⟨rfl, rfl⟩

end

/-! ### The channel's new state, and its report -/

section
variable {h : Hall} {c : ChannelId}

theorem reviewedAs_spelled (h : Hall) (c : ChannelId) :
    Spelled (h.modChannel c fun r => { r with service := h.serviceOf c }) (reviewedAs h c) := spelled_reviewChannel _ c

/-- The blocks as the allocator has them when it has acted on the new state and served the list. -/
def servedAs (h : Hall) (c : ChannelId) : Hall := serveList 32 (serviceReport c (h.serviceOf c) (reviewedAs h c))

theorem servedAs_assigned (h : Hall) (c : ChannelId) : Assigned (reviewedAs h c) (servedAs h c) :=
  (assigned_serviceReport _ c _).trans (assigned_serveList 32 _)

theorem reevaluate_reported (changed : h.channels[c].service ≠ h.serviceOf c) :
    reevaluate h c = resolveListing c (allocReport (reviewedAs h c) (servedAs h c)) := reevaluate_moved changed

theorem reevaluate_carriers (changed : h.channels[c].service ≠ h.serviceOf c) :
    (reevaluate h c).air.carriers = (servedAs h c).air.carriers ∧ (reevaluate h c).air.waiting = (servedAs h c).air.waiting := by
  rw [reevaluate_reported changed, (relayed_resolveListing _ c).air]
  exact allocReport_air _ _

theorem judged_reported (before h : Hall) (c : ChannelId) : Judged h (resolveListing c (allocReport before h)) := by
  have p := serving_allocReport h before
  exact Judged.trans ⟨p.settings, p.slots, p.session, p.day, p.service, (allocReport_air before h).1⟩
    (relayed_resolveListing _ c).judged

/-- What a channel needs to be served but a carrier ON_AIR (R14). -/
def wouldServe (h : Hall) (c : ChannelId) : Bool :=
  h.settings.channels[c].enabled && !h.dark && h.running && h.channels[c].service == .live

theorem serves_eq (h : Hall) (c : ChannelId) : h.serves c = (wouldServe h c && h.onAir c) := rfl

theorem lacks_eq (h : Hall) (c : ChannelId) :
    h.lacks c = (h.settings.channels[c].enabled && h.running && !(wouldServe h c && h.onAir c)) := rfl

/-- The new state's spells are judged alike before and after the allocator's action, but for the carrier. -/
theorem servedAs_judged (h : Hall) (c : ChannelId) :
    let new := h.modChannel c fun r => { r with service := h.serviceOf c }
    wouldServe (servedAs h c) c = wouldServe new c ∧ (servedAs h c).settings = h.settings ∧
      (servedAs h c).running = h.running ∧ (servedAs h c).now = h.now ∧
      (servedAs h c).channels[c] = spelledRun new c := by
  intro new
  have spelled := reviewedAs_spelled h c
  have assigned := servedAs_assigned h c
  have run : (reviewedAs h c).channels[c] = spelledRun new c := (reviewChannel_channel new c c).trans (if_pos rfl)
  have settings : (servedAs h c).settings = h.settings := assigned.settings.trans spelled.settings
  have running : (servedAs h c).running = h.running :=
    running_congr (by rw [assigned.account, spelled.account]; rfl)
  have dark : (servedAs h c).dark = new.dark := dark_congr (by rw [assigned.link, spelled.link])
  have channel : (servedAs h c).channels[c] = spelledRun new c := by rw [assigned.channels, run]
  refine ⟨?_, settings, running, ?_, channel⟩
  · unfold wouldServe
    rw [settings, running, dark, channel]
    rfl
  · exact (congrArg Clock.minute assigned.clock).trans spelled.now

theorem reviewedAs_view (h : Hall) (c : ChannelId) : (reviewedAs h c).carrierView c = h.carrierView c :=
  carrierView_congr (congrArg Allocator.carriers (reviewedAs_spelled h c).air) c

/-- The spell of service goes on where the channel was ON_AIR before, and begins with its carrier otherwise. -/
theorem reevaluate_servedSince (changed : h.channels[c].service ≠ h.serviceOf c) :
    (reevaluate h c).channels[c].servedSince = if (reevaluate h c).serves c then
      some (if h.onAir c then h.channels[c].servedSince.getD h.now else h.now) else none := by
  obtain ⟨base, settings, running, now, run⟩ := servedAs_judged h c
  have judged := judged_reported (reviewedAs h c) (servedAs h c) c
  have report := (allocReport_spells (servedAs h c) (reviewedAs h c) c).1
  rw [reevaluate_reported changed, judged.serves, (relayed_resolveListing _ c).channels, report, serves_eq, base]
  have before : (servedAs h c).channels[c].servedSince =
      if wouldServe (h.modChannel c fun r => { r with service := h.serviceOf c }) c && h.onAir c then
        some (h.channels[c].servedSince.getD h.now) else none := by
    rw [run]
    show (if Hall.serves _ c then some (Option.getD (Hall.modChannel c _ h).channels[c].servedSince h.now) else none) = _
    rw [modChannel_get, if_pos rfl]
    rfl
  split
  · show (if (servedAs h c).serves c then some ((servedAs h c).channels[c].servedSince.getD (servedAs h c).now) else none) = _
    rw [serves_eq, base, before, now]
    cases wouldServe (h.modChannel c fun r => { r with service := h.serviceOf c }) c <;> cases h.onAir c <;> rfl
  · next same =>
    have view := onAir_congr ((not_not.mp same).symm.trans (reviewedAs_view h c))
    rw [before, view]
    cases wouldServe (h.modChannel c fun r => { r with service := h.serviceOf c }) c <;> cases h.onAir c <;> rfl

theorem onAir_holder (onAir : h.onAir c = true) :
    ∃ j since, h.carrierOf c = some j ∧ h.air.carriers[j] = .onAir c since := by
  unfold Hall.onAir Hall.carrierView at onAir
  cases own : h.carrierOf c with
  | none => rw [own] at onAir; cases onAir
  | some j =>
    rw [own] at onAir
    have held := carrierOf_some own
    cases r : h.air.carriers[j] with
    | free => rw [r] at held; cases held
    | onAir d since =>
      rw [r] at held
      rw [Option.some.inj held] at r
      exact ⟨j, since, rfl, r⟩
    | holding d since e =>
      simp only [Option.map_some, r, Carrier.isHolding] at onAir
      cases onAir

theorem reviewedAs_air (h : Hall) (c : ChannelId) : (reviewedAs h c).air = h.air := (reviewedAs_spelled h c).air

theorem reviewedAs_settings (h : Hall) (c : ChannelId) : (reviewedAs h c).settings = h.settings :=
  (reviewedAs_spelled h c).settings

theorem reviewedAs_clock (h : Hall) (c : ChannelId) : (reviewedAs h c).clock = h.clock := (reviewedAs_spelled h c).clock

theorem reviewedAs_carrierOf (h : Hall) (c d : ChannelId) : (reviewedAs h c).carrierOf d = h.carrierOf d := by
  unfold Hall.carrierOf
  rw [reviewedAs_air]

/-- A channel that lacks service goes on lacking it, where no channel waits for a carrier. -/
theorem reevaluate_outageSince (changed : h.channels[c].service ≠ h.serviceOf c) (idle : h.air.waiting = []) :
    (reevaluate h c).channels[c].outageSince = if (reevaluate h c).lacks c then
      some (h.channels[c].outageSince.getD h.now) else none := by
  obtain ⟨base, settings, running, now, run⟩ := servedAs_judged h c
  have judged := judged_reported (reviewedAs h c) (servedAs h c) c
  have report := (allocReport_spells (servedAs h c) (reviewedAs h c) c).1
  rw [reevaluate_reported changed, judged.lacks, (relayed_resolveListing _ c).channels, report, lacks_eq, base, settings, running]
  have before : (servedAs h c).channels[c].outageSince =
      if h.settings.channels[c].enabled && h.running &&
        !(wouldServe (h.modChannel c fun r => { r with service := h.serviceOf c }) c && h.onAir c) then
        some (h.channels[c].outageSince.getD h.now) else none := by
    rw [run]
    show (if Hall.lacks _ c then some (Option.getD (Hall.modChannel c _ h).channels[c].outageSince h.now) else none) = _
    rw [modChannel_get, if_pos rfl]
    rfl
  split
  · next moved =>
    have off : (wouldServe (h.modChannel c fun r => { r with service := h.serviceOf c }) c && h.onAir c) = false := by
      refine Bool.eq_false_iff.mpr fun serves => moved ?_
      obtain ⟨would, onAir⟩ := Bool.and_eq_true_iff.mp serves
      obtain ⟨j, since, own, held⟩ := onAir_holder onAir
      have live : h.serviceOf c = .live := by
        have state := (Bool.and_eq_true_iff.mp would).2
        rw [modChannel_get, if_pos rfl] at state
        exact beq_iff_eq.mp state
      have rests : serviceReport c (h.serviceOf c) (reviewedAs h c) = reviewedAs h c :=
        serviceReport_rests (by rw [reviewedAs_carrierOf, own]) (by rw [reviewedAs_air]; exact held) (.inl live)
      unfold servedAs
      rw [rests, serveList_idle 32 (by rw [reviewedAs_air]; exact idle)]
    show (if (servedAs h c).lacks c then some ((servedAs h c).channels[c].outageSince.getD (servedAs h c).now) else none) = _
    rw [lacks_eq, base, before, now, settings, running, off]
    cases h.settings.channels[c].enabled && h.running <;>
      cases wouldServe (h.modChannel c fun r => { r with service := h.serviceOf c }) c && (servedAs h c).onAir c <;> rfl
  · next same =>
    have view := onAir_congr ((not_not.mp same).symm.trans (reviewedAs_view h c))
    rw [before, view]

end

/-! ### What becomes of the channel's carrier -/

section
variable {h : Hall} {c : ChannelId} {j : CarrierId}

/-- The carriers behind the re-evaluation, where the allocator's action leaves no channel waiting. -/
theorem reevaluate_becomes (changed : h.channels[c].service ≠ h.serviceOf c) {k : Hall}
    (acts : serviceReport c (h.serviceOf c) (reviewedAs h c) = k) (idle : k.air.waiting = []) :
    (reevaluate h c).air.carriers = k.air.carriers ∧ (reevaluate h c).air.waiting = [] := by
  have carriers := reevaluate_carriers changed
  unfold servedAs at carriers
  rw [acts, serveList_idle 32 idle] at carriers
  exact ⟨carriers.1, carriers.2.trans idle⟩

theorem takes_free (changed : h.channels[c].service ≠ h.serviceOf c) (idle : h.air.waiting = [])
    (nobody : ∀ i : CarrierId, h.air.carriers[i].channel? ≠ some c) (live : h.serviceOf c = .live) (alloc : j ≠ 0)
    (free : h.air.carriers[j] = .free) (least : ∀ i : CarrierId, i ≠ 0 → h.air.carriers[i] = .free → j ≤ i) :
    (reevaluate h c).air.carriers = vset h.air.carriers j (.onAir c h.now) ∧ (reevaluate h c).air.waiting = [] := by
  have air := reviewedAs_air h c
  have lowest : freeCarrier (reviewedAs h c) = some j := freeCarrier_some alloc (by rw [air]; exact free)
    fun i ne e => least i ne (by rw [air] at e; exact e)
  have acts := serviceReport_takes ((reviewedAs_carrierOf h c c).trans (carrierOf_nobody nobody)) (by rw [air]; exact idle) lowest
  rw [← live] at acts
  have becomes := reevaluate_becomes changed acts (by rw [giveCarrier_waiting, air]; exact idle)
  rwa [giveCarrier_carriers, air, show (reviewedAs h c).now = h.now from congrArg Clock.minute (reviewedAs_clock h c)] at becomes

theorem nobody_rests (changed : h.channels[c].service ≠ h.serviceOf c) (idle : h.air.waiting = [])
    (nobody : ∀ i : CarrierId, h.air.carriers[i].channel? ≠ some c) (other : h.serviceOf c ≠ .live) :
    (reevaluate h c).air.carriers = h.air.carriers ∧ (reevaluate h c).air.waiting = [] := by
  have air := reviewedAs_air h c
  have acts := serviceReport_leaves ((reviewedAs_carrierOf h c c).trans (carrierOf_nobody nobody)) other
  have becomes := reevaluate_becomes changed acts (leaveWait_idle (by rw [air]; exact idle))
  rwa [show (leaveWait c (reviewedAs h c)).air.carriers = h.air.carriers from
    congrArg Allocator.carriers (a₁ := (reviewedAs h c).air) air] at becomes

theorem own_carrier (l : h.AirLawful) (held : h.air.carriers[j].channel? = some c) : (reviewedAs h c).carrierOf c = some j :=
  (reviewedAs_carrierOf h c c).trans (carrierOf_holder l held)

theorem set_becomes (changed : h.channels[c].service ≠ h.serviceOf c) (idle : h.air.waiting = []) {r : Carrier}
    (acts : serviceReport c (h.serviceOf c) (reviewedAs h c) = (reviewedAs h c).setCarrier j r) :
    (reevaluate h c).air.carriers = vset h.air.carriers j r := by
  have air := reviewedAs_air h c
  have waits : ((reviewedAs h c).setCarrier j r).air.waiting = [] := (congrArg Allocator.waiting air).trans idle
  rw [(reevaluate_becomes changed acts waits).1]
  show vset (reviewedAs h c).air.carriers j r = _
  rw [air]

/-- The only carrier that is FREE or HOLDING is the one offered. -/
theorem offer_only {g : Hall} {d : ChannelId} {v : Vector Carrier 16} {r : Carrier} (carriers : g.air.carriers = vset v j r)
    (alloc : j ≠ 0) (loose : r = .free ∨ ∃ e since t, r = .holding e since t)
    (others : ∀ i : CarrierId, i ≠ 0 → v[i] ≠ .free ∧ v[i].expiry? = none) :
    offer d g = some (giveCarrier j d g) := by
  have own : g.air.carriers[j] = r := by rw [carriers, vset_same]
  have other {i : CarrierId} (ne : i ≠ j) : g.air.carriers[i] = v[i] := by rw [carriers, vset_other _ _ (Ne.symm ne)]
  rcases loose with rfl | ⟨e, since, t, rfl⟩
  · refine offer_free (freeCarrier_some alloc own fun i alloc free => ?_)
    by_cases same : i = j
    · rw [same]
    · rw [other same] at free
      exact absurd free (others i alloc).1
  · refine offer_holding (freeCarrier_none.mpr fun i alloc free => ?_)
      (holdingCarrier_some alloc ⟨e, since, own⟩ fun i x ⟨alloc, y, z, holds⟩ => ?_)
    · by_cases same : i = j
      · rw [same, own] at free
        cases free
      · rw [other same] at free
        exact (others i alloc).1 free
    · by_cases same : i = j
      · rw [same, own] at holds
        cases holds
        exact .inr ⟨rfl, by rw [same]⟩
      · have none := (others i alloc).2
        rw [other same] at holds
        rw [holds] at none
        cases none

/-- With one channel waiting and no other carrier to be had, the carrier that would be held goes to it (R86, R87). -/
theorem held_given {d : ChannelId} {since : Nat} (changed : h.channels[c].service ≠ h.serviceOf c) (l : h.AirLawful)
    (one : h.air.waiting = [d]) (alloc : j ≠ 0) (onAir : h.air.carriers[j] = .onAir c since) (silent : h.serviceOf c = .silent)
    (unpinned : h.settings.channels[c].pinned = false)
    (others : ∀ i : CarrierId, i ≠ 0 → h.air.carriers[i] ≠ .free ∧ h.air.carriers[i].expiry? = none) :
    (reevaluate h c).air.carriers = vset h.air.carriers j (.onAir d h.now) ∧ (reevaluate h c).air.waiting = [] := by
  have air := reviewedAs_air h c
  have clock := reviewedAs_clock h c
  have acts := serviceReport_holds (own_carrier l (by rw [onAir]; rfl)) (by rw [air]; exact onAir)
    (by rw [reviewedAs_settings]; exact unpinned)
  have carriers := reevaluate_carriers changed
  unfold servedAs at carriers
  rw [silent, acts] at carriers
  have loose : (if (reviewedAs h c).settings.hall.hold = 0 then Carrier.free else
        .holding c since ((reviewedAs h c).tenths + (reviewedAs h c).settings.hall.hold)) = .free ∨
      ∃ e since' t, (if (reviewedAs h c).settings.hall.hold = 0 then Carrier.free else
        .holding c since ((reviewedAs h c).tenths + (reviewedAs h c).settings.hall.hold)) = .holding e since' t := by
    split
    · exact .inl rfl
    · exact .inr ⟨_, _, _, rfl⟩
  generalize (if (reviewedAs h c).settings.hall.hold = 0 then Carrier.free else
    .holding c since ((reviewedAs h c).tenths + (reviewedAs h c).settings.hall.hold)) = r at carriers loose
  have cells : ((reviewedAs h c).setCarrier j r).air.carriers = vset h.air.carriers j r := by
    show vset (reviewedAs h c).air.carriers j r = _
    rw [air]
  have waits : ((reviewedAs h c).setCarrier j r).air.waiting = [d] := (congrArg Allocator.waiting air).trans one
  have given := serveList_gives waits (offer_only (d := d) (g := ((reviewedAs h c).setCarrier j r).setWaiting []) cells alloc loose others)
  have now : ((reviewedAs h c).setCarrier j r).now = h.now := congrArg Clock.minute clock
  rw [given.1, given.2, cells, vset_vset, now] at carriers
  exact carriers

end

end Sys2Proof.StepProofs
end

-- ==== Proofs: Pinning ====
section
/-! PROOFS. The carriers behind a change of service state and of pinning (R80, R82, R86 to R90). -/

namespace Sys2Proof.StepProofs

open Machine

/-! ### A new service state -/

section
variable {h : Hall} {c : ChannelId}

/-- What the report of a new state hands over: the generation, the counts and the peak (R89, R90, R93). -/
theorem reevaluate_hands (changed : h.channels[c].service ≠ h.serviceOf c) :
    (reevaluate h c).link.generation = (if (reevaluate h c).directory = h.link.content then h.link.generation
      else (h.link.generation + 1) % 65536) ∧
    (reevaluate h c).levels.carriers = (reevaluate h c).inUse ∧
    (reevaluate h c).air.peak = max h.air.peak (reevaluate h c).inUse ∧
    (reevaluate h c).levels.unserved = (reevaluate h c).unservedCount := by
  have assigned := servedAs_assigned h c
  have link : (servedAs h c).link = h.link := assigned.link.trans (reviewedAs_spelled h c).link
  have peak : (servedAs h c).air.peak = h.air.peak := assigned.peak.trans (congrArg Allocator.peak (reviewedAs_air h c))
  have stands : (servedAs h c).levels.unserved = (servedAs h c).unservedCount := by
    rw [assigned.levels, unservedCount_congr assigned.settings assigned.channels]
    exact reviewChannel_unserved _ c
  have relayed := relayed_resolveListing (allocReport (reviewedAs h c) (servedAs h c)) c
  have generation := allocReport_generation (servedAs h c) (reviewedAs h c)
  have carriers := (allocReport_air (reviewedAs h c) (servedAs h c)).1
  obtain ⟨inUse, unserved, raised⟩ := allocReport_hands (servedAs h c) (reviewedAs h c) stands
  rw [reevaluate_reported changed]
  generalize allocReport (reviewedAs h c) (servedAs h c) = e at relayed generation carriers inUse unserved raised ⊢
  have count : (resolveListing c e).inUse = (servedAs h c).inUse := inUse_congr ((congrArg Allocator.carriers relayed.air).trans carriers)
  refine ⟨?_, ?_, ?_, ?_⟩
  · rw [relayed.link, directory_congr (congrArg Allocator.carriers relayed.air) relayed.settings, generation, link]
  · rw [relayed.levels, count, inUse]
  · rw [relayed.air, count, raised, peak]
  · rw [relayed.levels, unserved, unservedCount_congr relayed.settings relayed.channels]

/-- What a new state does to the channel's carrier while no channel waits (R80, R86 to R88). -/
theorem reevaluate_carrier (l : h.AirLawful) (changed : h.channels[c].service ≠ h.serviceOf c) (idle : h.air.waiting = []) :
    let v := h.serviceOf c
    let becomes (j : CarrierId) (r : Carrier) : Prop := (reevaluate h c).air.carriers = vset h.air.carriers j r
    (∀ (j : CarrierId) since e, h.air.carriers[j] = .holding c since e → v = .live ∨ v = .fill → becomes j (.onAir c since)) ∧
    (∀ (j : CarrierId) since, h.air.carriers[j] = .onAir c since →
      v = .live ∨ v = .fill ∨ (v = .silent ∧ h.settings.channels[c].pinned = true) →
      (reevaluate h c).air.carriers = h.air.carriers) ∧
    (∀ (j : CarrierId) since, h.air.carriers[j] = .onAir c since → v = .silent → h.settings.channels[c].pinned = false →
      becomes j (if h.settings.hall.hold = 0 then .free else .holding c since (h.tenths + h.settings.hall.hold))) ∧
    (∀ j : CarrierId, h.air.carriers[j].channel? = some c → v = .off → becomes j .free) := by
  have air := reviewedAs_air h c
  have settings := reviewedAs_settings h c
  have waits : (reviewedAs h c).air.waiting = [] := by rw [air, idle]
  refine ⟨fun j since e holding served => ?_, fun j since onAir kept => ?_, fun j since onAir silent unpinned => ?_,
    fun j held off => ?_⟩
  · exact set_becomes changed idle (serviceReport_resumes (own_carrier l (by rw [holding]; rfl)) (by rw [air]; exact holding) served)
  · have rests := serviceReport_rests (own_carrier l (by rw [onAir]; rfl)) (by rw [air]; exact onAir) (by rw [settings]; exact kept)
    rw [(reevaluate_becomes changed rests waits).1, air]
  · have holds := serviceReport_holds (own_carrier l (by rw [onAir]; rfl)) (by rw [air]; exact onAir)
      (by rw [settings]; exact unpinned)
    rw [settings, show (reviewedAs h c).tenths = h.tenths from congrArg (fun k : Clock => k.ticks / 2) (reviewedAs_clock h c),
      ← silent] at holds
    exact set_becomes changed idle holds
  · have frees := serviceReport_frees (own_carrier l held)
    rw [← off] at frees
    rw [(reevaluate_becomes changed frees (leaveWait_idle waits)).1]
    show vset (reviewedAs h c).air.carriers j .free = _
    rw [air]

end

/-! ### Pinning set on or off -/

section
variable {h : Hall} {c : ChannelId} {j : CarrierId}

theorem pinnedReport_takes (nobody : h.carrierOf c = none) (free : freeCarrier h = some j) :
    pinnedReport c h = giveCarrier j c (leaveWait c h) := by
  unfold pinnedReport
  rw [nobody]
  exact requestCarrier_of (offer_free free)

theorem pinnedReport_resumes (own : h.carrierOf c = some j) : pinnedReport c h = resumeCarrier j h := by
  unfold pinnedReport
  rw [own]

theorem unpinnedReport_eq (own : h.carrierOf c = some j) : unpinnedReport c h =
    if h.channels[c].service = .silent then h.setCarrier j .free else h := by
  unfold unpinnedReport
  rw [own]

theorem resumeCarrier_holding {since e : Nat} (holding : h.air.carriers[j] = .holding c since e) :
    resumeCarrier j h = h.setCarrier j (.onAir c since) := by
  unfold resumeCarrier
  rw [holding]

theorem resumeCarrier_onAir {since : Nat} (onAir : h.air.carriers[j] = .onAir c since) : resumeCarrier j h = h := by
  unfold resumeCarrier
  rw [onAir]

/-- The carriers behind an event of the allocator whose action leaves no channel waiting. -/
theorem allocEvent_carriers {act : Hall → Hall} (idle : (act h).air.waiting = []) :
    (allocEvent act h).air.carriers = (act h).air.carriers := by
  unfold allocEvent
  rw [(allocReport_air _ _).1, serveList_idle 32 idle]

/-- SET CHANNEL's operands that give PIN alone. -/
def pinArgs (c : ChannelId) (on : Bool) : SetChannelArgs :=
  ⟨.val c.val, .absent, .absent, .absent, .absent, .val on, .absent⟩

theorem pinArgs_apply (nonzero : c ≠ 0) (on : Bool) (r : ChannelSettings) :
    (pinArgs c on).apply c r = { r with pinned := on } := by
  unfold pinArgs SetChannelArgs.apply
  dsimp only
  rw [if_neg nonzero, if_neg nonzero, if_neg nonzero]
  rfl

/-- The blocks with the channel's pinning changed, before the consequences. -/
def pinnedAs (c : ChannelId) (on : Bool) (h : Hall) : Hall :=
  h.modChannelSettings c fun _ => { h.settings.channels[c] with pinned := on }

theorem pinnedAs_settings (c : ChannelId) (on : Bool) (h : Hall) :
    (pinnedAs c on h).settings.channels[c] = { h.settings.channels[c] with pinned := on } := vmod_same ..

theorem pinnedAs_serviceOf (c : ChannelId) (on : Bool) (h : Hall) : (pinnedAs c on h).serviceOf c = h.serviceOf c := by
  unfold Hall.serviceOf
  rw [pinnedAs_settings]
  rfl

/-- The consequences of settings that change the pinning of an ENABLED channel alone (R82, R88). -/
theorem channelConsequences_pins {old : ChannelSettings} (on : Bool)
    (new : h.settings.channels[c] = { old with pinned := on }) (enabled : old.enabled = true) (other : old.pinned ≠ on) :
    channelConsequences c old h = allocEvent (if on then pinnedReport c else unpinnedReport c) (reevaluate h c) := by
  unfold channelConsequences
  extract_lets now h1 h2
  have changed : now = { old with pinned := on } := new
  have code : (now.enabled && old.enabled && now.code != old.code && (h2.carrierOf c).isSome) = false := by
    rw [changed]
    simp
  have told : h2 = allocEvent (if on then pinnedReport c else unpinnedReport c) h1 := by
    show (if (now.enabled && now.pinned && !(old.enabled && old.pinned)) = true then allocEvent (pinnedReport c) h1
      else if (now.enabled && old.enabled && old.pinned && !now.pinned) = true then allocEvent (unpinnedReport c) h1 else h1) = _
    cases on with
    | true =>
      rw [if_pos (by rw [changed, Bool.eq_false_iff.mpr other]; simp [enabled]), if_pos rfl]
    | false =>
      rw [if_neg (by rw [changed]; simp), if_pos (by rw [changed, Bool.eq_true_of_not_eq_false other]; simp [enabled]),
        if_neg nofun]
  rw [code, if_neg nofun, told]

/-- Pinning changed, the state standing: the channel's spells reviewed, and the allocator told of the pinning. -/
theorem applyChannel_pin (nonzero : c ≠ 0) (on : Bool) (enabled : h.settings.channels[c].enabled = true)
    (stands : h.channels[c].service = h.serviceOf c) (other : h.settings.channels[c].pinned ≠ on) :
    applyChannel c (pinArgs c on) h = allocEvent (if on then pinnedReport c else unpinnedReport c)
      (reviewChannel (pinnedAs c on h) c) := by
  have new := pinArgs_apply nonzero on h.settings.channels[c]
  have noHires : hiresMovedOff c (pinArgs c on) h = h := (hiresMovedOff_none fun _ => by rw [new]; exact enabled).1
  have consequences : (applyChannel c (pinArgs c on) h) = channelConsequences c h.settings.channels[c] (pinnedAs c on h) := by
    rw [applyChannel_eq, noHires, new]
    rfl
  rw [consequences, channelConsequences_pins on (pinnedAs_settings c on h) enabled other,
    reevaluate_stands (h := pinnedAs c on h) (stands.trans (pinnedAs_serviceOf c on h).symm)]

theorem pinned_air (c : ChannelId) (on : Bool) (h : Hall) : (reviewChannel (pinnedAs c on h) c).air = h.air :=
  reviewChannel_air _ _

theorem pinned_carrierOf (c : ChannelId) (on : Bool) (h : Hall) (d : ChannelId) :
    (reviewChannel (pinnedAs c on h) c).carrierOf d = h.carrierOf d := by
  unfold Hall.carrierOf
  rw [pinned_air]

end

section
variable {h : Hall} {c : ChannelId}

theorem applyChannel_pinned (nonzero : c ≠ 0) (on : Bool) (enabled : h.settings.channels[c].enabled = true) :
    (applyChannel c (pinArgs c on) h).settings.channels[c].pinned = on := by
  have new := pinArgs_apply nonzero on h.settings.channels[c]
  have noHires : hiresMovedOff c (pinArgs c on) h = h := (hiresMovedOff_none fun _ => by rw [new]; exact enabled).1
  have consequences : (applyChannel c (pinArgs c on) h) = channelConsequences c h.settings.channels[c] (pinnedAs c on h) := by
    rw [applyChannel_eq, noHires, new]
    rfl
  rw [consequences, (serving_channelConsequences c _ (pinnedAs c on h)).settings, (kept_reevaluate (pinnedAs c on h) c).settings,
    pinnedAs_settings]

/-- Pinning set on: a FREE carrier is taken where the channel has none, and a hold ends (R82). -/
theorem pinned_carriers (nonzero : c ≠ 0) (l : h.AirLawful) (idle : h.air.waiting = [])
    (enabled : h.settings.channels[c].enabled = true) (stands : h.channels[c].service = h.serviceOf c)
    (unpinned : h.settings.channels[c].pinned = false) :
    (∀ j : CarrierId, (∀ i : CarrierId, h.air.carriers[i].channel? ≠ some c) → j ≠ 0 → h.air.carriers[j] = .free →
      (∀ i : CarrierId, i ≠ 0 → h.air.carriers[i] = .free → j ≤ i) →
      (applyChannel c (pinArgs c true) h).air.carriers = vset h.air.carriers j (.onAir c h.now)) ∧
    (∀ (j : CarrierId) since e, h.air.carriers[j] = .holding c since e →
      (applyChannel c (pinArgs c true) h).air.carriers = vset h.air.carriers j (.onAir c since)) ∧
    (∀ (j : CarrierId) since, h.air.carriers[j] = .onAir c since →
      (applyChannel c (pinArgs c true) h).air.carriers = h.air.carriers) := by
  have applied := applyChannel_pin nonzero true enabled stands (by rw [unpinned]; nofun)
  have air := pinned_air c true h
  have now : (reviewChannel (pinnedAs c true h) c).now = h.now := (spelled_reviewChannel _ c).now
  have own (d : ChannelId) := pinned_carrierOf c true h d
  rw [applied, if_pos rfl]
  generalize reviewChannel (pinnedAs c true h) c = k at air own now ⊢
  have event {g : Hall} (acts : pinnedReport c k = g) (waits : g.air.waiting = []) :
      (allocEvent (pinnedReport c) k).air.carriers = g.air.carriers := by
    rw [← acts] at waits ⊢
    exact allocEvent_carriers waits
  have waits : k.air.waiting = [] := by rw [air, idle]
  refine ⟨fun j nobody alloc free least => ?_, fun j since e holding => ?_, fun j since onAir => ?_⟩
  · have lowest : freeCarrier k = some j := freeCarrier_some alloc (by rw [air]; exact free)
      fun i ne e => least i ne (by rw [air] at e; exact e)
    have acts := pinnedReport_takes ((own c).trans (carrierOf_nobody nobody)) lowest
    rw [event acts (leaveWait_idle waits)]
    show vset k.air.carriers j (.onAir c k.now) = _
    rw [air, now]
  · have acts := (pinnedReport_resumes ((own c).trans (carrierOf_holder l (by rw [holding]; rfl)))).trans
      (resumeCarrier_holding (by rw [air]; exact holding))
    rw [event acts waits]
    show vset k.air.carriers j _ = _
    rw [air]
  · have acts := (pinnedReport_resumes ((own c).trans (carrierOf_holder l (by rw [onAir]; rfl)))).trans
      (resumeCarrier_onAir (by rw [air]; exact onAir))
    rw [event acts waits, air]

/-- Pinning set off: the carrier of a SILENT channel is released (R88). -/
theorem unpinned_carriers (nonzero : c ≠ 0) (l : h.AirLawful) (idle : h.air.waiting = [])
    (enabled : h.settings.channels[c].enabled = true) (stands : h.channels[c].service = h.serviceOf c)
    (pinned : h.settings.channels[c].pinned = true) {j : CarrierId} (held : h.air.carriers[j].channel? = some c) :
    (applyChannel c (pinArgs c false) h).air.carriers =
      if h.channels[c].service = .silent then vset h.air.carriers j .free else h.air.carriers := by
  have applied := applyChannel_pin nonzero false enabled stands (by rw [pinned]; nofun)
  have air := pinned_air c false h
  have service : (reviewChannel (pinnedAs c false h) c).channels[c].service = h.channels[c].service :=
    (spelled_reviewChannel _ c).service c
  have own := (pinned_carrierOf c false h c).trans (carrierOf_holder l held)
  rw [applied, if_neg nofun]
  generalize reviewChannel (pinnedAs c false h) c = k at air own service ⊢
  have waits : k.air.waiting = [] := by rw [air, idle]
  have acts := unpinnedReport_eq own
  rw [service] at acts
  split
  · next silent =>
    rw [if_pos silent] at acts
    rw [allocEvent_carriers (by rw [acts]; exact waits), acts]
    show vset k.air.carriers j _ = _
    rw [air]
  · next other =>
    rw [if_neg other] at acts
    rw [allocEvent_carriers (by rw [acts]; exact waits), acts, air]

end

/-- Settles O53: the report of a new state and of pinning, by the carrier each finds. -/
theorem carrierReports : Obligations.CarrierReports := by
  constructor
  · intro h c l nonzero changed v k set holds becomes
    obtain ⟨generation, inUse, peak, unserved⟩ := reevaluate_hands changed
    refine ⟨(reevaluate_service h c c).trans (if_pos rfl), generation, inUse, peak, unserved, fun idle => ?_, ?_⟩
    · obtain ⟨resumes, rests, begins, frees⟩ := reevaluate_carrier l changed idle
      exact ⟨reevaluate_servedSince changed, reevaluate_outageSince changed idle,
        fun j nobody live free least => takes_free changed idle nobody live free.2 free.1 fun i ne e => least i ⟨e, ne⟩,
        fun nobody other => nobody_rests changed idle nobody other, fun j since e own => resumes j since e own.1,
        fun j since own => rests j since own.1, fun j since own => begins j since own.1, frees⟩
    · exact fun d j since one _ own silent unpinned others => held_given changed l one own.2 own.1 silent unpinned others
  · intro s tag c on p nonzero h a passes l idle stands enabled
    have accepted := setChannel_accepted (a := pinArgs c on) p rfl rfl passes
    refine ⟨(channelGathered c a h).1, (channelGathered c a h).2, answerWaits_of p.1 rfl accepted,
      applyChannel_pinned nonzero on enabled, fun set unpinned => ?_, fun set pinned j held => ?_⟩
    · have carriers := pinned_carriers nonzero l idle enabled stands unpinned
      rw [← set] at carriers
      exact carriers
    · have carriers := unpinned_carriers nonzero l idle enabled stands pinned held
      rw [← set] at carriers
      exact carriers

end Sys2Proof.StepProofs
end

-- ==== Proofs: Emitters ====
section
/-! PROOFS. Hold expiry, emitter answers and directory sends (R87, R90 to R92). -/

namespace Sys2Proof.StepProofs

open Machine

/-! ### A hold's expiry -/

section
variable {h : Hall} {k : CarrierId}

theorem expireHold_waits (early : ∀ c since t, h.air.carriers[k] = .holding c since t → h.tenths < t) : expireHold k h = h := by
  have notDue : h.timerDue h.air.carriers[k].expiry? = false := by
    cases e : h.air.carriers[k] with
    | free => rfl
    | onAir c since => rfl
    | holding c since t => exact decide_eq_false (Nat.not_le.mpr (early c since t e))
  unfold expireHold
  rw [notDue, if_neg nofun]

theorem expireHold_due {c : ChannelId} {since t : Nat} (holding : h.air.carriers[k] = .holding c since t) (due : t ≤ h.tenths) :
    expireHold k h = allocReport h (serveList 32 (h.setCarrier k .free)) := by
  have isDue : h.timerDue h.air.carriers[k].expiry? = true := by
    rw [holding]
    exact decide_eq_true due
  unfold expireHold
  rw [isDue, if_pos rfl]
  rfl

/-- The report behind a hold's expiry: the directory's generation, and no more than what the allocator's events move. -/
theorem freed_report (h : Hall) (k : CarrierId) :
    let j := allocReport h (serveList 32 (h.setCarrier k .free))
    j.air.carriers = (serveList 32 (h.setCarrier k .free)).air.carriers ∧
      j.air.waiting = (serveList 32 (h.setCarrier k .free)).air.waiting ∧
      j.link.generation = (if j.directory = h.link.content then h.link.generation else (h.link.generation + 1) % 65536) ∧
      j.link.slots = h.link.slots ∧ h.Kept j := by
  intro j
  have assigned : Assigned h (serveList 32 (h.setCarrier k .free)) :=
    Assigned.trans (k := h.setCarrier k .free) rfl (assigned_serveList 32 _)
  have serving : Serving h j := (serving_aired assigned.aired).trans (serving_allocReport _ _)
  have generation := allocReport_generation (serveList 32 (h.setCarrier k .free)) h
  rw [assigned.link] at generation
  exact ⟨(allocReport_air _ _).1, (allocReport_air _ _).2, generation, serving.slots, serving.toKept⟩

end

/-! ### A slot's state, and the hall dark or lit -/

section
variable {h k : Hall} {e : EmitterId}

theorem dark_states (states : ∀ e : EmitterId, k.link.slots[e].state = h.link.slots[e].state) : k.dark = h.dark := by
  unfold Hall.dark
  simp only [states]

/-- A change of hall dark reviews the spells of every channel, and nothing else of the blocks moves (R92). -/
theorem darkReport_spelled (before h : Hall) : Spelled h (darkReport before h) := by
  unfold darkReport
  split
  · exact .refl h
  · exact spelled_spellsAll h

theorem darkReport_reviews (channels : k.channels = h.channels) (now : k.now = h.now) (moved : (darkReport h k).dark ≠ h.dark)
    (c : ChannelId) :
    (darkReport h k).channels[c].servedSince =
      (if (darkReport h k).serves c then some (h.channels[c].servedSince.getD h.now) else none) ∧
    (darkReport h k).channels[c].outageSince =
      (if (darkReport h k).lacks c then some (h.channels[c].outageSince.getD h.now) else none) := by
  have judged := judged_spelled (darkReport_spelled h k)
  have other : h.dark ≠ k.dark := fun same => moved ((dark_congr judged.slots).trans same.symm)
  have reviewed : darkReport h k = k.spellsAll := if_neg other
  rw [judged.serves, judged.lacks, reviewed, spellsAll_channel, ← now, ← channels]
  exact ⟨rfl, rfl⟩

/-- The slot has answered: its misses are gone. -/
def answeredSlot (e : EmitterId) (h : Hall) : Hall := h.modSlot e fun s => { s with missed := 0, answered := true }

theorem takeEmitterAnswer_eq (e : EmitterId) {report : EmitterReport} {v : SlotState}
    (good : report = .ok ∧ v = .ok ∨ report = .fault ∧ v = .fault) (h : Hall) :
    takeEmitterAnswer (numOf e) report h = darkReport h (setSlotState e v (answeredSlot e h)) := by
  have slot : 1 ≤ numOf e ∧ numOf e ≤ 8 := ⟨Nat.le_add_left 1 _, e.isLt⟩
  unfold takeEmitterAnswer
  rw [dif_pos slot]
  rcases good with ⟨rfl, rfl⟩ | ⟨rfl, rfl⟩ <;> rfl

theorem takeEmitterAnswer_discards {n : Nat} {report : EmitterReport} (bad : n = 0 ∨ 8 < n ∨ report = .malformed) (h : Hall) :
    takeEmitterAnswer n report h = h := by
  unfold takeEmitterAnswer
  split
  · next slot =>
    have malformed : report = .malformed := by
      rcases bad with bad | bad | bad
      · omega
      · omega
      · exact bad
    rw [malformed]
  · rfl

theorem answeredSlot_slots (e : EmitterId) (h : Hall) : (answeredSlot e h).link.slots[e] = ⟨h.link.slots[e].state, 0, true⟩ :=
  vmod_same ..

/-- An answer of the state the slot has: no more than the slot moves. -/
theorem answer_same {v : SlotState} (same : h.link.slots[e].state = v) :
    darkReport h (setSlotState e v (answeredSlot e h)) =
      { h with link := { h.link with slots := vset h.link.slots e ⟨v, 0, true⟩ } } := by
  have stands : setSlotState e v (answeredSlot e h) = answeredSlot e h := by
    unfold setSlotState
    rw [if_pos (by rw [answeredSlot_slots]; exact same)]
  have slots : answeredSlot e h = { h with link := { h.link with slots := vset h.link.slots e ⟨v, 0, true⟩ } } := by
    rw [← same]
    rfl
  have dark : h.dark = (answeredSlot e h).dark := by
    refine (dark_states fun x => ?_).symm
    show (vmod h.link.slots e _)[x].state = _
    rw [vmod_get]
    split <;> rfl
  unfold darkReport
  rw [stands, if_pos dark, slots]

/-- An answer of another state, before the hall is judged dark or lit. -/
def changedSlot (e : EmitterId) (v : SlotState) (h : Hall) : Hall :=
  { h with
    link := { h.link with slots := vset h.link.slots e ⟨v, 0, true⟩ }
    work := { h.work with
      posts := h.work.posts ++ [⟨.carrier, .emitterChange, numOf e, h.now, v.code, false⟩]
      faults := h.work.faults ++ if v = .fault then [⟨h.now, .emitterFault, numOf e⟩] else [] } }

theorem setSlotState_changed {v : SlotState} (other : h.link.slots[e].state ≠ v) :
    setSlotState e v (answeredSlot e h) = changedSlot e v h := by
  have moved : ((answeredSlot e h).modSlot e fun s => { s with state := v }) =
      { h with link := { h.link with slots := vset h.link.slots e ⟨v, 0, true⟩ } } :=
    congrArg (fun slots => ({ h with link := { h.link with slots := slots } } : Hall))
      (vmod_vmod h.link.slots e (fun s : Slot => { s with missed := 0, answered := true }) fun s => { s with state := v })
  unfold setSlotState
  rw [if_neg (by rw [answeredSlot_slots]; exact other), moved]
  dsimp only
  unfold changedSlot
  split
  · rfl
  · rw [List.append_nil]
    rfl

theorem changedSlot_kept (e : EmitterId) (v : SlotState) (h : Hall) : h.Kept (changedSlot e v h) := by
  unfold changedSlot
  constructor <;> first | rfl | exact fun _ => rfl

/-! ### The close of the answer window -/

/-- What the close of the window makes of a slot (R91). -/
def closedSlot (s : Slot) : Slot :=
  if s.answered then { s with answered := false } else ⟨if 2 ≤ s.missed then .absent else s.state, min 3 (s.missed + 1), false⟩

/-- `k` is `h` but for the emitter slots, and the notices and fault entries of their changes. -/
def Slotted (h k : Hall) : Prop := k = { h with
  link := { h.link with slots := k.link.slots }
  work := { h.work with posts := k.work.posts, faults := k.work.faults } }

theorem Slotted.trans {l : Hall} (p : Slotted h k) (q : Slotted k l) : Slotted h l := by
  unfold Slotted at *
  rw [q, p]

theorem slotted_setSlotState (e : EmitterId) (v : SlotState) (h : Hall) : Slotted h (setSlotState e v h) := by
  unfold setSlotState
  split
  · rfl
  · dsimp only
    split <;> rfl

theorem slotted_closeSlot (h : Hall) (e : EmitterId) : Slotted h (closeSlot h e) := by
  unfold closeSlot
  dsimp only
  split
  · rfl
  · split
    · exact Slotted.trans (k := h.modSlot e fun s => { s with missed := min 3 (h.link.slots[e].missed + 1) }) rfl
        (slotted_setSlotState _ _ _)
    · rfl

theorem setSlotState_slots (e : EmitterId) (v : SlotState) (h : Hall) :
    (setSlotState e v h).link.slots = vmod h.link.slots e fun s => { s with state := v } := by
  unfold setSlotState
  split
  · next same =>
    refine (vmod_same_eq ?_).symm
    rw [← same]
  · dsimp only
    split <;> rfl

theorem closeSlot_slots (h : Hall) (e : EmitterId) : (closeSlot h e).link.slots = vmod h.link.slots e closedSlot := by
  have cell : vmod h.link.slots e closedSlot = vset h.link.slots e (closedSlot h.link.slots[e]) := rfl
  rw [cell]
  generalize slot : h.link.slots[e] = s
  unfold closeSlot closedSlot
  rw [slot]
  dsimp only
  by_cases answered : s.answered = true
  · rw [if_pos answered, if_pos answered]
    show vset h.link.slots e _ = _
    rw [slot]
  rw [if_neg answered, if_neg answered]
  have silent : s.answered = false := Bool.eq_false_iff.mpr answered
  have counted : ({ s with missed := min 3 (s.missed + 1) } : Slot) = ⟨s.state, min 3 (s.missed + 1), false⟩ := by
    rw [← silent]
  have missed : (h.modSlot e fun x => { x with missed := min 3 (s.missed + 1) }).link.slots =
      vset h.link.slots e ⟨s.state, min 3 (s.missed + 1), false⟩ := by
    rw [← counted, ← slot]
    rfl
  by_cases third : min 3 (s.missed + 1) = 3
  · have twice : 2 ≤ s.missed := by omega
    rw [if_pos third, if_pos twice, setSlotState_slots, missed]
    show vset _ e _ = _
    rw [vset_vset, vset_same]
  · have few : ¬ 2 ≤ s.missed := by omega
    rw [if_neg third, if_neg few, missed]

theorem slotted_closeSlots (h : Hall) : Slotted h ((ids 8).foldl closeSlot h) :=
  foldl_keeps (R := Slotted) (fun _ => rfl) Slotted.trans slotted_closeSlot _ _

theorem closeSlots_slots {l : List EmitterId} (once : l.Nodup) (h : Hall) (e : EmitterId) :
    (l.foldl closeSlot h).link.slots[e] = if e ∈ l then closedSlot h.link.slots[e] else h.link.slots[e] := by
  induction l generalizing h with
  | nil => rfl
  | cons x l ih =>
    obtain ⟨new, once⟩ := List.nodup_cons.mp once
    rw [List.foldl_cons, ih once, closeSlot_slots, vmod_get]
    by_cases same : x = e
    · have first : e ∉ l := same ▸ new
      rw [if_neg first, if_pos same, if_pos (List.mem_cons.mpr (.inl same.symm))]
    · have mem : e ∈ x :: l ↔ e ∈ l := ⟨fun m => (List.mem_cons.mp m).resolve_left (Ne.symm same), .tail _⟩
      rw [if_neg same, if_congr mem rfl rfl]

/-- The blocks as a directory send finds them: the timebase at its time, and the next send's set. -/
def sendDue (h : Hall) : Hall :=
  { h with
    clock := { h.clock with ticks := max h.clock.ticks h.link.nextSend }
    link := { h.link with nextSend := max h.clock.ticks h.link.nextSend + 5 } }

/-- The slots judged at the close of the window, and hall dark with them. -/
def windowClosed (h : Hall) : Hall := darkReport h ((ids 8).foldl closeSlot h)

theorem takeDirectorySend_eq (h : Hall) : takeDirectorySend h =
    { windowClosed (sendDue h) with link := { (windowClosed (sendDue h)).link with
        windows := min 3 ((windowClosed (sendDue h)).link.windows + 1)
        sentGen := (windowClosed (sendDue h)).link.generation
        sent := (windowClosed (sendDue h)).directory } } := rfl

end

section
variable {h : Hall} {k : CarrierId} {e : EmitterId} {v : SlotState}

/-- A carrier freed while one channel waits and no other is FREE goes to that channel (R86). -/
theorem freed_given {d : ChannelId} (one : h.air.waiting = [d]) (alloc : k ≠ 0)
    (full : ∀ l : CarrierId, l ≠ 0 → h.air.carriers[l] ≠ .free) :
    (serveList 32 (h.setCarrier k .free)).air.carriers = vset h.air.carriers k (.onAir d h.now) ∧
      (serveList 32 (h.setCarrier k .free)).air.waiting = [] := by
  have free : freeCarrier ((h.setCarrier k .free).setWaiting []) = some k := by
    refine freeCarrier_some alloc (vset_same ..) fun i alloc free => ?_
    by_cases same : i = k
    · rw [same]
    · rw [show ((h.setCarrier k .free).setWaiting []).air.carriers[i] = h.air.carriers[i] from
        vset_other _ _ (Ne.symm same)] at free
      exact absurd free (full i alloc)
  have given := serveList_gives (h := h.setCarrier k .free) one (offer_free free)
  rw [given.1, given.2]
  exact ⟨vset_vset .., rfl⟩

theorem changedSlot_notice (e : EmitterId) (v : SlotState) (h : Hall) :
    (⟨.carrier, .emitterChange, numOf e, h.now, v.code, false⟩ : Notice) ∈ (changedSlot e v h).work.posts :=
  List.mem_append_right _ (.head _)

theorem changedSlot_fault (faults : h.work.faults = []) :
    (⟨h.now, .emitterFault, numOf e⟩ : FaultEntry) ∈ (changedSlot e v h).work.faults ↔ v = .fault := by
  unfold changedSlot
  dsimp only
  rw [faults, List.nil_append]
  split
  · next fault => simp [fault]
  · next other => simp [other]

theorem kept_darkReport (before h : Hall) : h.Kept (darkReport before h) := by
  unfold darkReport
  split
  · exact .refl h
  · exact kept_spellsAll h

theorem posted_spellsAll (h : Hall) : Posted h h.spellsAll := by
  have each : Posted h ((ids 32).foldl Hall.spells h) :=
    foldl_keeps (R := Posted) (fun k => posted_same (h := k) (k := k) rfl) Posted.trans posted_spells _ _
  unfold Hall.spellsAll Hall.handUnserved
  exact each.trans (posted_meterLevelChange _ _ _)

theorem posted_darkReport (before h : Hall) : Posted h (darkReport before h) := by
  unfold darkReport
  split
  · exact posted_same (h := h) (k := h) rfl
  · exact posted_spellsAll h

/-- What a directory send does: the window closed slot by slot, and the directory sent as it stands (R90, R91). -/
theorem takeDirectorySend_does (h : Hall) :
    let j := takeDirectorySend h
    let ticks := max h.clock.ticks h.link.nextSend
    Hall.Kept { h with clock := { h.clock with ticks := ticks } } j ∧ j.air = h.air ∧
      j.link.sentGen = h.link.generation ∧ j.link.sent = h.directory ∧ j.link.generation = h.link.generation ∧
      j.link.nextSend = ticks + 5 ∧ j.link.windows = min 3 (h.link.windows + 1) ∧
      (j.dark ≠ h.dark → ∀ c : ChannelId,
        j.channels[c].servedSince = (if j.serves c then some (h.channels[c].servedSince.getD h.now) else none) ∧
        j.channels[c].outageSince = (if j.lacks c then some (h.channels[c].outageSince.getD h.now) else none)) ∧
      ∀ e : EmitterId, j.link.slots[e] = closedSlot h.link.slots[e] := by
  rw [takeDirectorySend_eq]
  have slots (e : EmitterId) : ((ids 8).foldl closeSlot (sendDue h)).link.slots[e] = closedSlot h.link.slots[e] :=
    (closeSlots_slots ChargeProofs.nodup_ids (sendDue h) e).trans (if_pos (mem_ids e))
  have slotted := slotted_closeSlots (sendDue h)
  have spelled := darkReport_spelled (sendDue h) ((ids 8).foldl closeSlot (sendDue h))
  have kept := kept_darkReport (sendDue h) ((ids 8).foldl closeSlot (sendDue h))
  have reviews := darkReport_reviews (h := sendDue h) (k := (ids 8).foldl closeSlot (sendDue h))
  unfold windowClosed
  generalize (ids 8).foldl closeSlot (sendDue h) = c at slots slotted spelled kept reviews ⊢
  generalize darkReport (sendDue h) c = w at spelled kept reviews ⊢
  unfold Slotted at slotted
  have link : w.link = { (sendDue h).link with slots := c.link.slots } := by rw [spelled.link, slotted]
  have air : w.air = h.air := by rw [spelled.air, slotted]; rfl
  have settings : w.settings = h.settings := by rw [spelled.settings, slotted]; rfl
  have channels : c.channels = (sendDue h).channels := by rw [slotted]
  have now : c.now = (sendDue h).now := by rw [slotted]; rfl
  have directory : w.directory = h.directory := directory_congr (by rw [air]) settings
  have before : Hall.Kept { h with clock := { h.clock with ticks := max h.clock.ticks h.link.nextSend } } c := by
    rw [slotted]
    constructor <;> first | rfl | exact fun _ => rfl
  refine ⟨(before.trans kept).trans (kept_link w _), air, ?_, directory, ?_, ?_, ?_, reviews channels now, fun e => ?_⟩
  · show w.link.generation = _
    rw [link]
    rfl
  · show w.link.generation = _
    rw [link]
    rfl
  · show w.link.nextSend = _
    rw [link]
    rfl
  · show min 3 (w.link.windows + 1) = _
    rw [link]
    rfl
  · show w.link.slots[e] = _
    rw [link]
    exact slots e

end

/-- Settles O54: each of the three events, by the case it meets. -/
theorem carriersAndEmitters : Obligations.CarriersAndEmitters := by
  intro s awake rest h reviewed
  refine ⟨fun k early => ?_, fun k c since t holding due => ?_, fun e report v good => ?_, fun n report bad => ?_, ?_⟩
  · have takes : s.takesEvent (.holdExpiry k) (expireHold k h) := takesEvent_of awake rfl
    rwa [expireHold_waits early] at takes
  · have takes : s.takesEvent (.holdExpiry k) (expireHold k h) := takesEvent_of awake rfl
    rw [expireHold_due holding due] at takes
    obtain ⟨carriers, waiting, raised, slots, kept⟩ := freed_report h k
    intro generation frees
    refine ⟨fun idle => ?_, fun d one alloc full => ?_⟩
    · rw [serveList_idle 32 (h := h.setCarrier k .free) idle] at takes carriers waiting raised slots kept
      exact ⟨_, takes, carriers, waiting.trans idle, raised, slots, kept⟩
    · obtain ⟨given, empty⟩ := freed_given one alloc full
      exact ⟨_, takes, carriers.trans given, waiting.trans empty, raised, slots, kept⟩
  · intro i slots
    have takes : s.takesEvent i (takeEmitterAnswer (numOf e) report h) := takesEvent_of awake rfl
    rw [takeEmitterAnswer_eq e good] at takes
    refine ⟨fun same => ?_, fun other => ?_⟩
    · rwa [answer_same same] at takes
    · rw [setSlotState_changed other] at takes
      have spelled := darkReport_spelled h (changedSlot e v h)
      have faults : h.work.faults = [] := by rw [rest]; rfl
      refine ⟨_, takes, spelled.link, (changedSlot_kept e v h).trans (kept_darkReport h _), spelled.air,
        (posted_darkReport h _).mem (changedSlot_notice e v h), ?_, darkReport_reviews rfl rfl⟩
      rw [spelled.faults]
      exact changedSlot_fault faults
  · have takes : s.takesEvent (.emitterAnswer n report) (takeEmitterAnswer n report h) := takesEvent_of awake rfl
    rwa [takeEmitterAnswer_discards bad] at takes
  · have takes : s.takesEvent .directorySend (takeDirectorySend h) := takesEvent_of awake rfl
    exact ⟨_, takes, takeDirectorySend_does h⟩

end Sys2Proof.StepProofs
end

-- ==== Proofs: Sessions ====
section
/-! PROOFS. The session orders (R137, R138): the session and its log set, and every channel's spells reviewed (R10 to
R12). -/

namespace Sys2Proof.StepProofs

open Machine

section
variable {lo hi : Nat}

theorem needNat_outOf {x : Arg Nat} (out : x.outOf lo hi) : needNat lo hi x = .error .range := by
  rcases out with rfl | ⟨n, rfl, out⟩
  · rfl
  · exact needNat_out out

end

/-! ### The session set -/

section
variable (h : Hall)

/-- What a session order makes of the blocks: the session, the log and the peaks, and the spells of every channel met. -/
structure SessionMoved (h : Hall) (v : Session) (log : List Interval) (last : Nat) (peaks : Bool) (k : Hall) : Prop where
  session  : k.account.session = v
  log      : k.account.log = log
  last     : k.account.lastSession = last
  day      : k.account.day = h.account.day
  balances : k.account.balances = h.account.balances
  queue    : k.account.queue = h.account.queue
  settings : k.settings = h.settings
  fleet    : k.fleet = h.fleet
  clock    : k.clock = h.clock
  consoles : k.consoles = h.consoles
  booths   : k.booths = h.booths
  carriers : k.air.carriers = h.air.carriers
  waiting  : k.air.waiting = h.air.waiting
  peak     : k.air.peak = if peaks then h.inUse else h.air.peak
  served   : ∀ c : ChannelId, k.channels[c].servedSince =
    if k.serves c then some (h.channels[c].servedSince.getD h.clock.minute) else none
  outage   : ∀ c : ChannelId, k.channels[c].outageSince =
    if k.lacks c then some (h.channels[c].outageSince.getD h.clock.minute) else none
  onAirDay : ∀ c : ChannelId, k.account.channels[c].onAir =
    if k.serves c then h.account.channels[c].onAir else h.onAirMinutes c
  outageDay : ∀ c : ChannelId, k.account.channels[c].outage =
    if k.lacks c then h.account.channels[c].outage else h.outage c
  demand   : ∀ c : ChannelId, k.channels[c].demand = h.channels[c].demand
  service  : ∀ c : ChannelId, k.channels[c].service = h.channels[c].service
  peaks    : ∀ c : ChannelId, k.channels[c].peak = if peaks then h.channels[c].demand else h.channels[c].peak

theorem sessionMoved_setSession (v : Session) (log : List Interval) (last : Nat) :
    SessionMoved h v log last false (setSession v log last h) := by
  have spelled := spelled_spellsAll { h with account := { h.account with session := v, log := log, lastSession := last } }
  have run := spellsAll_channel { h with account := { h.account with session := v, log := log, lastSession := last } }
  have day := spellsAll_day { h with account := { h.account with session := v, log := log, lastSession := last } }
  have judged := judged_spelled spelled
  unfold setSession
  generalize Hall.spellsAll { h with account := { h.account with session := v, log := log, lastSession := last } } = k
    at spelled run day judged ⊢
  have account := spelled.account
  exact {
    session := by rw [account]
    log := by rw [account]
    last := by rw [account]
    day := by rw [account]
    balances := by rw [account]
    queue := by rw [account]
    settings := spelled.settings
    fleet := spelled.fleet
    clock := spelled.clock
    consoles := spelled.consoles
    booths := spelled.booths
    carriers := by rw [spelled.air]
    waiting := by rw [spelled.air]
    peak := by rw [spelled.air]; rfl
    served := fun c => by rw [run, judged.serves]; rfl
    outage := fun c => by rw [run, judged.lacks]; rfl
    onAirDay := fun c => by rw [day, judged.serves]; rfl
    outageDay := fun c => by rw [day, judged.lacks]; rfl
    demand := spelled.demand
    service := spelled.service
    peaks := spelled.peak }

theorem judged_peaksSet : Judged h (peaksSet h) := by
  have service (c : ChannelId) : (peaksSet h).channels[c].service = h.channels[c].service := by
    unfold peaksSet
    rw [vtab_get]
  have rest : ∃ v, peaksSet h = { h with channels := v, air := { h.air with peak := h.inUse } } := ⟨_, rfl⟩
  obtain ⟨v, rest⟩ := rest
  generalize peaksSet h = k at service rest
  exact ⟨by rw [rest], by rw [rest], by rw [rest], by rw [rest], service, by rw [rest]⟩

theorem peaksSet_channel (c : ChannelId) : (peaksSet h).channels[c] = { h.channels[c] with peak := h.channels[c].demand } := by
  unfold peaksSet
  rw [vtab_get]

variable {h} in
/-- The peaks cleared behind a session's begin (R16, R93). -/
theorem SessionMoved.peaksCleared {v : Session} {log : List Interval} {last : Nat} {k : Hall}
    (p : SessionMoved h v log last false k) : SessionMoved h v log last true (peaksSet k) := by
  have run := peaksSet_channel k
  have judged := judged_peaksSet k
  have rest : ∃ w, peaksSet k = { k with channels := w, air := { k.air with peak := k.inUse } } := ⟨_, rfl⟩
  obtain ⟨w, rest⟩ := rest
  generalize peaksSet k = g at run judged rest ⊢
  have account : g.account = k.account := by rw [rest]
  exact {
    session := by rw [account]; exact p.session
    log := by rw [account]; exact p.log
    last := by rw [account]; exact p.last
    day := by rw [account]; exact p.day
    balances := by rw [account]; exact p.balances
    queue := by rw [account]; exact p.queue
    settings := by rw [rest]; exact p.settings
    fleet := by rw [rest]; exact p.fleet
    clock := by rw [rest]; exact p.clock
    consoles := by rw [rest]; exact p.consoles
    booths := by rw [rest]; exact p.booths
    carriers := by rw [rest]; exact p.carriers
    waiting := by rw [rest]; exact p.waiting
    peak := by rw [rest]; exact inUse_congr p.carriers
    served := fun c => by rw [run, judged.serves]; exact p.served c
    outage := fun c => by rw [run, judged.lacks]; exact p.outage c
    onAirDay := fun c => by rw [account, judged.serves]; exact p.onAirDay c
    outageDay := fun c => by rw [account, judged.lacks]; exact p.outageDay c
    demand := fun c => by rw [run]; exact p.demand c
    service := fun c => by rw [run]; exact p.service c
    peaks := fun c => by rw [run]; exact p.demand c }

theorem sessionMoved_startSession (c : CentreId) : SessionMoved h (.running (h.account.lastSession + 1) c)
    (h.account.log ++ [⟨h.account.lastSession + 1, c, h.now, none⟩]) (h.account.lastSession + 1) true (startSession c h) := by
  rw [startSession_eq]
  exact (sessionMoved_setSession h _ _ _).peaksCleared

/-- The log with its open interval ended now (R138). -/
def endedLog (h : Hall) : List Interval :=
  h.account.log.map fun v => if v.finish = none then { v with finish := some h.clock.minute } else v

theorem endInterval_eq : endInterval h.now h.account.log = endedLog h := by
  unfold endInterval endedLog
  refine List.map_congr_left fun v _ => ?_
  rw [if_congr Option.isNone_iff_eq_none rfl rfl]
  rfl

end

/-! ### The four orders -/

section
variable {s : State}

theorem openSession_taken (p : s.ready) {c : CentreId} (nonzero : c ≠ 0) : openSession (.val c.val) s.opened = tested
    [(!s.hall.dayOpen || s.hall.account.session != .none, .state), (s.hall.logFull, .full)] s.opened
    (.wait onlyAccount (.ok (.session (s.hall.account.lastSession + 1)) []) { s.opened with hall := startSession c s.hall }) := by
  have low : 1 ≤ c.val := by
    have := Fin.val_ne_of_ne nonzero
    simp at this
    omega
  have high : c.val ≤ 15 := by omega
  have same : Fin.ofNat 16 c.val = c := Fin.ofNat_val_eq_self c
  unfold openSession
  rw [needNat_in low high]
  dsimp only
  rw [tested_passes (ready_pfw p), same]
  rfl

end

section
variable {s : State} {n : Nat} {c : CentreId}

theorem suspendSession_running (p : s.ready) (running : s.hall.account.session = .running n c) : suspendSession s.opened =
    .wait onlyAccount (.ok .plain []) { s.opened with
      hall := setSession (.suspended n c) (endedLog s.hall) s.hall.account.lastSession s.hall } := by
  have session : s.opened.hall.account.session = .running n c := running
  unfold suspendSession
  dsimp only
  rw [ready_pfw p, if_neg nofun, session]
  dsimp only
  rw [show s.opened.hall = s.hall from rfl, endInterval_eq]

theorem suspendSession_refused (p : s.ready) (other : ∀ n c, s.hall.account.session ≠ .running n c) :
    suspendSession s.opened = refuse .state s.opened := by
  unfold suspendSession
  dsimp only
  rw [ready_pfw p, if_neg nofun]
  split
  · next n c e => exact absurd e (other n c)
  · rfl

theorem resumeSession_suspended (p : s.ready) (suspended : s.hall.account.session = .suspended n c) : resumeSession s.opened =
    tested [(s.hall.logFull, .full)] s.opened (.wait onlyAccount (.ok .plain []) { s.opened with
      hall := setSession (.running n c) (s.hall.account.log ++ [⟨n, c, s.hall.now, none⟩])
        s.hall.account.lastSession s.hall }) := by
  have session : s.opened.hall.account.session = .suspended n c := suspended
  unfold resumeSession
  dsimp only
  rw [ready_pfw p, if_neg nofun, session, tested_cons]
  rfl

theorem resumeSession_refused (p : s.ready) (other : ∀ n c, s.hall.account.session ≠ .suspended n c) :
    resumeSession s.opened = refuse .state s.opened := by
  unfold resumeSession
  dsimp only
  rw [ready_pfw p, if_neg nofun]
  split
  · next n c e => exact absurd e (other n c)
  · rfl

theorem endSession_ends (p : s.ready) (present : s.hall.account.session ≠ .none) : endSession s.opened =
    .wait onlyAccount (.ok .plain []) { s.opened with
      hall := setSession .none (endedLog s.hall) s.hall.account.lastSession s.hall } := by
  unfold endSession
  dsimp only
  rw [ready_pfw p, if_neg nofun]
  split
  · next e => exact absurd e present
  · rw [show s.opened.hall = s.hall from rfl, endInterval_eq]

theorem endSession_refused (p : s.ready) (none : s.hall.account.session = .none) :
    endSession s.opened = refuse .state s.opened := by
  have session : s.opened.hall.account.session = .none := none
  unfold endSession
  dsimp only
  rw [ready_pfw p, if_neg nofun, session]

end

/-- Settles O31: each order sets the session and its log, or is refused by the state it finds. -/
theorem sessionOrders : Obligations.SessionOrders := by
  intro s tag p h a now ended refused moves
  have moving {i : Instr} {r : Reply} {v : Session} {log : List Interval} {last : Nat} {peaks : Bool} {k : Hall}
      (moved : SessionMoved h v log last peaks k) (waits : s.answerWaits i tag onlyAccount (.ok r []) k) :
      moves i r v log last peaks :=
    ⟨k, waits, moved.session, moved.log, moved.last, moved.day, moved.balances, moved.queue, moved.settings, moved.fleet,
      moved.clock, moved.consoles, moved.booths, moved.carriers, moved.waiting, moved.peak, fun c =>
        ⟨moved.served c, moved.outage c, moved.onAirDay c, moved.outageDay c, moved.demand c, moved.service c, moved.peaks c⟩⟩
  refine ⟨fun c nonzero => ?_, fun x => ⟨fun out => refused_of p.1 rfl ?_, fun bad => refused_of p.1 rfl ?_⟩, ?_⟩
  · intro i
    refine ifElse_tested (openSession_taken p nonzero) ?_ (fun e => refused_of p.1 rfl e) fun test => ?_
    · rw [Bool.or_eq_true, Bool.not_eq_true', bne_iff_ne]
      exact Iff.rfl
    refine ifElse_tested test ?_ (fun e => refused_of p.1 rfl e) fun test => ?_
    · exact decide_eq_true_iff
    exact moving (sessionMoved_startSession h c) (answerWaits_of p.1 rfl test)
  · unfold openSession
    rw [needNat_outOf out]
  · unfold openSession
    rw [bad, needNat]
  · have suspending {n : Nat} {c : CentreId} (running : h.account.session = .running n c) :
        moves (.suspendSession tag) .plain (.suspended n c) ended a.lastSession false :=
      moving (sessionMoved_setSession h (.suspended n c) ended a.lastSession)
        (answerWaits_of p.1 rfl (suspendSession_running p running))
    have ending (present : h.account.session ≠ .none) : moves (.endSession tag) .plain .none ended a.lastSession false :=
      moving (sessionMoved_setSession h .none ended a.lastSession) (answerWaits_of p.1 rfl (endSession_ends p present))
    have notRunning (other : ∀ n c, h.account.session ≠ .running n c) : refused (.suspendSession tag) .state :=
      refused_of p.1 rfl (suspendSession_refused p other)
    have notSuspended (other : ∀ n c, h.account.session ≠ .suspended n c) : refused (.resumeSession tag) .state :=
      refused_of p.1 rfl (resumeSession_refused p other)
    have notPresent (none : h.account.session = .none) : refused (.endSession tag) .state :=
      refused_of p.1 rfl (endSession_refused p none)
    have resuming {n : Nat} {c : CentreId} (suspended : h.account.session = .suspended n c) :
        ifElse (64 ≤ a.log.length) (refused (.resumeSession tag) .full)
          (moves (.resumeSession tag) .plain (.running n c) (a.log ++ [⟨n, c, now, none⟩]) a.lastSession false) :=
      ifElse_tested (resumeSession_suspended p suspended) decide_eq_true_iff (fun e => refused_of p.1 rfl e) fun e =>
        moving (sessionMoved_setSession h (.running n c) (a.log ++ [⟨n, c, now, none⟩]) a.lastSession) (answerWaits_of p.1 rfl e)
    clear_value refused moves
    split
    · next none =>
      exact ⟨notRunning (by rw [none]; nofun), notSuspended (by rw [none]; nofun), notPresent none⟩
    · next n c running =>
      exact ⟨suspending running, notSuspended (by rw [running]; nofun), ending (by rw [running]; nofun)⟩
    · next n c suspended =>
      exact ⟨notRunning (by rw [suspended]; nofun), resuming suspended, ending (by rw [suspended]; nofun)⟩

end Sys2Proof.StepProofs
end

-- ==== Proofs: Minutes ====
section
/-! PROOFS. The live spells of consoles and the fallback spells of booths, settled one after another: ended at the day's
close, or brought up to now (R38, R39, R74, R75). -/

namespace Sys2Proof.StepProofs

open Machine

/-- Entries set one after another, each once, each from what stood at the beginning. -/
theorem foldl_cells {n : Nat} {β : Type} {f : Hall → Fin n → Hall} {cell new : Hall → Fin n → β}
    (one : ∀ h a x, cell (f h a) x = if x ∈ [a] then new h x else cell h x)
    (stands : ∀ h a x, x ≠ a → new (f h a) x = new h x) {l : List (Fin n)} (once : l.Nodup) (h : Hall) (x : Fin n) :
    cell (l.foldl f h) x = if x ∈ l then new h x else cell h x := by
  induction l generalizing h with
  | nil => rfl
  | cons a l ih =>
    obtain ⟨first, once⟩ := List.nodup_cons.mp once
    rw [List.foldl_cons, ih once, one]
    by_cases e : x = a
    · have out : x ∉ l := by rw [e]; exact first
      rw [if_neg out, if_pos (List.mem_singleton.mpr e), if_pos (List.mem_cons.mpr (.inl e))]
    · have mem : x ∈ a :: l ↔ x ∈ l := ⟨fun m => (List.mem_cons.mp m).resolve_left e, .tail _⟩
      rw [stands h a x e, if_neg fun m => e (List.mem_singleton.mp m), if_congr mem rfl rfl]

/-! ### Live spells -/

/-- The spells of the consoles of `l` settled: `g` is what it makes of a console's record, its minutes are counted in its
own total and in its booth's. -/
structure LiveSettled (g : ConsoleRun → ConsoleRun) (l : List ConsoleId) (h k : Hall) : Prop where
  eq : k = { h with
    account := { h.account with booths := k.account.booths, consoleLive := k.account.consoleLive }
    consoles := k.consoles
    work := { h.work with asks := k.work.asks } }
  console : ∀ x : ConsoleId, k.consoles[x] = if x ∈ l then g h.consoles[x] else h.consoles[x]
  live : ∀ x : ConsoleId, k.account.consoleLive[x] = if x ∈ l then h.consoleLiveMinutes x else h.account.consoleLive[x]
  booth : ∀ b : BoothId, k.account.booths[b] = { h.account.booths[b] with
    live := (l.filter fun a => h.settings.consoleBooth[a] == some b).foldl (fun n a => asOf h.consoles[a].liveSince n h.now)
      h.account.booths[b].live }

theorem LiveSettled.settings {g : ConsoleRun → ConsoleRun} {l : List ConsoleId} {h k : Hall} (p : LiveSettled g l h k) :
    k.settings = h.settings := by rw [p.eq]

theorem LiveSettled.clock {g : ConsoleRun → ConsoleRun} {l : List ConsoleId} {h k : Hall} (p : LiveSettled g l h k) :
    k.clock = h.clock := by rw [p.eq]

/-- `k` is `h` but for the records of consoles and the live minutes. -/
def LiveMoved (h k : Hall) : Prop := k = { h with
  account := { h.account with booths := k.account.booths, consoleLive := k.account.consoleLive }
  consoles := k.consoles
  work := { h.work with asks := k.work.asks } }

theorem LiveMoved.trans {h k l : Hall} (p : LiveMoved h k) (q : LiveMoved k l) : LiveMoved h l := by
  unfold LiveMoved at *
  rw [q, p]

/-- Consoles settled one after another, each once. -/
theorem foldl_liveSettled {g : Clock → ConsoleRun → ConsoleRun} {f : Hall → ConsoleId → Hall}
    (one : ∀ h a, LiveSettled (g h.clock) [a] h (f h a)) {l : List ConsoleId} (once : l.Nodup) (h : Hall) :
    LiveSettled (g h.clock) l h (l.foldl f h) where
  eq := foldl_keeps (R := LiveMoved) (fun _ => rfl) LiveMoved.trans (fun h a => (one h a).eq) l h
  console := foldl_cells (cell := fun h x => h.consoles[x]) (new := fun h x => g h.clock h.consoles[x])
    (fun h a => (one h a).console) (fun h a x ne => by
      rw [(one h a).clock, (one h a).console, if_neg fun m => ne (List.mem_singleton.mp m)]) once h
  live := foldl_cells (cell := fun h x => h.account.consoleLive[x]) (new := fun h x => h.consoleLiveMinutes x)
    (fun h a => (one h a).live) (fun h a x ne => by
      unfold Hall.consoleLiveMinutes Hall.now
      rw [(one h a).clock, (one h a).console, (one h a).live, if_neg fun m => ne (List.mem_singleton.mp m),
        if_neg fun m => ne (List.mem_singleton.mp m)]) once h
  booth b := by
    induction l generalizing h with
    | nil => rfl
    | cons a l ih =>
      obtain ⟨new, once⟩ := List.nodup_cons.mp once
      have first := one h a
      have rest := ih once (f h a)
      rw [List.foldl_cons, rest]
      generalize f h a = j at first
      have now : j.now = h.now := congrArg Clock.minute first.clock
      have later (n : Nat) : (l.filter fun a => j.settings.consoleBooth[a] == some b).foldl
          (fun n a => asOf j.consoles[a].liveSince n j.now) n =
          (l.filter fun a => h.settings.consoleBooth[a] == some b).foldl
            (fun n a => asOf h.consoles[a].liveSince n h.now) n := by
        rw [first.settings, now]
        refine List.foldl_ext _ _ _ fun m x mem => ?_
        have other : x ≠ a := fun e => new (e ▸ (List.mem_filter.mp mem).1)
        rw [first.console, if_neg fun m => other (List.mem_singleton.mp m)]
      rw [later, first.booth, List.filter_cons, List.filter_cons]
      split <;> rfl

/-! ### Fallback spells -/

/-- The fallback spells of the booths of `l` settled: `g` is what it makes of a booth's record, its minutes are counted. -/
structure FallbackSettled (g : BoothRun → BoothRun) (l : List BoothId) (h k : Hall) : Prop where
  eq : k = { h with
    account := { h.account with booths := k.account.booths }
    booths := k.booths
    work := { h.work with asks := k.work.asks } }
  booth : ∀ b : BoothId, k.booths[b] = if b ∈ l then g h.booths[b] else h.booths[b]
  day : ∀ b : BoothId, k.account.booths[b] =
    if b ∈ l then { h.account.booths[b] with fallback := h.fallbackMinutes b } else h.account.booths[b]

theorem FallbackSettled.clock {g : BoothRun → BoothRun} {l : List BoothId} {h k : Hall} (p : FallbackSettled g l h k) :
    k.clock = h.clock := by rw [p.eq]

/-- `k` is `h` but for booths and their minutes. -/
def FallbackMoved (h k : Hall) : Prop := k = { h with
  account := { h.account with booths := k.account.booths }
  booths := k.booths
  work := { h.work with asks := k.work.asks } }

theorem FallbackMoved.trans {h k l : Hall} (p : FallbackMoved h k) (q : FallbackMoved k l) : FallbackMoved h l := by
  unfold FallbackMoved at *
  rw [q, p]

theorem foldl_fallbackSettled {g : Clock → BoothRun → BoothRun} {f : Hall → BoothId → Hall}
    (one : ∀ h b, FallbackSettled (g h.clock) [b] h (f h b)) {l : List BoothId} (once : l.Nodup) (h : Hall) :
    FallbackSettled (g h.clock) l h (l.foldl f h) where
  eq := foldl_keeps (R := FallbackMoved) (fun _ => rfl) FallbackMoved.trans (fun h b => (one h b).eq) l h
  booth := foldl_cells (cell := fun h b => h.booths[b]) (new := fun h b => g h.clock h.booths[b])
    (fun h b => (one h b).booth) (fun h b x ne => by
      rw [(one h b).clock, (one h b).booth, if_neg fun m => ne (List.mem_singleton.mp m)]) once h
  day := foldl_cells (cell := fun h b => h.account.booths[b])
    (new := fun h b => { h.account.booths[b] with fallback := h.fallbackMinutes b })
    (fun h b => (one h b).day) (fun h b x ne => by
      unfold Hall.fallbackMinutes Hall.now
      rw [(one h b).clock, (one h b).booth, (one h b).day, if_neg fun m => ne (List.mem_singleton.mp m),
        if_neg fun m => ne (List.mem_singleton.mp m)]) once h

/-! ### The two ways of settling -/

section
variable {h : Hall} {a : ConsoleId} {b : BoothId} {m : Nat}

/-- One console's record changed and `m` minutes counted to it and to its booth. -/
def liveCounted (a : ConsoleId) (m : Nat) (f : ConsoleRun → ConsoleRun) (h : Hall) : Hall :=
  match h.boothOf a with
  | some b => ((h.modConsole a f).addConsoleLive a m).modBoothDay b fun d => { d with live := satCount (d.live + m) }
  | none => (h.modConsole a f).addConsoleLive a m

theorem liveSettled_counted (since : h.consoles[a].liveSince = some m) (f : ConsoleRun → ConsoleRun) :
    LiveSettled f [a] h (liveCounted a (h.now - m) f h) := by
  have single (x : ConsoleId) : x ∈ [a] ↔ a = x := by rw [List.mem_singleton, eq_comm]
  have console (x : ConsoleId) : (vmod h.consoles a f)[x] = if x ∈ [a] then f h.consoles[x] else h.consoles[x] := by
    rw [vmod_get, if_congr (single x) rfl rfl]
  have live (x : ConsoleId) : (vmod h.account.consoleLive a fun n => satCount (n + (h.now - m)))[x] =
      if x ∈ [a] then h.consoleLiveMinutes x else h.account.consoleLive[x] := by
    rw [vmod_get, if_congr (single x) rfl rfl]
    by_cases e : a = x
    · rw [if_pos e, if_pos e, ← e]
      unfold Hall.consoleLiveMinutes
      rw [since]
      rfl
    · rw [if_neg e, if_neg e]
  unfold liveCounted
  cases assigned : h.boothOf a with
  | none =>
    have nowhere (b : BoothId) : ([a].filter fun x => h.settings.consoleBooth[x] == some b) = [] := by
      rw [List.filter_cons, show h.settings.consoleBooth[a] = none from assigned]
      rfl
    exact ⟨rfl, console, live, fun b => by rw [nowhere]; rfl⟩
  | some b =>
    refine ⟨rfl, console, live, fun x => ?_⟩
    show (vmod h.account.booths b _)[x] = _
    rw [vmod_get, List.filter_cons, show h.settings.consoleBooth[a] = some b from assigned]
    by_cases e : b = x
    · rw [if_pos e, if_pos (by rw [e]; exact beq_self_eq_true _)]
      show _ = { h.account.booths[x] with live := asOf h.consoles[a].liveSince h.account.booths[x].live h.now }
      rw [since]
      rfl
    · rw [if_neg e, if_neg (by rw [beq_iff_eq, Option.some.injEq]; exact e)]
      rfl

theorem liveSettled_none (since : h.consoles[a].liveSince = none) {f : ConsoleRun → ConsoleRun}
    (same : f h.consoles[a] = h.consoles[a]) : LiveSettled f [a] h h := by
  refine ⟨rfl, fun x => ?_, fun x => ?_, fun b => ?_⟩
  · split
    · next mem => rw [List.mem_singleton.mp mem, same]
    · rfl
  · split
    · next mem =>
      rw [List.mem_singleton.mp mem]
      unfold Hall.consoleLiveMinutes
      rw [since]
      rfl
    · rfl
  · rw [List.filter_cons]
    split
    · show _ = { h.account.booths[b] with live := asOf h.consoles[a].liveSince h.account.booths[b].live h.now }
      rw [since]
      rfl
    · rfl

theorem LiveSettled.asked {g : ConsoleRun → ConsoleRun} {l : List ConsoleId} {k : Hall} (p : LiveSettled g l h k) (x : AreaSet) :
    LiveSettled g l h (k.ask x) where
  eq := by
    show { k with work := { k.work with asks := k.work.asks ++ [x] } } = _
    rw [p.eq]
    rfl
  console := p.console
  live := p.live
  booth := p.booth

theorem liveSettled_askChanged {g : ConsoleRun → ConsoleRun} {l : List ConsoleId} {k : Hall} (p : LiveSettled g l h k) :
    LiveSettled g l h (askChanged h k) := by
  unfold askChanged
  split
  · exact p
  · exact p.asked _

/-- A console's live spell over. -/
def liveEnded (r : ConsoleRun) : ConsoleRun := { r with liveSince := none }

/-- A console's live spell, where one is open, open from now. -/
def liveFrom (now : Nat) (r : ConsoleRun) : ConsoleRun := { r with liveSince := r.liveSince.map fun _ => now }

theorem liveSettled_endLiveSpell (h : Hall) (a : ConsoleId) : LiveSettled liveEnded [a] h (endLiveSpell a h) := by
  cases since : h.consoles[a].liveSince with
  | none =>
    rw [show endLiveSpell a h = h by unfold endLiveSpell; rw [since]]
    refine liveSettled_none since ?_
    unfold liveEnded
    rw [← since]
  | some m =>
    have ended : endLiveSpell a h = (liveCounted a (h.now - m) liveEnded h).ask onlyAccount := by
      unfold endLiveSpell
      rw [since]
      rfl
    rw [ended]
    exact (liveSettled_counted since liveEnded).asked _

theorem liveSettled_bringUpLive (h : Hall) (a : ConsoleId) : LiveSettled (liveFrom h.clock.minute) [a] h (bringUpLive h a) := by
  cases since : h.consoles[a].liveSince with
  | none =>
    rw [show bringUpLive h a = h by unfold bringUpLive; rw [since]]
    refine liveSettled_none since ?_
    unfold liveFrom
    rw [since, Option.map_none, ← since]
  | some m =>
    have counted := liveSettled_counted since (liveFrom h.clock.minute)
    have brought : bringUpLive h a = askChanged h (liveCounted a (h.now - m) (fun r => { r with liveSince := some h.now }) h) := by
      unfold bringUpLive
      rw [since]
      rfl
    have same : liveCounted a (h.now - m) (fun r => { r with liveSince := some h.now }) h =
        liveCounted a (h.now - m) (liveFrom h.clock.minute) h := by
      have cell : (h.modConsole a fun r => { r with liveSince := some h.now }) = h.modConsole a (liveFrom h.clock.minute) := by
        refine congrArg (fun v => ({ h with consoles := v } : Hall)) (congrArg (vset h.consoles a) ?_)
        unfold liveFrom
        rw [since]
        rfl
      unfold liveCounted
      rw [cell]
    rw [brought, same]
    exact liveSettled_askChanged counted

/-! ### One booth's fallback spell -/

theorem FallbackSettled.asked {g : BoothRun → BoothRun} {l : List BoothId} {k : Hall} (p : FallbackSettled g l h k) (x : AreaSet) :
    FallbackSettled g l h (k.ask x) where
  eq := by
    show { k with work := { k.work with asks := k.work.asks ++ [x] } } = _
    rw [p.eq]
    rfl
  booth := p.booth
  day := p.day

/-- A booth's record changed and `m` minutes of fallback counted to it. -/
def fallbackCounted (b : BoothId) (m : Nat) (f : BoothRun → BoothRun) (h : Hall) : Hall :=
  (h.modBooth b f).modBoothDay b fun d => { d with fallback := satCount (d.fallback + m) }

theorem fallbackSettled_counted (since : h.booths[b].fallbackSince = some m) (f : BoothRun → BoothRun) :
    FallbackSettled f [b] h (fallbackCounted b (h.now - m) f h) := by
  have single (x : BoothId) : x ∈ [b] ↔ b = x := by rw [List.mem_singleton, eq_comm]
  refine ⟨rfl, fun x => ?_, fun x => ?_⟩
  · show (vmod h.booths b f)[x] = _
    rw [vmod_get, if_congr (single x) rfl rfl]
  · show (vmod h.account.booths b _)[x] = _
    rw [vmod_get, if_congr (single x) rfl rfl]
    by_cases e : b = x
    · rw [if_pos e, if_pos e, ← e]
      unfold Hall.fallbackMinutes
      rw [since]
      rfl
    · rw [if_neg e, if_neg e]

theorem fallbackSettled_none (since : h.booths[b].fallbackSince = none) {f : BoothRun → BoothRun}
    (same : f h.booths[b] = h.booths[b]) : FallbackSettled f [b] h h := by
  refine ⟨rfl, fun x => ?_, fun x => ?_⟩
  · split
    · next mem => rw [List.mem_singleton.mp mem, same]
    · rfl
  · split
    · next mem =>
      rw [List.mem_singleton.mp mem]
      unfold Hall.fallbackMinutes
      rw [since]
      rfl
    · rfl

/-- A booth's fallback spell over. -/
def fallbackEnded (r : BoothRun) : BoothRun := { r with fallbackSince := none }

/-- A booth's fallback spell, where one is open, open from now. -/
def fallbackFrom (now : Nat) (r : BoothRun) : BoothRun := { r with fallbackSince := r.fallbackSince.map fun _ => now }

theorem fallbackSettled_endFallbackSpell (h : Hall) (b : BoothId) :
    FallbackSettled fallbackEnded [b] h (endFallbackSpell b h) := by
  cases since : h.booths[b].fallbackSince with
  | none =>
    rw [show endFallbackSpell b h = h by unfold endFallbackSpell; rw [since]]
    refine fallbackSettled_none since ?_
    unfold fallbackEnded
    rw [← since]
  | some m =>
    have ended : endFallbackSpell b h = (fallbackCounted b (h.now - m) fallbackEnded h).ask onlyAccount := by
      unfold endFallbackSpell
      rw [since]
      rfl
    rw [ended]
    exact (fallbackSettled_counted since fallbackEnded).asked _

theorem fallbackSettled_bringUpFallback (h : Hall) (b : BoothId) :
    FallbackSettled (fallbackFrom h.clock.minute) [b] h (bringUpFallback h b) := by
  cases since : h.booths[b].fallbackSince with
  | none =>
    rw [show bringUpFallback h b = h by unfold bringUpFallback; rw [since]]
    refine fallbackSettled_none since ?_
    unfold fallbackFrom
    rw [since, Option.map_none, ← since]
  | some m =>
    have counted := fallbackSettled_counted since (fallbackFrom h.clock.minute)
    have brought : bringUpFallback h b = askChanged h (fallbackCounted b (h.now - m) (fallbackFrom h.clock.minute) h) := by
      have cell : (h.modBooth b fun r => { r with fallbackSince := some h.now }) = h.modBooth b (fallbackFrom h.clock.minute) := by
        refine congrArg (fun v => ({ h with booths := v } : Hall)) (congrArg (vset h.booths b) ?_)
        unfold fallbackFrom
        rw [since]
        rfl
      unfold bringUpFallback fallbackCounted
      rw [since, ← cell]
    rw [brought]
    unfold askChanged
    split
    · exact counted
    · exact counted.asked _

end

/-! ### Every open spell brought up to now (R17, R39, R75) -/

/-- A channel's spells, where they are open, open from `now`. -/
def spellsFrom (now : Nat) (r : ChannelRun) : ChannelRun :=
  { r with
    outageSince := r.outageSince.map fun _ => now
    servedSince := r.servedSince.map fun _ => now
    fillSince := r.fillSince.map fun _ => now }

/-- The spells of the channels of `l` brought up to now, their minutes counted. -/
structure ChannelsBrought (l : List ChannelId) (h k : Hall) : Prop where
  eq : k = { h with
    account := { h.account with channels := k.account.channels }
    channels := k.channels
    work := { h.work with asks := k.work.asks } }
  channel : ∀ c : ChannelId, k.channels[c] = if c ∈ l then spellsFrom h.clock.minute h.channels[c] else h.channels[c]
  day : ∀ c : ChannelId, k.account.channels[c] =
    if c ∈ l then ⟨h.outage c, h.onAirMinutes c, h.fillMinutes c⟩ else h.account.channels[c]

theorem ChannelsBrought.clock {l : List ChannelId} {h k : Hall} (p : ChannelsBrought l h k) : k.clock = h.clock := by rw [p.eq]

theorem channelsBrought_one (h : Hall) (a : ChannelId) : ChannelsBrought [a] h (h.bringUpChannel a) := by
  have brought : ∃ asks, h.bringUpChannel a = { h with
      account := { h.account with channels := vmod h.account.channels a fun _ => ⟨h.outage a, h.onAirMinutes a, h.fillMinutes a⟩ }
      channels := vmod h.channels a fun r => { r with
        outageSince := h.channels[a].outageSince.map fun _ => h.now
        servedSince := h.channels[a].servedSince.map fun _ => h.now
        fillSince := h.channels[a].fillSince.map fun _ => h.now }
      work := { h.work with asks := asks } } := by
    unfold Hall.bringUpChannel
    dsimp only
    split
    · exact ⟨h.work.asks, rfl⟩
    · exact ⟨h.work.asks ++ [onlyAccount], rfl⟩
  obtain ⟨asks, brought⟩ := brought
  rw [brought]
  have single (x : ChannelId) : x ∈ [a] ↔ a = x := by rw [List.mem_singleton, eq_comm]
  refine ⟨rfl, fun c => ?_, fun c => ?_⟩
  · show (vmod h.channels a _)[c] = _
    rw [vmod_get, if_congr (single c) rfl rfl]
    by_cases e : a = c
    · rw [if_pos e, if_pos e, ← e]
      rfl
    · rw [if_neg e, if_neg e]
  · show (vmod h.account.channels a _)[c] = _
    rw [vmod_get, if_congr (single c) rfl rfl]
    by_cases e : a = c
    · rw [if_pos e, if_pos e, ← e]
    · rw [if_neg e, if_neg e]

/-- `k` is `h` but for the spells of channels and their minutes. -/
def ChannelsMoved (h k : Hall) : Prop := k = { h with
  account := { h.account with channels := k.account.channels }
  channels := k.channels
  work := { h.work with asks := k.work.asks } }

theorem ChannelsMoved.trans {h k l : Hall} (p : ChannelsMoved h k) (q : ChannelsMoved k l) : ChannelsMoved h l := by
  unfold ChannelsMoved at *
  rw [q, p]

theorem foldl_channelsBrought {l : List ChannelId} (once : l.Nodup) (h : Hall) :
    ChannelsBrought l h (l.foldl Hall.bringUpChannel h) where
  eq := foldl_keeps (R := ChannelsMoved) (fun _ => rfl) ChannelsMoved.trans (fun h c => (channelsBrought_one h c).eq) l h
  channel := foldl_cells (cell := fun h c => h.channels[c]) (new := fun h c => spellsFrom h.clock.minute h.channels[c])
    (fun h c => (channelsBrought_one h c).channel) (fun h a c ne => by
      rw [(channelsBrought_one h a).clock, (channelsBrought_one h a).channel, if_neg fun m => ne (List.mem_singleton.mp m)])
    once h
  day := foldl_cells (cell := fun h c => h.account.channels[c])
    (new := fun h c => ⟨h.outage c, h.onAirMinutes c, h.fillMinutes c⟩) (fun h c => (channelsBrought_one h c).day)
    (fun h a c ne => by
      have other : c ∉ [a] := fun m => ne (List.mem_singleton.mp m)
      have run := ((channelsBrought_one h a).channel c).trans (if_neg other)
      have day := ((channelsBrought_one h a).day c).trans (if_neg other)
      have now : (h.bringUpChannel a).now = h.now := congrArg Clock.minute (channelsBrought_one h a).clock
      have stands : SpellsStand c h (h.bringUpChannel a) := ⟨by rw [run], by rw [run], by rw [run], day, now⟩
      rw [stands.outageMinutes, stands.onAirMinutes, stands.fillMinutes]) once h

/-- Every open spell brought up to now: open from now, with its minutes counted. -/
structure BroughtUp (h k : Hall) : Prop where
  eq : k = { h with
    account := { h.account with
      channels := k.account.channels, booths := k.account.booths, consoleLive := k.account.consoleLive }
    channels := k.channels
    consoles := k.consoles
    booths := k.booths
    work := { h.work with asks := k.work.asks } }
  channel : ∀ c : ChannelId, k.channels[c] = spellsFrom h.clock.minute h.channels[c]
  day : ∀ c : ChannelId, k.account.channels[c] = ⟨h.outage c, h.onAirMinutes c, h.fillMinutes c⟩
  console : ∀ x : ConsoleId, k.consoles[x] = liveFrom h.clock.minute h.consoles[x]
  live : ∀ x : ConsoleId, k.account.consoleLive[x] = h.consoleLiveMinutes x
  booth : ∀ b : BoothId, k.booths[b] = fallbackFrom h.clock.minute h.booths[b]
  boothDay : ∀ b : BoothId, k.account.booths[b] =
    { h.account.booths[b] with live := h.boothLiveMinutes b, fallback := h.fallbackMinutes b }

theorem broughtUp_bringUpSpells (h : Hall) : BroughtUp h (bringUpSpells h) := by
  have channels := foldl_channelsBrought (ChargeProofs.nodup_ids (n := 32)) h
  have consoles := foldl_liveSettled (g := fun c => liveFrom c.minute) liveSettled_bringUpLive (ChargeProofs.nodup_ids (n := 48))
    h.bringUpChannels
  have booths := foldl_fallbackSettled (g := fun c => fallbackFrom c.minute) fallbackSettled_bringUpFallback
    (ChargeProofs.nodup_ids (n := 16)) ((ids 48).foldl bringUpLive h.bringUpChannels)
  unfold bringUpSpells
  generalize (ids 16).foldl bringUpFallback ((ids 48).foldl bringUpLive h.bringUpChannels) = k at booths ⊢
  generalize (ids 48).foldl bringUpLive h.bringUpChannels = j at consoles booths
  unfold Hall.bringUpChannels at consoles
  generalize (ids 32).foldl Hall.bringUpChannel h = i at channels consoles
  have clock : i.clock = h.clock := by rw [channels.eq]
  have clock' : j.clock = h.clock := consoles.clock.trans clock
  have now : i.now = h.now := congrArg Clock.minute clock
  have now' : j.now = h.now := congrArg Clock.minute clock'
  have settings : i.settings = h.settings := by rw [channels.eq]
  have records : i.consoles = h.consoles := by rw [channels.eq]
  have totals : i.account.consoleLive = h.account.consoleLive := by rw [channels.eq]
  have boothRuns : j.booths = h.booths := by rw [consoles.eq, channels.eq]
  have boothDays : i.account.booths = h.account.booths := by rw [channels.eq]
  have runs : k.channels = i.channels := by rw [booths.eq, consoles.eq]
  have days : k.account.channels = i.account.channels := by rw [booths.eq, consoles.eq]
  have spoken (x : ConsoleId) : j.account.consoleLive[x] = h.consoleLiveMinutes x := by
    rw [consoles.live, if_pos (mem_ids x)]
    unfold Hall.consoleLiveMinutes
    rw [records, totals, now]
  have boothSpoken (b : BoothId) : j.account.booths[b] = { h.account.booths[b] with live := h.boothLiveMinutes b } := by
    rw [consoles.booth, settings, records, boothDays, now]
    rfl
  refine ⟨?_, fun c => ?_, fun c => ?_, fun x => ?_, fun x => ?_, fun b => ?_, fun b => ?_⟩
  · rw [booths.eq, consoles.eq, channels.eq]
  · rw [runs, channels.channel, if_pos (mem_ids c)]
  · rw [days, channels.day, if_pos (mem_ids c)]
  · rw [show k.consoles = j.consoles by rw [booths.eq], consoles.console, if_pos (mem_ids x), records, clock]
  · rw [show k.account.consoleLive = j.account.consoleLive by rw [booths.eq], spoken]
  · rw [booths.booth, if_pos (mem_ids b), boothRuns, clock']
  · have minutes : j.fallbackMinutes b = h.fallbackMinutes b := by
      unfold Hall.fallbackMinutes
      rw [boothRuns, boothSpoken, now']
    rw [booths.day, if_pos (mem_ids b), boothSpoken, minutes]

/-! ### The figures as of now, brought up -/

theorem asOf_brought (since : Option Nat) (total now m : Nat) :
    asOf (since.map fun _ => m) (asOf since total now) m = asOf since total now := by
  cases since with
  | none => rfl
  | some x =>
    show satCount (satCount (total + (now - x)) + (m - m)) = satCount (total + (now - x))
    rw [Nat.sub_self, Nat.add_zero]
    exact Nat.min_eq_left (Nat.min_le_right ..)

section
variable {since : ConsoleId → Option Nat} {now : Nat}

theorem foldl_asOf_le (l : List ConsoleId) {n : Nat} (bounded : n ≤ 4294967295) :
    l.foldl (fun n a => asOf (since a) n now) n ≤ 4294967295 :=
  List.foldlRecOn (motive := fun n => n ≤ 4294967295) l _ bounded fun _ p _ _ => asOf_le p

/-- Where a spell of the list is open the sum has been cut to its range. -/
theorem foldl_asOf_cut {l : List ConsoleId} {a : ConsoleId} (mem : a ∈ l) (open_ : since a ≠ none) (n : Nat) :
    l.foldl (fun n a => asOf (since a) n now) n ≤ 4294967295 := by
  induction l generalizing n with
  | nil => cases mem
  | cons x l ih =>
    rw [List.foldl_cons]
    rcases List.mem_cons.mp mem with e | mem
    · refine foldl_asOf_le l ?_
      rw [← e]
      cases h : since a with
      | none => exact absurd h open_
      | some m => exact Nat.min_le_right ..
    · exact ih mem _

theorem foldl_asOf_brought (l : List ConsoleId) (n m : Nat) :
    l.foldl (fun n a => asOf ((since a).map fun _ => m) n m) (l.foldl (fun n a => asOf (since a) n now) n) =
      l.foldl (fun n a => asOf (since a) n now) n := by
  generalize sum : l.foldl (fun n a => asOf (since a) n now) n = t
  have fixed : ∀ a ∈ l, asOf ((since a).map fun _ => m) t m = t := by
    intro a mem
    cases open_ : since a with
    | none => rfl
    | some x =>
      have cut := foldl_asOf_cut (since := since) (now := now) mem (by rw [open_]; nofun) n
      rw [sum] at cut
      show satCount (t + (m - m)) = t
      rw [Nat.sub_self, Nat.add_zero]
      exact Nat.min_eq_left cut
  clear sum
  induction l with
  | nil => rfl
  | cons x l ih => rw [List.foldl_cons, fixed x (.head _), ih fun a mem => fixed a (.tail _ mem)]

end

/-- The figures as of now stand behind the bringing up, the minute moved or not: open spells are open from it. -/
structure FiguresStand (h k : Hall) : Prop where
  outage : ∀ c : ChannelId, k.outage c = h.outage c
  onAir : ∀ c : ChannelId, k.onAirMinutes c = h.onAirMinutes c
  fill : ∀ c : ChannelId, k.fillMinutes c = h.fillMinutes c
  live : ∀ a : ConsoleId, k.consoleLiveMinutes a = h.consoleLiveMinutes a
  boothLive : ∀ b : BoothId, k.boothLiveMinutes b = h.boothLiveMinutes b
  fallback : ∀ b : BoothId, k.fallbackMinutes b = h.fallbackMinutes b

/-- What is open from the minute, with the totals brought up, leaves the figures. -/
theorem figuresStand_of {h k : Hall} (settings : k.settings = h.settings)
    (channel : ∀ c : ChannelId, k.channels[c] = spellsFrom k.now h.channels[c])
    (day : ∀ c : ChannelId, k.account.channels[c] = ⟨h.outage c, h.onAirMinutes c, h.fillMinutes c⟩)
    (console : ∀ x : ConsoleId, k.consoles[x].liveSince = h.consoles[x].liveSince.map fun _ => k.now)
    (live : ∀ x : ConsoleId, k.account.consoleLive[x] = h.consoleLiveMinutes x)
    (booth : ∀ b : BoothId, k.booths[b].fallbackSince = h.booths[b].fallbackSince.map fun _ => k.now)
    (boothDay : ∀ b : BoothId, k.account.booths[b] =
      { h.account.booths[b] with live := h.boothLiveMinutes b, fallback := h.fallbackMinutes b }) : FiguresStand h k where
  outage c := by
    unfold Hall.outage
    rw [channel, day]
    exact asOf_brought ..
  onAir c := by
    unfold Hall.onAirMinutes
    rw [channel, day]
    exact asOf_brought ..
  fill c := by
    unfold Hall.fillMinutes
    rw [channel, day]
    exact asOf_brought ..
  live a := by
    unfold Hall.consoleLiveMinutes
    rw [console, live]
    exact asOf_brought ..
  boothLive b := by
    unfold Hall.boothLiveMinutes Hall.consolesOf
    rw [boothDay, settings]
    simp only [console]
    exact foldl_asOf_brought (since := fun a => h.consoles[a].liveSince) ..
  fallback b := by
    unfold Hall.fallbackMinutes
    rw [booth, boothDay]
    exact asOf_brought ..

theorem BroughtUp.figures {h k : Hall} (p : BroughtUp h k) : FiguresStand h k := by
  have clock : k.clock = h.clock := by rw [p.eq]
  have now : k.now = h.clock.minute := congrArg Clock.minute clock
  refine figuresStand_of (by rw [p.eq]) (fun c => ?_) p.day (fun x => ?_) p.live (fun b => ?_) p.boothDay
  · rw [p.channel, now]
  · rw [p.console, now]
    rfl
  · rw [p.booth, now]
    rfl

end Sys2Proof.StepProofs
end

-- ==== Proofs: Day ====
section
/-! PROOFS. OPEN DAY and CLOSE DAY (R18, R38, R74, R135, R136, R154). -/

namespace Sys2Proof.StepProofs

open Machine

/-! ### CLOSE DAY -/

section
variable (h : Hall)

/-- The blocks with the day closed, its spells not yet ended. -/
def dayShut (h : Hall) : Hall := { h with account := { h.account with day := { h.account.day with isOpen := false } } }

theorem fills_closed (c : ChannelId) : (dayShut h).fills c = false := by
  unfold Hall.fills
  rw [show (dayShut h).dayOpen = false from rfl, Bool.and_false]

theorem endDay_does : let k := endDay h
    k.account.day = { h.account.day with isOpen := false } ∧ k.account.session = h.account.session ∧
      k.account.log = h.account.log ∧ k.account.balances = h.account.balances ∧ k.account.queue = h.account.queue ∧
      k.account.seq = h.account.seq ∧ k.settings = h.settings ∧ k.fleet = h.fleet ∧ k.clock = h.clock ∧ k.air = h.air ∧
      (∀ c : ChannelId, k.channels[c].fillSince = none ∧ k.account.channels[c].fill = h.fillMinutes c) ∧
      (∀ x : ConsoleId, k.consoles[x] = { h.consoles[x] with liveSince := none } ∧
        k.account.consoleLive[x] = h.consoleLiveMinutes x) ∧
      (∀ b : BoothId, k.booths[b].fallbackSince = none ∧ k.account.booths[b] =
          { h.account.booths[b] with live := h.boothLiveMinutes b, fallback := h.fallbackMinutes b } ∧
        k.booths[b].owner = h.booths[b].owner) := by
  intro k
  have spelled := spelled_spellsAll (dayShut h)
  have run := spellsAll_channel (dayShut h)
  have day := spellsAll_day (dayShut h)
  have consoles := foldl_liveSettled (g := fun _ => liveEnded) (f := fun h a => endLiveSpell a h) liveSettled_endLiveSpell
    (ChargeProofs.nodup_ids (n := 48)) (dayShut h).spellsAll
  have booths := foldl_fallbackSettled (g := fun _ => fallbackEnded) (f := fun h b => endFallbackSpell b h)
    fallbackSettled_endFallbackSpell (ChargeProofs.nodup_ids (n := 16))
    ((ids 48).foldl (fun h a => endLiveSpell a h) (dayShut h).spellsAll)
  have is : k = (ids 16).foldl (fun h b => endFallbackSpell b h)
    ((ids 48).foldl (fun h a => endLiveSpell a h) (dayShut h).spellsAll) := rfl
  clear_value k
  rw [← is] at booths
  generalize (ids 48).foldl (fun h a => endLiveSpell a h) (dayShut h).spellsAll = j at consoles booths
  generalize (dayShut h).spellsAll = i at spelled run day consoles
  have account : i.account = { (dayShut h).account with channels := i.account.channels } := spelled.account
  have now : i.now = h.now := spelled.now
  have now' : j.now = h.now := (congrArg Clock.minute consoles.clock).trans now
  have boothRuns : j.booths = h.booths := by rw [consoles.eq]; exact spelled.booths
  have spoken (x : ConsoleId) : j.account.consoleLive[x] = h.consoleLiveMinutes x := by
    rw [consoles.live, if_pos (mem_ids x)]
    unfold Hall.consoleLiveMinutes
    rw [spelled.consoles, account, now]
    rfl
  have boothSpoken (b : BoothId) : j.account.booths[b] = { h.account.booths[b] with live := h.boothLiveMinutes b } := by
    rw [consoles.booth, spelled.settings, spelled.consoles, account, now]
    rfl
  have runs : k.channels = i.channels := by rw [booths.eq, consoles.eq]
  have days : k.account.channels = i.account.channels := by rw [booths.eq, consoles.eq]
  refine ⟨?_, ?_, ?_, ?_, ?_, ?_, ?_, ?_, ?_, ?_, fun c => ⟨?_, ?_⟩, fun x => ⟨?_, ?_⟩, fun b => ⟨?_, ?_, ?_⟩⟩
  · rw [booths.eq, consoles.eq, account]; rfl
  · rw [booths.eq, consoles.eq, account]; rfl
  · rw [booths.eq, consoles.eq, account]; rfl
  · rw [booths.eq, consoles.eq, account]; rfl
  · rw [booths.eq, consoles.eq, account]; rfl
  · rw [booths.eq, consoles.eq, account]; rfl
  · rw [booths.eq, consoles.eq]; exact spelled.settings
  · rw [booths.eq, consoles.eq]; exact spelled.fleet
  · rw [booths.eq, consoles.eq]; exact spelled.clock
  · rw [booths.eq, consoles.eq]; exact spelled.air
  · rw [runs, run]
    unfold spelledRun
    rw [fills_closed]
    rfl
  · rw [days, day]
    unfold spelledDay
    rw [fills_closed]
    rfl
  · rw [show k.consoles = j.consoles by rw [booths.eq], consoles.console, if_pos (mem_ids x), spelled.consoles]
    rfl
  · rw [show k.account.consoleLive = j.account.consoleLive by rw [booths.eq], spoken]
  · rw [booths.booth, if_pos (mem_ids b)]
    rfl
  · have minutes : j.fallbackMinutes b = h.fallbackMinutes b := by
      unfold Hall.fallbackMinutes
      rw [boothRuns, boothSpoken, now']
    rw [booths.day, if_pos (mem_ids b), boothSpoken, minutes]
  · rw [booths.booth, if_pos (mem_ids b), boothRuns]
    rfl

end

/-- Settles O30: the tests in order, and the spells that the close ends. -/
theorem closeDay : Obligations.CloseDay := by
  intro s tag p h a
  have test : Machine.closeDay s.opened = tested [(!h.dayOpen, .state), (h.account.session != .none, .sessionOpen),
      (h.fleet.hires != [], .openHires)] s.opened (.wait onlyAccount (.ok .plain []) { s.opened with hall := endDay h }) :=
    tested_passes (ready_pfw p) ..
  refine ifElse_tested test (by rw [Bool.not_eq_true']; exact Iff.rfl) (fun e => refused_of p.1 rfl e) fun test => ?_
  refine ifElse_tested_not test bne_iff_ne (fun e => refused_of p.1 rfl e) fun ended test => ?_
  refine ifElse_tested test bne_iff_ne (fun e => refused_of p.1 rfl e) fun test => ?_
  obtain ⟨day, session, log, balances, queue, seq, settings, fleet, clock, air, channels, consoles, booths⟩ := endDay_does h
  exact ⟨endDay h, answerWaits_of p.1 rfl test, day, session.trans (not_not.mp ended), log, balances, queue, seq, settings,
    fleet, clock, air, channels, consoles, booths⟩

/-! ### OPEN DAY -/

section
variable (h : Hall)

/-- What a new day makes of a console (R38). -/
def liveOpened (now : Nat) (r : ConsoleRun) : ConsoleRun :=
  if r.state.onChannel = true then { r with liveSince := some now } else r

/-- What a new day makes of a booth (R74). -/
def fallbackOpened (now : Nat) (r : BoothRun) : BoothRun :=
  if r.fallback ≠ none then { r with fallbackSince := some now } else r

/-- A console of a new day: its live spell opened where it is on a channel. -/
def openLive (h : Hall) (a : ConsoleId) : Hall := if h.consoles[a].state.onChannel then openLiveSpell a h else h

def openFallback (h : Hall) (b : BoothId) : Hall := if (h.booths[b].fallback).isSome then openFallbackSpell b h else h

def clearDayMeter (h : Hall) (m : MeterId) : Hall := if h.settings.meters[m].day then clearResults h m else h

/-- In an open day a console's record is what the opening makes of it, and no other moves. -/
theorem openLive_eq (open_ : h.dayOpen = true) (a : ConsoleId) :
    openLive h a = h.modConsole a (liveOpened h.clock.minute) := by
  unfold openLive openLiveSpell
  rw [open_, if_pos rfl]
  split
  · next on =>
    refine congrArg (fun v => ({ h with consoles := v } : Hall)) (congrArg (vset h.consoles a) ?_)
    unfold liveOpened
    rw [if_pos on]
    rfl
  · next off =>
    have same : vmod h.consoles a (liveOpened h.clock.minute) = h.consoles :=
      vmod_same_eq (by unfold liveOpened; rw [if_neg off])
    exact (congrArg (fun v => ({ h with consoles := v } : Hall)) same).symm

theorem openFallback_eq (open_ : h.dayOpen = true) (b : BoothId) :
    openFallback h b = h.modBooth b (fallbackOpened h.clock.minute) := by
  unfold openFallback openFallbackSpell
  rw [open_, if_pos rfl]
  split
  · next some =>
    refine congrArg (fun v => ({ h with booths := v } : Hall)) (congrArg (vset h.booths b) ?_)
    unfold fallbackOpened
    rw [if_pos (Option.isSome_iff_ne_none.mp some)]
    rfl
  · next none =>
    have same : vmod h.booths b (fallbackOpened h.clock.minute) = h.booths :=
      vmod_same_eq (by unfold fallbackOpened; rw [if_neg fun ne => none (Option.isSome_iff_ne_none.mpr ne)])
    exact (congrArg (fun v => ({ h with booths := v } : Hall)) same).symm

theorem openLives_eq (open_ : h.dayOpen = true) : (ids 48).foldl openLive h =
    { h with consoles := vtab fun a => liveOpened h.clock.minute h.consoles[a] } := by
  have each (l : List ConsoleId) (k : Hall) (open_ : k.dayOpen = true) (clock : k.clock = h.clock) :
      l.foldl openLive k = l.foldl (fun k a => k.modConsole a (liveOpened h.clock.minute)) k := by
    induction l generalizing k with
    | nil => rfl
    | cons a l ih =>
      rw [List.foldl_cons, List.foldl_cons, openLive_eq k open_, clock]
      exact ih _ open_ clock
  have again (r : ConsoleRun) : liveOpened h.clock.minute (liveOpened h.clock.minute r) = liveOpened h.clock.minute r := by
    unfold liveOpened
    by_cases on : r.state.onChannel = true
    · rw [if_pos on, if_pos on]
    · rw [if_neg on, if_neg on]
  rw [each _ h open_ rfl, foldl_modConsole again]
  simp only [mem_ids, if_true]

/-- Booths set one after another, each once. -/
theorem foldl_modBooth (f : BoothRun → BoothRun) : (ids 16).foldl (fun h b => h.modBooth b f) h =
    { h with booths := vtab fun b => f h.booths[b] } := by
  have rest : (ids 16).foldl (fun h b => h.modBooth b f) h =
      { h with booths := ((ids 16).foldl (fun h b => h.modBooth b f) h).booths } :=
    foldl_keeps (f := fun h b => h.modBooth b f) (R := fun h k : Hall => k = { h with booths := k.booths }) (fun _ => rfl)
      (fun p q => by rw [q, p]) (fun h b => rfl) _ h
  have cells := foldl_cells (f := fun h b => h.modBooth b f) (cell := fun h b => h.booths[b]) (new := fun h b => f h.booths[b])
    (fun h a x => by
      rw [show (h.modBooth a f).booths[x] = if a = x then f h.booths[x] else h.booths[x] from vmod_get ..]
      exact if_congr (by rw [List.mem_singleton, eq_comm]) rfl rfl)
    (fun h a x ne => congrArg f (vmod_other _ _ (Ne.symm ne))) ChargeProofs.nodup_ids h
  generalize (ids 16).foldl (fun h b => h.modBooth b f) h = k at rest cells ⊢
  rw [rest, show k.booths = vtab fun b => f h.booths[b] from table_ext fun b => by
    rw [cells, if_pos (mem_ids b), vtab_get]]

theorem openFallbacks_eq (open_ : h.dayOpen = true) : (ids 16).foldl openFallback h =
    { h with booths := vtab fun b => fallbackOpened h.clock.minute h.booths[b] } := by
  have each (l : List BoothId) (k : Hall) (open_ : k.dayOpen = true) (clock : k.clock = h.clock) :
      l.foldl openFallback k = l.foldl (fun k b => k.modBooth b (fallbackOpened h.clock.minute)) k := by
    induction l generalizing k with
    | nil => rfl
    | cons a l ih =>
      rw [List.foldl_cons, List.foldl_cons, openFallback_eq k open_, clock]
      exact ih _ open_ clock
  rw [each _ h open_ rfl, foldl_modBooth]

/-- The meters of the day cleared (R154). -/
theorem clearDayMeters_count (m : MeterId) : ((ids 8).foldl clearDayMeter h).meters[m].count =
    if h.settings.meters[m].day then 0 else h.meters[m].count := by
  have cells := foldl_cells (f := clearDayMeter) (cell := fun h m => h.meters[m].count)
    (new := fun h m => if h.settings.meters[m].day then 0 else h.meters[m].count)
    (fun h a x => by
      unfold clearDayMeter clearResults
      by_cases e : x = a
      · rw [if_pos (List.mem_singleton.mpr e), e]
        split
        · show (vmod h.meters a _)[a].count = 0
          rw [vmod_same]
        · rfl
      · rw [if_neg fun m => e (List.mem_singleton.mp m)]
        split
        · show (vmod h.meters a _)[x].count = _
          rw [vmod_other _ _ (Ne.symm e)]
        · rfl)
    (fun h a x ne => by
      unfold clearDayMeter clearResults
      split
      · show (if h.settings.meters[x].day then 0 else (vmod h.meters a _)[x].count) = _
        rw [vmod_other _ _ (Ne.symm ne)]
      · rfl) (ChargeProofs.nodup_ids (n := 8)) h m
  exact cells.trans (if_pos (mem_ids m))

/-- A level handed counts nothing at once (R151). -/
theorem meterLevelChange_count (kind : MeterSource) (v : Nat) (m : MeterId) :
    (meterLevelChange kind v h).meters[m].count = h.meters[m].count := by
  unfold meterLevelChange
  split
  · rfl
  · refine foldl_keeps (R := fun h k : Hall => ∀ m : MeterId, k.meters[m].count = h.meters[m].count) (fun _ _ => rfl)
      (fun p q m => (q m).trans (p m)) (fun k a m => ?_) (ids 8) { h with levels := h.levels.set kind v } m
    unfold offerLevel
    dsimp only
    split
    · show (vmod k.meters a _)[m].count = _
      rw [vmod_get]
      split <;> rfl
    · rfl

theorem spellsAll_count (m : MeterId) : h.spellsAll.meters[m].count = h.meters[m].count := by
  have each : ((ids 32).foldl Hall.spells h).meters = h.meters :=
    foldl_keeps (R := fun h k : Hall => k.meters = h.meters) (fun _ => rfl) (fun p q => q.trans p) (fun k c => by
      unfold Hall.spells
      dsimp only
      split <;> rfl) _ h
  unfold Hall.spellsAll Hall.handUnserved
  rw [meterLevelChange_count, each]

end

section
variable (h : Hall) (d : Nat)

/-- The blocks with the account of the new day, no spell of it begun. -/
def dayBegun (h : Hall) (d : Nat) : Hall := { h with account := h.account.opened d h.openHires }

theorem startDay_folds : startDay d h = (ids 8).foldl clearDayMeter ((ids 16).foldl openFallback
    ((ids 48).foldl openLive (dayBegun h d).spellsAll)) := rfl

/-- The channel is in FILL in an open day (R18). -/
def fillsToday (h : Hall) (c : ChannelId) : Bool :=
  c != 0 && h.settings.channels[c].enabled && h.channels[c].service == .fill

/-- What a new day counts of a channel's spells that stood while the day was CLOSED. -/
def carriedDay (h : Hall) (c : ChannelId) : ChannelDay :=
  ⟨asOf h.channels[c].outageSince 0 h.now, asOf h.channels[c].servedSince 0 h.now,
    if fillsToday h c then 0 else asOf h.channels[c].fillSince 0 h.now⟩

theorem dayBegun_spells (c : ChannelId) :
    spelledRun (dayBegun h d) c = { h.channels[c] with
      outageSince := none
      servedSince := none
      fillSince := if fillsToday h c then some (h.channels[c].fillSince.getD h.now) else none } ∧
    spelledDay (dayBegun h d) c = carriedDay h c := by
  have idle : (dayBegun h d).running = false := rfl
  have serves : (dayBegun h d).serves c = false := by
    unfold Hall.serves
    rw [idle, Bool.and_false]
    rfl
  have lacks : (dayBegun h d).lacks c = false := by
    unfold Hall.lacks
    rw [idle, Bool.and_false]
    rfl
  have fills : (dayBegun h d).fills c = fillsToday h c := by
    unfold Hall.fills
    rw [show (dayBegun h d).dayOpen = true from rfl, Bool.and_true]
    rfl
  have day : (dayBegun h d).account.channels[c] = ⟨0, 0, 0⟩ := by
    show (Vector.replicate 32 (⟨0, 0, 0⟩ : ChannelDay))[c] = _
    exact Vector.getElem_replicate ..
  unfold spelledRun spelledDay carriedDay Hall.outage Hall.onAirMinutes Hall.fillMinutes
  rw [serves, lacks, fills, day]
  exact ⟨rfl, rfl⟩

theorem startDay_does : let k := startDay d h
    let a := h.account
    k.account = ⟨⟨true, d, 0, 0, 0, 0⟩, .none, 0, [], Vector.replicate 16 0, vtab (carriedDay h), Vector.replicate 16 ⟨0, 0, 0⟩,
      Vector.replicate 48 0, a.queue, a.seq, 0, h.fleet.hires.length⟩ ∧
    k.settings = h.settings ∧ k.fleet = h.fleet ∧ k.clock = h.clock ∧ k.air = h.air ∧
    (∀ c : ChannelId, k.channels[c] = { h.channels[c] with
      outageSince := none
      servedSince := none
      fillSince := if fillsToday h c then some (h.channels[c].fillSince.getD h.now) else none }) ∧
    (∀ x : ConsoleId, k.consoles[x] = liveOpened h.now h.consoles[x]) ∧
    (∀ b : BoothId, k.booths[b] = fallbackOpened h.now h.booths[b]) ∧
    (∀ m : MeterId, k.meters[m].count = if h.settings.meters[m].day then 0 else h.meters[m].count) := by
  intro k a
  have spelled := spelled_spellsAll (dayBegun h d)
  have run := spellsAll_channel (dayBegun h d)
  have day := spellsAll_day (dayBegun h d)
  have count := spellsAll_count (dayBegun h d)
  have is : k = _ := startDay_folds h d
  clear_value k
  generalize (dayBegun h d).spellsAll = i at spelled run day count is
  have open_ : i.dayOpen = true := by
    unfold Hall.dayOpen
    rw [spelled.account]
    rfl
  have lives := openLives_eq i open_
  rw [lives] at is
  generalize live : ({ i with consoles := vtab fun a => liveOpened i.clock.minute i.consoles[a] } : Hall) = j at is
  have open' : j.dayOpen = true := by
    have account : j.account = i.account := by rw [← live]
    unfold Hall.dayOpen at open_ ⊢
    rw [account]
    exact open_
  have fallbacks := openFallbacks_eq j open'
  rw [fallbacks] at is
  generalize opened : ({ j with booths := vtab fun b => fallbackOpened j.clock.minute j.booths[b] } : Hall) = g at is
  have cleared : Metered g k := by
    rw [is]
    exact metered_clearDayMeters g
  have zeroed (m : MeterId) : k.meters[m].count = if g.settings.meters[m].day then 0 else g.meters[m].count := by
    rw [is]
    exact clearDayMeters_count g m
  clear is
  have account : g.account = i.account := by rw [← opened, ← live]
  have settings : g.settings = h.settings := by rw [← opened, ← live]; exact spelled.settings
  have minute : i.clock.minute = h.now := spelled.now
  have days : i.account.channels = vtab (carriedDay h) := table_ext fun c => by
    rw [day, (dayBegun_spells h d c).2, vtab_get]
  have whole : i.account = { (dayBegun h d).account with channels := vtab (carriedDay h) } := by
    rw [← days]
    exact spelled.account
  refine ⟨?_, ?_, ?_, ?_, ?_, fun c => ?_, fun x => ?_, fun b => ?_, fun m => ?_⟩
  · rw [cleared.account, account, whole]
    rfl
  · rw [(kept_metered cleared).settings, settings]
  · rw [(kept_metered cleared).fleet, ← opened, ← live]
    exact spelled.fleet
  · rw [(kept_metered cleared).clock, ← opened, ← live]
    exact spelled.clock
  · unfold Metered at cleared
    rw [cleared, ← opened, ← live]
    exact spelled.air
  · rw [cleared.channels, ← opened, ← live]
    show i.channels[c] = _
    rw [run, (dayBegun_spells h d c).1]
  · rw [(kept_metered cleared).consoles, ← opened, ← live]
    show (vtab fun a => liveOpened i.clock.minute i.consoles[a])[x] = _
    rw [vtab_get, minute, spelled.consoles]
    rfl
  · have booths : k.booths = g.booths := by
      unfold Metered at cleared
      rw [cleared]
    rw [booths, ← opened, ← live]
    show (vtab fun b => fallbackOpened i.clock.minute i.booths[b])[b] = _
    rw [vtab_get, minute, spelled.booths]
    rfl
  · have meters : g.meters = i.meters := by rw [← opened, ← live]
    rw [zeroed, settings, meters, count]
    rfl

end

/-- Settles O29: the tests in order, and the day that begins. -/
theorem openDay : Obligations.OpenDay := by
  refine ⟨fun s tag day p => ⟨fun out => refused_of p rfl ?_, fun bad => refused_of p rfl ?_⟩, ?_⟩
  · unfold Machine.openDay
    rw [needNat_outOf out]
  · unfold Machine.openDay
    rw [bad, needNat]
  intro s tag d p low high h i a fills
  have test : Machine.openDay (.val d) s.opened = tested [(a.day.isOpen, .state),
      (decide (d ≤ a.day.number) && a.day.number != 9999, .backward)] s.opened
      (.wait onlyAccount (.ok .plain []) { s.opened with hall := startDay d h }) := by
    unfold Machine.openDay
    rw [needNat_in low high]
    exact tested_passes (ready_pfw p) ..
  refine ifElse_tested test Iff.rfl (fun e => refused_of p.1 rfl e) fun test => ?_
  refine ifElse_tested test (by rw [Bool.and_eq_true, decide_eq_true_iff, bne_iff_ne]) (fun e => refused_of p.1 rfl e)
    fun test => ?_
  exact ⟨startDay d h, answerWaits_of p.1 rfl test, startDay_does h d⟩

end Sys2Proof.StepProofs
end

-- ==== Proofs: Overdue ====
section
/-! PROOFS. Hires that become OVERDUE (R112), one by its expiry, and all of those whose due minute a move of the clock
reaches (R173). -/

namespace Sys2Proof.StepProofs

open Machine

/-! ### One hire made OVERDUE -/

/-- `k` is `h` but for the fleet, the meters, and what is posted and asked for. -/
def Refleeted (h k : Hall) : Prop := k = { h with
  fleet := k.fleet
  meters := k.meters
  free := k.free
  work := { h.work with posts := k.work.posts, asks := k.work.asks } }

theorem Refleeted.trans {h k l : Hall} (p : Refleeted h k) (q : Refleeted k l) : Refleeted h l := by
  unfold Refleeted at *
  rw [q, p]

theorem refleeted_meterEvent (h : Hall) (e : MeterEvent) : Refleeted h (meterEvent e h) := by
  have p := assigned_meterEvent h e
  have air := meterEvent_air h e
  generalize meterEvent e h = k at p air
  unfold Assigned at p
  unfold Refleeted
  rw [air] at p
  rw [p]

/-- A meter event leaves each meter's next close (R151). -/
theorem meterEvent_next (h : Hall) (e : MeterEvent) (m : MeterId) : (meterEvent e h).meters[m].next = h.meters[m].next := by
  have cell (k : Hall) (a : MeterId) (f : MeterRun → MeterRun) (same : ∀ r, (f r).next = r.next) :
      (k.modMeter a f).meters[m].next = k.meters[m].next := by
    show (vmod k.meters a f)[m].next = _
    rw [vmod_get]
    split
    · exact same _
    · rfl
  have preset (k : Hall) (a : MeterId) : (presetTest a k).meters[m].next = k.meters[m].next := by
    unfold presetTest
    dsimp only
    split
    · exact cell _ a _ fun _ => rfl
    · rfl
  have full (k : Hall) (a : MeterId) : (fullTest a k).meters[m].next = k.meters[m].next := by
    unfold fullTest
    dsimp only
    split
    · exact cell _ a _ fun _ => rfl
    · rfl
  have raised (k : Hall) (a : MeterId) : (raiseCount a k).meters[m].next = k.meters[m].next := by
    unfold raiseCount
    split
    · exact (full _ a).trans ((preset _ a).trans (cell k a _ fun _ => rfl))
    · rfl
  refine foldl_keeps (R := fun h k : Hall => k.meters[m].next = h.meters[m].next) (fun _ => rfl) (fun p q => q.trans p)
    (fun k a => ?_) _ _
  unfold offerEvent
  dsimp only
  split
  · split
    · exact raised k a
    · exact cell k a _ fun _ => rfl
  · rfl

section
variable (h : Hall) (x : Hire)

/-- The fleet's part of a hire that becomes OVERDUE, and the notice of it. -/
def overduePosted (x : Hire) (h : Hall) : Hall :=
  (receiverOverdue x (h.putHire { x with overdue := true })).post .hire .overdue x.serial.toNat x.number

theorem makeOverdue_eq : makeOverdue x h =
    (meterEvent (hireEvent .overdue x.desk x.tariff x.preset) (overduePosted x h)).ask onlyFleet := rfl

theorem refleeted_overduePosted : Refleeted h (overduePosted x h) := by
  unfold overduePosted receiverOverdue
  split <;> rfl

theorem refleeted_ask (a : AreaSet) : Refleeted h (h.ask a) := rfl

theorem refleeted_makeOverdue : Refleeted h (makeOverdue x h) := by
  have told := refleeted_meterEvent (overduePosted x h) (hireEvent .overdue x.desk x.tariff x.preset)
  rw [makeOverdue_eq]
  generalize meterEvent (hireEvent .overdue x.desk x.tariff x.preset) (overduePosted x h) = k at told
  exact ((refleeted_overduePosted h x).trans told).trans (refleeted_ask k onlyFleet)

theorem makeOverdue_next (m : MeterId) : (makeOverdue x h).meters[m].next = h.meters[m].next := by
  have told := meterEvent_next (overduePosted x h) (hireEvent .overdue x.desk x.tariff x.preset) m
  have stands : (overduePosted x h).meters = h.meters := by
    unfold overduePosted receiverOverdue
    split <;> rfl
  rw [makeOverdue_eq]
  generalize meterEvent (hireEvent .overdue x.desk x.tariff x.preset) (overduePosted x h) = k at told
  show k.meters[m].next = _
  rw [told, stands]

theorem makeOverdue_fleet : (makeOverdue x h).fleet = (receiverOverdue x (h.putHire { x with overdue := true })).fleet :=
  (makeOverdue_housed x h).fleet

theorem receiverOverdue_hires (k : Hall) : (receiverOverdue x k).fleet.hires = k.fleet.hires := by
  unfold receiverOverdue
  split <;> rfl

theorem hire_makeOverdue (n : Nat) :
    (makeOverdue x h).hire n = if x.number = n then some { x with overdue := true } else h.hire n := by
  unfold Hall.hire
  rw [makeOverdue_fleet, receiverOverdue_hires]
  exact hire_putHire h { x with overdue := true } n

theorem receiver_makeOverdue (q : Serial) : (makeOverdue x h).receiver q =
    if x.serial = q then (h.receiver q).map fun r => { r with state := .overdue x.number } else h.receiver q := by
  have same (k : Hall) (e : k.fleet = h.fleet) : k.receiver q = h.receiver q := by
    unfold Hall.receiver
    rw [e]
  have lookup : (makeOverdue x h).receiver q = (receiverOverdue x (h.putHire { x with overdue := true })).receiver q := by
    unfold Hall.receiver
    rw [makeOverdue_fleet]
  rw [lookup]
  unfold receiverOverdue
  rw [show (h.putHire { x with overdue := true }).receiver x.serial = h.receiver x.serial from rfl]
  cases found : h.receiver x.serial with
  | none =>
    show h.receiver q = _
    split
    · next e => rw [← e, found]; rfl
    · rfl
  | some r =>
    have serial : r.serial = x.serial := receiver_serial found
    dsimp only
    rw [receiver_putReceiver]
    show (if r.serial = q then _ else h.receiver q) = _
    by_cases e : x.serial = q
    · rw [if_pos (serial.trans e), if_pos e, ← e, found]
      rfl
    · rw [if_neg fun same => e (serial.symm.trans same), if_neg e]

theorem makeOverdue_notice :
    (⟨.hire, .overdue, x.serial.toNat, h.now, x.number, false⟩ : Notice) ∈ (makeOverdue x h).work.posts := by
  have now : (receiverOverdue x (h.putHire { x with overdue := true })).now = h.now := by
    unfold receiverOverdue
    split <;> rfl
  have posted := mem_post (receiverOverdue x (h.putHire { x with overdue := true })) .hire .overdue x.serial.toNat x.number
  rw [now] at posted
  have told : Posted (overduePosted x h) (meterEvent (hireEvent .overdue x.desk x.tariff x.preset) (overduePosted x h)) :=
    posted_meterEvent _ _
  rw [makeOverdue_eq]
  generalize meterEvent (hireEvent .overdue x.desk x.tariff x.preset) (overduePosted x h) = k at told
  exact told.mem posted

theorem makeOverdue_asks : onlyFleet ∈ (makeOverdue x h).work.asks := by
  rw [makeOverdue_eq]
  generalize meterEvent (hireEvent .overdue x.desk x.tariff x.preset) (overduePosted x h) = k
  exact List.mem_append_right k.work.asks (.head _)

end

section
variable {h : Hall} {n : Nat} {x : Hire}

theorem takeDue_due {d : Nat} (found : h.hire n = some x) (fresh : x.overdue = false) (due : x.due = some d) (reached : d ≤ h.now) :
    takeDue n h = makeOverdue x h := by
  have stands : x.overdue = false ∧ x.due.any (fun d => decide (d ≤ h.now)) = true :=
    ⟨fresh, by rw [due]; exact decide_eq_true reached⟩
  unfold takeDue
  rw [found]
  exact if_pos stands

theorem takeDue_rests (rests : h.hire n = none ∨
    ∃ x, h.hire n = some x ∧ (x.overdue = true ∨ x.due = none ∨ ∃ d, x.due = some d ∧ h.now < d)) : takeDue n h = h := by
  unfold takeDue
  rcases rests with none | ⟨x, found, early⟩
  · rw [none]
  · rw [found]
    refine if_neg fun ⟨fresh, reached⟩ => ?_
    rcases early with over' | none | ⟨d, due, later⟩
    · rw [over'] at fresh
      cases fresh
    · rw [none] at reached
      cases reached
    · rw [due] at reached
      exact absurd (of_decide_eq_true reached) (Nat.not_le.mpr later)

end

/-- Settles O42: the hire found is due and not yet OVERDUE, or nothing is taken. -/
theorem dueMinute : Obligations.DueMinute := by
  intro s n awake rest h i
  have takes : s.takesEvent i (takeDue n h) := takesEvent_of awake rfl
  refine ⟨fun x d found fresh due reached => ?_, fun rests => ?_⟩
  · have number := hire_number found
    have moved := refleeted_makeOverdue h x
    have hires := hire_makeOverdue h x
    have receivers := receiver_makeOverdue h x
    have notice := makeOverdue_notice h x
    rw [takeDue_due found fresh due reached] at takes
    refine ⟨makeOverdue x h, takes, ?_, fun m ne => ?_, fun r held => ?_, fun q ne => ?_, ?_, makeOverdue_asks h x, ?_, ?_, ?_⟩
    · rw [hires, if_pos number]
    · rw [hires, if_neg (by rw [number]; exact Ne.symm ne)]
    · rw [receivers, if_pos rfl, held, ← number]
      rfl
    · rw [receivers, if_neg (Ne.symm ne)]
    · rw [number] at notice
      exact notice
    all_goals
      unfold Refleeted at moved
      rw [moved]
  · rwa [takeDue_rests rests] at takes

end Sys2Proof.StepProofs
end

-- ==== Proofs: Clock ====
section
/-! PROOFS. SET CLOCK (R17, R36, R39, R75, R112, R155, R173). -/

namespace Sys2Proof.StepProofs

open Machine

/-! ### The hires that a move of the clock makes OVERDUE -/

section
variable {h : Hall}

theorem refleeted_takeDue (h : Hall) (n : Nat) : Refleeted h (takeDue n h) := by
  unfold takeDue
  split
  · split
    · exact refleeted_makeOverdue h _
    · rfl
  · rfl

theorem takeDue_next (h : Hall) (n : Nat) (m : MeterId) : (takeDue n h).meters[m].next = h.meters[m].next := by
  unfold takeDue
  split
  · split
    · exact makeOverdue_next h _ m
    · rfl
  · rfl

theorem refleeted_takeAllDue (h : Hall) : Refleeted h (takeAllDue h) :=
  foldl_keeps (R := Refleeted) (f := fun k (x : Hire) => takeDue x.number k) (fun _ => rfl) Refleeted.trans
    (fun k x => refleeted_takeDue k x.number) _ _

theorem takeAllDue_next (h : Hall) (m : MeterId) : (takeAllDue h).meters[m].next = h.meters[m].next :=
  foldl_keeps (R := fun h k : Hall => k.meters[m].next = h.meters[m].next) (f := fun k (x : Hire) => takeDue x.number k)
    (fun _ => rfl) (fun p q => q.trans p) (fun k x => takeDue_next k x.number m) _ _

/-- A hire that should be OVERDUE and is not. -/
def lateHire (now : Nat) (x : Hire) : Prop := x.overdue = false ∧ ∃ d, x.due = some d ∧ d ≤ now

/-- Taking the due of a number leaves no late hire of that number. -/
theorem takeDue_late (o : h.fleet.ordered) (n : Nat) {y : Hire} (mem : y ∈ (takeDue n h).fleet.hires) (late : lateHire h.now y) :
    y ∈ h.fleet.hires ∧ y.number ≠ n := by
  obtain ⟨fresh, d, due, reached⟩ := late
  by_cases takes : ∃ x, h.hire n = some x ∧ lateHire h.now x
  · obtain ⟨x, found, freshX, e, dueX, reachedX⟩ := takes
    rw [takeDue_due found freshX dueX reachedX, makeOverdue_fleet, receiverOverdue_hires] at mem
    rcases mem_putHire.mp mem with is | ⟨mem, ne⟩
    · rw [is] at fresh
      cases fresh
    · exact ⟨mem, fun same => ne (same.trans (hire_number found).symm)⟩
  · have rests : takeDue n h = h := by
      unfold takeDue
      split
      · next x found =>
        refine if_neg fun ⟨freshX, reachedX⟩ => takes ⟨x, found, freshX, ?_⟩
        obtain ⟨e, dueX, reachedX⟩ := Option.any_eq_true _ _ |>.mp reachedX
        exact ⟨e, dueX, of_decide_eq_true reachedX⟩
      · rfl
    rw [rests] at mem
    refine ⟨mem, fun same => takes ⟨y, ?_, fresh, d, due, reached⟩⟩
    rw [← same]
    exact hire_find o mem

theorem takeDues_late {l : List Hire} {k : Hall} (o : k.fleet.ordered)
    (listed : ∀ y ∈ k.fleet.hires, lateHire k.now y → ∃ z ∈ l, z.number = y.number) :
    ∀ y ∈ (l.foldl (fun k x => takeDue x.number k) k).fleet.hires, ¬ lateHire k.now y := by
  induction l generalizing k with
  | nil => exact fun y mem late => nomatch listed y mem late
  | cons x l ih =>
    have now : (takeDue x.number k).now = k.now := by rw [refleeted_takeDue k x.number]; rfl
    have rest := ih (k := takeDue x.number k) (tables_law.takeDue x.number o) fun y mem late => by
      rw [now] at late
      obtain ⟨mem, ne⟩ := takeDue_late o x.number mem late
      obtain ⟨z, zl, number⟩ := listed y mem late
      rcases List.mem_cons.mp zl with e | zl
      · rw [e] at number
        exact absurd number.symm ne
      · exact ⟨z, zl, number⟩
    rw [now] at rest
    exact rest

theorem takeAllDue_overdue (o : h.fleet.ordered) : ∀ x ∈ (takeAllDue h).fleet.hires, ∀ d, x.due = some d → d ≤ h.now →
    x.overdue = true := by
  intro x mem d due reached
  have none := takeDues_late (l := h.dueHires) o (fun y mem ⟨fresh, e, dueY, reachedY⟩ =>
    ⟨y, mem_sortBy.mpr (List.mem_filter.mpr ⟨mem, by rw [fresh, dueY]; exact decide_eq_true reachedY⟩), rfl⟩) x mem
  by_contra fresh
  exact none ⟨Bool.eq_false_iff.mpr fresh, d, due, reached⟩

end

/-! ### The clock set -/

section
variable (h : Hall) (m : Nat)

/-- What SET CLOCK leaves but for the hires that become OVERDUE. -/
def clockMoved (m : Nat) (h : Hall) : Hall := clockSet (minuteMoved m h)

theorem clockSet_clock : (clockSet h).clock = ⟨h.clock.minute, false, h.clock.ticks, h.clock.ticks⟩ := rfl

theorem clockMoved_clock : (clockMoved m h).clock = ⟨m, false, h.clock.ticks, h.clock.ticks⟩ := by
  unfold clockMoved minuteMoved
  split
  · next same => rw [clockSet_clock, same]; rfl
  · have brought : (bringUpSpells h).clock = h.clock := by rw [(broughtUp_bringUpSpells h).eq]
    generalize bringUpSpells h = k at brought
    have moved : (moveMinute m k).clock = { k.clock with minute := m } := rfl
    rw [clockSet_clock, moved, brought]

theorem clockMoved_same (same : m = h.now) : clockMoved m h = { h with clock := (clockMoved m h).clock } := by
  unfold clockMoved minuteMoved
  rw [if_pos same]
  rfl

/-- The spells, stamps and closes behind a move of the minute: open spells are open from the new one. -/
structure Restamped (h k : Hall) (m : Nat) : Prop where
  settings : k.settings = h.settings
  fleet : k.fleet = h.fleet
  account : k.account.log = h.account.log ∧ k.account.queue = h.account.queue
  channel : ∀ c : ChannelId, k.channels[c] = spellsFrom m h.channels[c]
  console : ∀ x : ConsoleId, k.consoles[x] = ConsoleRun.restamp h.clock.minute m h.consoles[x]
  booth : ∀ b : BoothId, k.booths[b] = fallbackFrom m h.booths[b]
  meter : ∀ i : MeterId, k.meters[i].next = h.meters[i].next.map (moveStamp h.clock.minute m)

theorem clockMoved_restamped (other : m ≠ h.now) : Restamped h (clockMoved m h) m ∧ FiguresStand h (clockMoved m h) := by
  have brought := broughtUp_bringUpSpells h
  have clock := clockMoved_clock h m
  have moved : ∃ c, clockMoved m h = { bringUpSpells h with
      clock := c
      channels := vtab fun c => (bringUpSpells h).channels[c].restamp m
      consoles := vtab fun a => (bringUpSpells h).consoles[a].restamp (bringUpSpells h).now m
      booths := vtab fun b => { (bringUpSpells h).booths[b] with
        fallbackSince := (bringUpSpells h).booths[b].fallbackSince.map fun _ => m }
      meters := vtab fun i => { (bringUpSpells h).meters[i] with
        next := (bringUpSpells h).meters[i].next.map (moveStamp (bringUpSpells h).now m) } } := by
    unfold clockMoved minuteMoved
    rw [if_neg other]
    generalize bringUpSpells h = k
    unfold clockSet moveMinute
    exact ⟨_, rfl⟩
  obtain ⟨c, moved⟩ := moved
  generalize bringUpSpells h = k at brought moved
  generalize clockMoved m h = g at clock moved ⊢
  have channelCells (c : ChannelId) := vtab_get (fun c : ChannelId => k.channels[c].restamp m) c
  have consoleCells (a : ConsoleId) := vtab_get (fun a : ConsoleId => k.consoles[a].restamp k.now m) a
  have boothCells (b : BoothId) :=
    vtab_get (fun b : BoothId => { k.booths[b] with fallbackSince := k.booths[b].fallbackSince.map fun _ => m }) b
  have meterCells (i : MeterId) :=
    vtab_get (fun i : MeterId => { k.meters[i] with next := k.meters[i].next.map (moveStamp k.now m) }) i
  generalize (vtab fun c : ChannelId => k.channels[c].restamp m) = channels at moved channelCells
  generalize (vtab fun a : ConsoleId => k.consoles[a].restamp k.now m) = consoles at moved consoleCells
  generalize (vtab fun b : BoothId => { k.booths[b] with fallbackSince := k.booths[b].fallbackSince.map fun _ => m }) = booths
    at moved boothCells
  generalize (vtab fun i : MeterId => { k.meters[i] with next := k.meters[i].next.map (moveStamp k.now m) }) = meters
    at moved meterCells
  have minute : k.now = h.clock.minute := by rw [brought.eq]; rfl
  have now : g.now = m := congrArg Clock.minute clock
  have account : g.account = k.account := by rw [moved]
  have settings : g.settings = h.settings := by rw [moved, brought.eq]
  have channel (c : ChannelId) : g.channels[c] = spellsFrom m h.channels[c] := by
    rw [moved]
    dsimp only
    rw [channelCells, brought.channel]
    unfold ChannelRun.restamp spellsFrom
    simp only [Option.map_map, Function.comp_def]
  have console (x : ConsoleId) : g.consoles[x] = ConsoleRun.restamp h.clock.minute m h.consoles[x] := by
    rw [moved]
    dsimp only
    rw [consoleCells, brought.console, minute]
    unfold ConsoleRun.restamp liveFrom
    simp only [Option.map_map, Function.comp_def]
  have booth (b : BoothId) : g.booths[b] = fallbackFrom m h.booths[b] := by
    rw [moved]
    dsimp only
    rw [boothCells, brought.booth]
    unfold fallbackFrom
    simp only [Option.map_map, Function.comp_def]
  refine ⟨⟨settings, ?_, ⟨?_, ?_⟩, channel, console, booth, fun i => ?_⟩, figuresStand_of settings (fun c => ?_) (fun c => ?_)
    (fun x => ?_) (fun x => ?_) (fun b => ?_) (fun b => ?_)⟩
  · rw [moved, brought.eq]
  · rw [account, brought.eq]
  · rw [account, brought.eq]
  · rw [moved]
    dsimp only
    rw [meterCells, minute, show k.meters = h.meters by rw [brought.eq]]
  · rw [channel, now]
  · rw [account, brought.day]
  · rw [console, now]
    rfl
  · rw [account, brought.live]
  · rw [booth, now]
    rfl
  · rw [account, brought.boothDay]

end

section
variable {h k g : Hall} {m : Nat}

theorem FiguresStand.trans (p : FiguresStand h g) (q : FiguresStand g k) : FiguresStand h k :=
  ⟨fun c => (q.outage c).trans (p.outage c), fun c => (q.onAir c).trans (p.onAir c), fun c => (q.fill c).trans (p.fill c),
    fun a => (q.live a).trans (p.live a), fun b => (q.boothLive b).trans (p.boothLive b),
    fun b => (q.fallback b).trans (p.fallback b)⟩

/-- The figures depend on the minute, the spells and their totals alone. -/
theorem figuresStand_same (now : k.now = h.now) (settings : k.settings = h.settings) (account : k.account = h.account)
    (channels : k.channels = h.channels) (consoles : k.consoles = h.consoles) (booths : k.booths = h.booths) :
    FiguresStand h k where
  outage c := by unfold Hall.outage; rw [now, account, channels]
  onAir c := by unfold Hall.onAirMinutes; rw [now, account, channels]
  fill c := by unfold Hall.fillMinutes; rw [now, account, channels]
  live a := by unfold Hall.consoleLiveMinutes; rw [now, account, consoles]
  boothLive b := by unfold Hall.boothLiveMinutes Hall.consolesOf; rw [now, account, settings, consoles]
  fallback b := by unfold Hall.fallbackMinutes; rw [now, account, booths]

theorem Refleeted.figures (p : Refleeted h k) : FiguresStand h k := by
  unfold Refleeted at p
  apply figuresStand_same <;> rw [p]
  rfl

/-- What SET CLOCK leaves of the blocks, whatever the minute it names. -/
structure ClockTaken (h k : Hall) (m : Nat) : Prop where
  clock : k.clock = ⟨m, false, h.clock.ticks, h.clock.ticks⟩
  settings : k.settings = h.settings
  account : k.account.log = h.account.log ∧ k.account.queue = h.account.queue
  same : m = h.now → k = { h with clock := k.clock }
  figures : FiguresStand h k
  feeder : ∀ c : ChannelId, k.channels[c].feeder = h.channels[c].feeder
  state : ∀ a : ConsoleId, k.consoles[a].state = h.consoles[a].state
  moved : m ≠ h.now → (∀ c : ChannelId, k.channels[c] = spellsFrom m h.channels[c]) ∧
    (∀ x : ConsoleId, k.consoles[x] = ConsoleRun.restamp h.clock.minute m h.consoles[x]) ∧
    (∀ b : BoothId, k.booths[b] = fallbackFrom m h.booths[b]) ∧
    ∀ i : MeterId, k.meters[i].next = h.meters[i].next.map (moveStamp h.clock.minute m)

theorem clockTaken_moved (h : Hall) (m : Nat) : ClockTaken h (clockMoved m h) m := by
  have clock := clockMoved_clock h m
  by_cases same : m = h.now
  · have stands := clockMoved_same h m same
    have now : (clockMoved m h).now = h.now := (congrArg Clock.minute clock).trans same
    generalize clockMoved m h = k at clock stands now ⊢
    refine ⟨clock, by rw [stands], ⟨by rw [stands], by rw [stands]⟩, fun _ => stands, ?_, fun c => by rw [stands],
      fun a => by rw [stands], fun other => absurd same other⟩
    exact figuresStand_same now (by rw [stands]) (by rw [stands]) (by rw [stands]) (by rw [stands]) (by rw [stands])
  · obtain ⟨restamped, figures⟩ := clockMoved_restamped h m same
    exact ⟨clock, restamped.settings, restamped.account, fun e => absurd e same, figures,
      fun c => by rw [restamped.channel]; rfl, fun a => by rw [restamped.console]; rfl,
      fun _ => ⟨restamped.channel, restamped.console, restamped.booth, restamped.meter⟩⟩

theorem ClockTaken.dues (p : ClockTaken h k m) (later : h.now < m) : ClockTaken h (takeAllDue k) m := by
  have refleeted := refleeted_takeAllDue k
  have next := takeAllDue_next k
  generalize takeAllDue k = g at refleeted next ⊢
  have figures := p.figures.trans refleeted.figures
  unfold Refleeted at refleeted
  have account : g.account = k.account := by rw [refleeted]
  have channels : g.channels = k.channels := by rw [refleeted]
  have consoles : g.consoles = k.consoles := by rw [refleeted]
  have booths : g.booths = k.booths := by rw [refleeted]
  have settings : g.settings = k.settings := by rw [refleeted]
  have clock : g.clock = k.clock := by rw [refleeted]
  exact ⟨clock.trans p.clock, settings.trans p.settings, by rw [account]; exact p.account, fun e => absurd later (by omega),
    figures, fun c => by rw [channels]; exact p.feeder c, fun a => by rw [consoles]; exact p.state a,
    fun other => ⟨fun c => by rw [channels]; exact (p.moved other).1 c, fun x => by rw [consoles]; exact (p.moved other).2.1 x,
      fun b => by rw [booths]; exact (p.moved other).2.2.1 b, fun i => by rw [next]; exact (p.moved other).2.2.2 i⟩⟩

theorem clockTaken_takeSetClock (h : Hall) (m : Nat) : ClockTaken h (takeSetClock m h) m := by
  have moved := clockTaken_moved h m
  rw [takeSetClock_eq]
  split
  · next later => exact moved.dues later
  · exact moved

theorem clockMoved_fleet (h : Hall) (m : Nat) : (clockMoved m h).fleet = h.fleet := by
  by_cases same : m = h.now
  · rw [clockMoved_same h m same]
  · exact (clockMoved_restamped h m same).1.fleet

theorem takeSetClock_overdue (o : h.fleet.ordered) (later : h.clock.minute < m) :
    ∀ x ∈ (takeSetClock m h).fleet.hires, ∀ d, x.due = some d → d ≤ m → x.overdue = true := by
  have now : (clockMoved m h).now = m := congrArg Clock.minute (clockMoved_clock h m)
  have overdue := takeAllDue_overdue (h := clockMoved m h) (by rw [clockMoved_fleet]; exact o)
  rw [now] at overdue
  rw [takeSetClock_eq, if_pos (show h.now < m from later)]
  exact overdue

end

theorem setClock_malformed {s : State} {min : Arg Nat} (bad : min = .bad ∨ min.outOf 0 4294967295) :
    setClock min s = refuse .syntaxError s := by
  rcases bad with rfl | rfl | ⟨n, rfl, out⟩
  · rfl
  · rfl
  · have beyond : maxCount < n := by
      show 4294967295 < n
      omega
    exact tested_fails (decide_eq_true beyond) ..

/-- Settles O28: the minute moves with every stamp, or stands. -/
theorem setClock : Obligations.SetClock := by
  refine ⟨fun s tag min p bad => refused_of p rfl (setClock_malformed bad), ?_⟩
  intro s tag m p within h i
  have test : Machine.setClock (.val m) s.opened = tested
      [(decide (m < h.now) && (h.fleet.hires != [] || h.account.log != []), .backward)] s.opened
      (.wait onlyClock (.ok (.clock m) []) { s.opened with hall := takeSetClock m h }) := by
    unfold Machine.setClock
    dsimp only
    rw [tested_passes (decide_eq_false (Nat.not_lt.mpr within)), tested_passes (ready_pfw p)]
    rfl
  refine ifElse_tested test ?_ (fun e => refused_of p.1 rfl e) fun test => ?_
  · rw [Bool.and_eq_true, decide_eq_true_iff, Bool.or_eq_true, bne_iff_ne, bne_iff_ne]
    exact Iff.rfl
  have taken := clockTaken_takeSetClock h m
  refine ⟨takeSetClock m h, answerWaits_of p.1 rfl test, taken.clock, taken.settings, taken.account.1, taken.account.2, taken.same,
    fun c => ⟨taken.figures.outage c, taken.figures.onAir c, taken.figures.fill c, taken.feeder c⟩,
    fun a => ⟨taken.state a, taken.figures.live a⟩, fun b => ⟨taken.figures.boothLive b, taken.figures.fallback b⟩,
    taken.moved, fun o later => takeSetClock_overdue o later⟩

end Sys2Proof.StepProofs
end

-- ==== Proofs: Release ====
section
/-! PROOFS. RELEASE SETTLEMENTS (R144). -/

namespace Sys2Proof.StepProofs

open Machine

section
variable {s : State} {n : Nat}

/-- The records queued of a number above `n`. -/
def keptRecords (n : Nat) (h : Hall) : List Settlement := h.account.queue.filter fun r => n < r.seq

/-- The records queued of a number up to `n`. -/
def releasedRecords (n : Nat) (h : Hall) : List Settlement := h.account.queue.filter fun r => r.seq ≤ n

theorem released_length (n : Nat) (h : Hall) : h.account.queue.length = (releasedRecords n h).length + (keptRecords n h).length := by
  have parts := List.length_eq_length_filter_add (l := h.account.queue) fun r : Settlement => decide (r.seq ≤ n)
  have kept : (h.account.queue.filter fun r => !decide (r.seq ≤ n)) = keptRecords n h :=
    List.filter_congr fun r _ => by rw [← decide_not]; exact decide_eq_decide.mpr Nat.not_le
  rw [kept] at parts
  exact parts

/-- In a queue in sequence order the released records stand at its head. -/
theorem released_head {q : List Settlement} (rising : q.Pairwise fun x y => x.seq < y.seq) (n : Nat) :
    q = (q.filter fun r => r.seq ≤ n) ++ q.filter fun r => n < r.seq := by
  induction q with
  | nil => rfl
  | cons x q ih =>
    obtain ⟨first, rising⟩ := List.pairwise_cons.mp rising
    by_cases low : x.seq ≤ n
    · rw [List.filter_cons, if_pos (decide_eq_true low), List.filter_cons, if_neg (by simpa using low), List.cons_append,
        ← ih rising]
    · have none : (q.filter fun r => decide (r.seq ≤ n)) = [] := List.filter_eq_nil_iff.mpr fun r mem => by
        have := first r mem
        simp only [decide_eq_true_eq]
        omega
      have all : (q.filter fun r => decide (n < r.seq)) = q := List.filter_eq_self.mpr fun r mem => by
        have := first r mem
        simp only [decide_eq_true_eq]
        omega
      rw [List.filter_cons, if_neg (by simpa using low), List.filter_cons, if_pos (by simpa using low), none, all]
      rfl

theorem releaseSettlements_taken (s : State) (n : Nat) : releaseSettlements (.val n) s =
    tested [(decide (s.hall.account.seq < n), .range), (s.pfw, .powerFail)] s
      (if releasedRecords n s.hall = [] then .now (.ok .releasedNone []) s
       else .wait onlyAccount (.ok (.releasedRecords (releasedRecords n s.hall).length (keptRecords n s.hall).length) [])
          { s with hall := { s.hall with account := { s.hall.account with queue := keptRecords n s.hall } } }) := by
  have parts := released_length n s.hall
  have none : (keptRecords n s.hall).length = s.hall.account.queue.length ↔ releasedRecords n s.hall = [] := by
    rw [← List.length_eq_zero_iff]
    omega
  have count : s.hall.account.queue.length - (keptRecords n s.hall).length = (releasedRecords n s.hall).length := by omega
  rw [← count]
  unfold releaseSettlements
  dsimp only
  rw [← if_congr none rfl rfl]
  rfl

/-- A queue below its bound is no cause of SETTLE_OVERFLOW at an event's end (R142). -/
theorem overflow_below {h : Hall} {t : State} (ends : s.endsWith h t) (room : h.account.queue.length < 256) :
    t.notice.conds.settleOverflow ≠ .active := by
  obtain ⟨-, notice, -⟩ := ends
  rw [notice]
  show Raised.meet _ (decide (256 ≤ h.account.queue.length)) ≠ _
  rw [Ne, meet_active, decide_eq_true_iff]
  exact Nat.not_le.mpr room

end

/-- Settles O32: the tests in order, and the records up to SEQ taken off the head of the queue. -/
theorem releaseSettlements : Obligations.ReleaseSettlements := by
  intro s tag seq p rest h i refused
  refine ⟨fun bad => refused_of p rfl ?_, fun n value => ?_⟩
  · rcases bad with e | e <;> rw [e] <;> rfl
  intro kept removed
  have test := releaseSettlements_taken s.opened n
  rw [← value] at test
  refine ifElse_tested test decide_eq_true_iff (fun e => refused_of p rfl e) fun test => ?_
  refine ifElse_tested test Iff.rfl (fun e => refused_of p rfl e) fun test => ?_
  have answers : ifElse (removed = []) (s.answersNow i tag (.ok .releasedNone []) h)
      (s.answerWaits i tag onlyAccount (.ok (.releasedRecords removed.length kept.length) [])
        { h with account := { h.account with queue := kept } }) :=
    ⟨fun none => answersNow_of p rfl (test.trans (if_pos none)), fun some => answerWaits_of p rfl (test.trans (if_neg some))⟩
  refine ⟨fun rising => released_head rising n, fun room t e => ?_, answers⟩
  by_cases none : removed = []
  · obtain ⟨u, taken, ends, -⟩ := answers.1 none
    rw [e] at taken
    cases taken
    have all : h.account.queue.length = kept.length := by
      have parts := released_length n h
      rw [show releasedRecords n h = [] from none] at parts
      exact parts.trans (Nat.zero_add _)
    exact overflow_below ends (by rw [all]; exact room)
  · obtain ⟨u, taken, ends, -⟩ := answers.2 none
    rw [e] at taken
    cases taken
    exact overflow_below ends room

end Sys2Proof.StepProofs
end

-- ==== Proofs: PowerFail ====
section
/-! PROOFS. The power-fail warning (R171). -/

namespace Sys2Proof.StepProofs

open Machine

section
variable {s : State}

/-- The verdict is an error that leaves the state as it was. -/
def Refuses (s : State) (v : Verdict) : Prop := ∃ c, v = refuse c s

theorem refuses_with (c : AnswerCode) (s : State) : Refuses s (refuse c s) := ⟨c, rfl⟩

/-- A test that fails refuses, if not with its own code then with that of an earlier one. -/
theorem refuses_tested {l : List (Bool × AnswerCode)} (c : AnswerCode) (fails : (true, c) ∈ l) (v : Verdict) :
    Refuses s (tested l s v) := by
  induction l with
  | nil => cases fails
  | cons x l ih =>
    obtain ⟨b, d⟩ := x
    cases b with
    | true => exact refuses_with d s
    | false =>
      rcases List.mem_cons.mp fails with first | later
      · cases first
      · exact ih later

/-! ### Every order and request that R171 names is refused -/

section
variable (warned : s.pfw = true)
include warned

theorem refuses_setChannel (a : SetChannelArgs) : Refuses s (Machine.setChannel a s) := by
  unfold Machine.setChannel
  split
  · exact refuses_with _ s
  · exact refuses_tested .powerFail (by simp [channelTests, warned]) _

theorem refuses_setBooth (a : SetBoothArgs) : Refuses s (Machine.setBooth a s) := by
  unfold Machine.setBooth
  dsimp only
  split
  · exact refuses_with _ s
  · split <;> exact refuses_with _ s
  · exact refuses_tested .powerFail (by simp [boothTests, warned]) _

theorem refuses_setConsole (addr : Arg Nat) (booth : Arg (Option Nat)) : Refuses s (Machine.setConsole addr booth s) := by
  unfold Machine.setConsole
  dsimp only
  split
  · exact refuses_with _ s
  · split <;> exact refuses_with _ s
  · exact refuses_tested .powerFail (by simp [warned]) _

theorem refuses_setRelayList (booth : Arg Nat) (list : Arg (List Nat)) : Refuses s (setRelayList booth list s) := by
  unfold setRelayList
  dsimp only
  split
  · exact refuses_with _ s
  · split <;> exact refuses_with _ s
  · exact refuses_tested .powerFail (by simp [warned]) _

theorem refuses_setTariff {a : SetTariffArgs} (order : a.isReading = false) : Refuses s (Machine.setTariff a s) := by
  unfold Machine.setTariff
  rw [order]
  simp only [Bool.false_eq_true, if_false]
  split
  · exact refuses_with _ s
  · exact refuses_tested .powerFail (by simp [warned]) _

theorem refuses_setFleet (a : SetFleetArgs) : Refuses s (setFleet a s) := by
  unfold setFleet
  split
  · exact refuses_with _ s
  · exact refuses_tested .powerFail (by simp [warned]) _

theorem refuses_setCentre (centre : Arg Nat) (label : Arg Text) : Refuses s (setCentre centre label s) := by
  unfold setCentre
  split
  · exact refuses_with _ s
  · exact refuses_tested .powerFail (by simp [warned]) _

theorem refuses_setHall (a : SetHallArgs) : Refuses s (Machine.setHall a s) :=
  refuses_tested .powerFail (by simp [warned]) _

theorem refuses_setMeter (a : SetMeterArgs) : Refuses s (Machine.setMeter a s) := by
  unfold Machine.setMeter
  dsimp only
  split
  · exact refuses_with _ s
  · split <;> exact refuses_with _ s
  · exact refuses_tested .powerFail (by simp [warned]) _

theorem refuses_setClock (min : Arg Nat) : Refuses s (Machine.setClock min s) := by
  cases min with
  | absent | bad => exact refuses_with _ s
  | val m => exact refuses_tested .powerFail (by simp [warned]) _

theorem refuses_openDay (day : Arg Nat) : Refuses s (Machine.openDay day s) := by
  unfold Machine.openDay
  split
  · exact refuses_with _ s
  · exact refuses_tested .powerFail (by simp [warned]) _

theorem closeDay_warned : Machine.closeDay s = refuse .powerFail s := tested_fails warned ..

theorem refuses_openSession (centre : Arg Nat) : Refuses s (openSession centre s) := by
  unfold openSession
  split
  · exact refuses_with _ s
  · exact refuses_tested .powerFail (by simp [warned]) _

theorem suspendSession_warned : suspendSession s = refuse .powerFail s := if_pos warned

theorem resumeSession_warned : resumeSession s = refuse .powerFail s := if_pos warned

theorem endSession_warned : endSession s = refuse .powerFail s := if_pos warned

theorem refuses_onReceiver (ser : Arg Nat) (act : Receiver → Verdict) : Refuses s (onReceiver ser s act) := by
  unfold onReceiver
  split
  · exact refuses_with _ s
  · rw [if_pos warned]
    exact refuses_with _ s

theorem refuses_clearDebt (badge : Arg Nat) : Refuses s (clearDebt badge s) := by
  unfold clearDebt
  split
  · exact refuses_with _ s
  · rw [if_pos warned]
    exact refuses_with _ s

theorem refuses_releaseSettlements (seq : Arg Nat) : Refuses s (Machine.releaseSettlements seq s) := by
  cases seq with
  | absent | bad => exact refuses_with _ s
  | val n => exact refuses_tested .powerFail (by simp [warned]) _

theorem restart_warned : restart s = refuse .powerFail s := if_pos warned

theorem refuses_restartHold (valued : Bool) : Refuses s (restartHold valued s) :=
  refuses_tested .powerFail (by simp [warned]) _

theorem refuses_order {i : Instr} {tag : Tag} {f : State → Verdict} (means : orderMeaning i = some (tag, f))
    (named : i.refusedByPfw = true) : Refuses s (f s) := by
  cases i <;> cases means
  case setChannel => exact refuses_setChannel warned _
  case setBooth => exact refuses_setBooth warned _
  case setConsole => exact refuses_setConsole warned _ _
  case setRelayList => exact refuses_setRelayList warned _ _
  case setTariff a =>
    exact refuses_setTariff warned (Bool.not_eq_true' _ ▸ named)
  case setFleet => exact refuses_setFleet warned _
  case setCentre => exact refuses_setCentre warned _ _
  case setHall => exact refuses_setHall warned _
  case setMeter => exact refuses_setMeter warned _
  case setClock => exact refuses_setClock warned _
  case openDay => exact refuses_openDay warned _
  case closeDay => exact ⟨_, closeDay_warned warned⟩
  case openSession => exact refuses_openSession warned _
  case suspendSession => exact ⟨_, suspendSession_warned warned⟩
  case resumeSession => exact ⟨_, resumeSession_warned warned⟩
  case endSession => exact ⟨_, endSession_warned warned⟩
  case declareLost | markFaulty | markRepaired | removeReceiver => exact refuses_onReceiver warned _ _
  case clearDebt => exact refuses_clearDebt warned _
  case releaseSettlements => exact refuses_releaseSettlements warned _
  case restart => exact ⟨_, restart_warned warned⟩
  case restartHold => exact refuses_restartHold warned _
  all_goals cases named

theorem issue_warned {d : DeskId} {ser badge : Serial} {tar : TariffId} {ch : ChannelId} {bat : Nat}
    (isOpen : s.hall.dayOpen = true) : issue d ser badge tar ch bat s = refuse .powerFail s := by
  unfold issue
  dsimp only
  rw [isOpen]
  exact if_pos warned

theorem changeLanguage_warned (d : DeskId) (ser : Serial) (ch : ChannelId) :
    changeLanguage d ser ch s = refuse .powerFail s := if_pos warned

theorem returnReceiver_warned (d : DeskId) (ser : Serial) (cond : ReturnCond) (bat : Nat) :
    returnReceiver d ser cond bat s = refuse .powerFail s := if_pos warned

theorem refuses_request {i : Instr} {d : DeskId} {tag : Tag} {f : State → Verdict}
    (means : requestMeaning i = some (d, tag, f)) (named : i.refusedByPfw = true) : Refuses s (f s) := by
  cases i <;> cases means
  case issue =>
    cases isOpen : s.hall.dayOpen with
    | true => exact ⟨_, issue_warned warned isOpen⟩
    | false =>
      refine ⟨.dayClosed, ?_⟩
      unfold issue
      dsimp only
      rw [isOpen]
      rfl
  case language => exact ⟨_, changeLanguage_warned warned ..⟩
  case returnRcv => exact ⟨_, returnReceiver_warned warned ..⟩
  case query => cases named

/-! ### The code where no earlier test fails -/

omit warned in
theorem rangeOnly_needSerial {n : Nat} (fits : n ≤ maxCount) : rangeOnly (needSerial (.val n)) = .ok (BitVec.ofNat 32 n) := by
  simp [needSerial, fits, rangeOnly]

theorem onReceiver_warned {n : Nat} (fits : n ≤ maxCount) (act : Receiver → Verdict) :
    onReceiver (.val n) s act = refuse .powerFail s := by
  unfold onReceiver
  rw [rangeOnly_needSerial fits]
  exact if_pos warned

theorem clearDebt_warned {n : Nat} (fits : n ≤ maxCount) : clearDebt (.val n) s = refuse .powerFail s := by
  unfold clearDebt
  rw [rangeOnly_needSerial fits]
  exact if_pos warned

theorem setChannel_warned {c : ChannelId} {a : SetChannelArgs} (channel : a.ch = .val c.val) (good : a.malformed = false) :
    Machine.setChannel a s = refuse .powerFail s := by
  rw [setChannel_taken channel, tested_passes good]
  exact tested_fails warned ..

theorem setBooth_warned {b : BoothId} {a : SetBoothArgs} (booth : a.booth = .val (numOf b)) (good : a.malformed = false)
    (outputs : outOfPlan a = false) : Machine.setBooth a s = refuse .powerFail s := by
  rw [setBooth_taken booth, tested_passes outputs, tested_passes good]
  exact tested_fails warned ..

theorem setConsole_warned (a : ConsoleId) (b : Option BoothId) :
    Machine.setConsole (.val (numOf a)) (.val (b.map numOf)) s = refuse .powerFail s := by
  rw [setConsole_taken rfl, tested_passes (consoleBooth_val b).2, tested_passes (show (Arg.val (b.map numOf)).isBad = false from rfl),
    tested_fails warned]

theorem setTariff_warned {t : TariffId} {a : SetTariffArgs} (class_ : a.tar = .val (numOf t)) (good : a.malformed = false)
    (order : a.isReading = false) (alone : a.defined = .val false → a.givesOther = false) :
    Machine.setTariff a s = refuse .powerFail s := by
  have lone : (a.defined == Arg.val false && a.givesOther) = false := by
    by_cases undefines : a.defined = .val false
    · rw [alone undefines, Bool.and_false]
    · rw [beq_eq_false_iff_ne.mpr undefines, Bool.false_and]
  rw [setTariff_taken order class_, tested_passes good, tested_passes lone, tested_fails warned]

theorem setMeter_warned {m : MeterId} {a : SetMeterArgs} (meter : a.met = .val (numOf m)) (good : a.malformed = false)
    (known : ∀ q, a.qual = .val q → (qualifierOf q).isSome = true) : Machine.setMeter a s = refuse .powerFail s := by
  have inRange : (a.qual.any fun q => (qualifierOf q).isNone) = false := by
    cases given : a.qual with
    | absent | bad => rfl
    | val q => exact Option.isNone_eq_false_iff.mpr (known q given)
  rw [setMeter_taken meter, tested_passes inRange, tested_passes good, tested_fails warned]

theorem setCentre_warned (k : CentreId) {label : Arg Text} (good : label = .absent ∨ ∃ t, label = .val t ∧ labelForm t = true) :
    setCentre (.val k.val) label s = refuse .powerFail s := by
  have inForm : ¬ (label = .bad ∨ ∃ t, label = .val t ∧ labelForm t = false) := by
    rcases good with rfl | ⟨t, rfl, form⟩
    · simp
    · simp [form]
  rw [setCentre_taken rfl, tested_passes (Bool.eq_false_iff.mpr fun bad => inForm ((badLabel_iff label).mp bad)),
    tested_fails warned]

theorem setClock_warned {m : Nat} (fits : m ≤ maxCount) : Machine.setClock (.val m) s = refuse .powerFail s :=
  (tested_passes (decide_eq_false (Nat.not_lt.mpr fits)) ..).trans (tested_fails warned ..)

theorem openDay_warned {d : Nat} (low : 1 ≤ d) (high : d ≤ 9999) : Machine.openDay (.val d) s = refuse .powerFail s := by
  unfold Machine.openDay
  rw [needNat_in low high]
  exact tested_fails warned ..

theorem openSession_warned {k : Nat} (low : 1 ≤ k) (high : k ≤ 15) : openSession (.val k) s = refuse .powerFail s := by
  unfold openSession
  rw [needNat_in low high]
  exact tested_fails warned ..

theorem releaseSettlements_warned {n : Nat} (issued : n ≤ s.hall.account.seq) :
    Machine.releaseSettlements (.val n) s = refuse .powerFail s := by
  rw [releaseSettlements_taken, tested_passes (decide_eq_false (Nat.not_lt.mpr issued)), tested_fails warned]

end

end

/-- Settles O15: every order's tests hold the warning, and where none before it fails its code is the answer. -/
theorem powerFailRefuses : Obligations.PowerFailRefuses := by
  refine ⟨fun s i tag warned tagged named => ⟨fun host p => ?_, fun d desk p => ?_⟩, fun s tag warned p => ?_,
    fun s tag d warned p => ?_⟩
  · obtain ⟨f, means⟩ := orderMeaning_tag tagged host
    obtain ⟨c, e⟩ := refuses_order (s := s.opened) warned means named
    exact ⟨c, refused_of p (exec_order means s) e⟩
  · obtain ⟨f, means⟩ := requestMeaning_tag tagged desk
    obtain ⟨c, e⟩ := refuses_request (s := s.opened) warned means named
    exact ⟨c, deskAnswersNow_of p (exec_request means s) e⟩
  · intro refused range
    refine ⟨fun c a channel good => refused_of p rfl (setChannel_warned (s := s.opened) warned channel good),
      fun b a booth good outA outB => refused_of p rfl (setBooth_warned (s := s.opened) warned booth good
        (inPlan_of fun o given => given.elim (outA o) (outB o))),
      fun a b => refused_of p rfl (setConsole_warned (s := s.opened) warned a b),
      fun b l named => refused_of p rfl ((setRelayList_tested (s := s.opened) named).trans (tested_fails warned ..)),
      fun t a class_ good order alone =>
        refused_of p rfl (setTariff_warned (s := s.opened) warned class_ good order alone),
      fun w a window good => refused_of p rfl ((setFleet_taken (s := s.opened) window).trans
        ((tested_passes good ..).trans (tested_fails warned ..))),
      fun a good => refused_of p rfl (show Machine.setHall a s.opened = _ from
        (tested_passes good ..).trans (tested_fails warned ..)),
      fun m a meter good known => refused_of p rfl (setMeter_warned (s := s.opened) warned meter good known),
      fun k label good => refused_of p rfl (setCentre_warned (s := s.opened) warned k good),
      fun m fits => refused_of p rfl (setClock_warned (s := s.opened) warned fits),
      fun d low high => refused_of p rfl (openDay_warned (s := s.opened) warned low high),
      fun k low high => refused_of p rfl (openSession_warned (s := s.opened) warned low high),
      refused_of p rfl (closeDay_warned (s := s.opened) warned),
      refused_of p rfl (suspendSession_warned (s := s.opened) warned),
      refused_of p rfl (resumeSession_warned (s := s.opened) warned),
      refused_of p rfl (endSession_warned (s := s.opened) warned), fun n fits => ⟨?_, ?_, ?_, ?_, ?_⟩,
      fun n issued => refused_of p rfl (releaseSettlements_warned (s := s.opened) warned issued),
      refused_of p rfl (restart_warned (s := s.opened) warned),
      refused_of p rfl (show restartHold false s.opened = _ from (tested_passes rfl ..).trans (tested_fails warned ..))⟩
    · exact refused_of p rfl (onReceiver_warned (s := s.opened) warned fits _)
    · exact refused_of p rfl (onReceiver_warned (s := s.opened) warned fits _)
    · exact refused_of p rfl (onReceiver_warned (s := s.opened) warned fits _)
    · exact refused_of p rfl (onReceiver_warned (s := s.opened) warned fits _)
    · exact refused_of p rfl (clearDebt_warned (s := s.opened) warned fits)
  · intro refused ser badge tar ch bat cond
    exact ⟨fun isOpen => deskAnswersNow_of p rfl (issue_warned (s := s.opened) warned isOpen),
      deskAnswersNow_of p rfl (changeLanguage_warned (s := s.opened) warned ..),
      deskAnswersNow_of p rfl (returnReceiver_warned (s := s.opened) warned ..)⟩

end Sys2Proof.StepProofs
end

-- ==== Proofs: Stock ====
section
/-! PROOFS. The low-stock test (R99), and the host's orders on a receiver's record and a badge (R114 to R116). -/

namespace Sys2Proof.StepProofs

open Machine

/-! ### The low-stock test -/

/-- `k` is `h` but for the low-stock flags and what is posted. -/
def Flagged (h k : Hall) : Prop := k = { h with lowFired := k.lowFired, work := { h.work with posts := k.work.posts } }

theorem Flagged.trans {h k l : Hall} (p : Flagged h k) (q : Flagged k l) : Flagged h l := by
  unfold Flagged at *
  rw [q, p]

theorem flagged_lowStockTest (before h : Hall) (w : WindowId) : Flagged h (lowStockTest before h w) := by
  unfold lowStockTest
  dsimp only
  split
  · rfl
  · split
    · split <;> rfl
    · rfl

theorem flagged_lowStockTests (before h : Hall) : Flagged h (lowStockTests before h) :=
  foldl_keeps (R := Flagged) (fun _ => rfl) Flagged.trans (fun k w => flagged_lowStockTest before k w) _ h

/-- A window's flag after the test of it: FIRED exactly below the threshold, where the count has changed (R99). -/
def flagAfter (before h : Hall) (w : WindowId) : Bool :=
  if h.stockCount w = before.stockCount w then h.lowFired[w] else decide (h.stockCount w < h.settings.windows[w].lowStock)

theorem lowStockTest_fired (before h : Hall) (a w : WindowId) :
    (lowStockTest before h a).lowFired[w] = if w = a then flagAfter before h w else h.lowFired[w] := by
  have cell (b : Bool) : (vset h.lowFired a b)[w] = if a = w then b else h.lowFired[w] := vset_get ..
  unfold lowStockTest flagAfter
  dsimp only
  by_cases e : w = a
  · rw [if_pos e, ← e]
    by_cases same : before.stockCount w = h.stockCount w
    · rw [if_pos same, if_pos same.symm]
    · rw [if_neg same, if_neg (Ne.symm same)]
      by_cases low : h.stockCount w < h.settings.windows[w].lowStock
      · rw [if_pos low, decide_eq_true low]
        split
        · assumption
        · exact (vset_get ..).trans (if_pos rfl)
      · rw [if_neg low, decide_eq_false low]
        exact (vset_get ..).trans (if_pos rfl)
  · rw [if_neg e]
    split
    · rfl
    · split
      · split
        · rfl
        · exact (cell true).trans (if_neg (Ne.symm e))
      · exact (cell false).trans (if_neg (Ne.symm e))

theorem flagged_flagAfter {before h k : Hall} (p : Flagged h k) (w : WindowId) (stands : k.lowFired[w] = h.lowFired[w]) :
    flagAfter before k w = flagAfter before h w := by
  have count : k.stockCount w = h.stockCount w := by rw [p]; rfl
  have settings : k.settings = h.settings := by rw [p]
  unfold flagAfter
  rw [count, settings, stands]

theorem lowStockTests_fired (before h : Hall) (w : WindowId) :
    (lowStockTests before h).lowFired[w] = flagAfter before h w := by
  have told := foldl_cells (cell := fun h w => h.lowFired[w]) (fun k a x => (lowStockTest_fired before k a x).trans (if_congr List.mem_singleton.symm rfl rfl))
    (fun k a x e => flagged_flagAfter (flagged_lowStockTest before k a) x
      ((lowStockTest_fired before k a x).trans (if_neg e))) ChargeProofs.nodup_ids h w
  exact told.trans (if_pos (mem_ids w))

/-! ### The host's orders -/

section
variable {s : State}

/-- A serial or badge number that is not a number of 32 bits, or none. -/
theorem rangeOnly_outOf {x : Arg Nat} (bad : x = .bad ∨ x.outOf 0 4294967295) : rangeOnly (needSerial x) = .error .range := by
  rcases bad with rfl | rfl | ⟨n, rfl, out⟩
  · rfl
  · rfl
  · have big : ¬ n ≤ maxCount := by
      unfold maxCount
      omega
    simp [needSerial, rangeOnly, big]

theorem onReceiver_outOf {x : Arg Nat} (bad : x = .bad ∨ x.outOf 0 4294967295) (act : Receiver → Verdict) :
    onReceiver x s act = refuse .range s := by
  unfold onReceiver
  rw [rangeOnly_outOf bad]

theorem rangeOnly_toNat (n : Serial) : rangeOnly (needSerial (.val n.toNat)) = .ok n := by
  rw [rangeOnly_needSerial (Nat.le_of_lt_succ n.isLt), BitVec.ofNat_toNat, BitVec.setWidth_eq]

/-- The record the order names, without the power-fail warning. -/
theorem onReceiver_toNat (n : Serial) (act : Receiver → Verdict) (calm : s.pfw = false) :
    onReceiver (.val n.toNat) s act = match s.hall.receiver n with
      | none => refuse .notFound s
      | some r => act r := by
  unfold onReceiver
  rw [rangeOnly_toNat, calm] <;> rfl

theorem onReceiver_none {n : Serial} (act : Receiver → Verdict) (calm : s.pfw = false) (none : s.hall.receiver n = none) :
    onReceiver (.val n.toNat) s act = refuse .notFound s := by
  rw [onReceiver_toNat n act calm, none]

theorem onReceiver_some {n : Serial} {r : Receiver} (act : Receiver → Verdict) (calm : s.pfw = false)
    (found : s.hall.receiver n = some r) : onReceiver (.val n.toNat) s act = act r := by
  rw [onReceiver_toNat n act calm, found]

end

/-- `k` is `h` with the receivers changed and the low-stock tests taken. -/
def Restocked (h k : Hall) : Prop :=
  ∃ l, k = lowStockTests h { h with fleet := { h.fleet with receivers := l } } ∧ k.fleet.receivers = l

theorem restocked (h : Hall) (l : List Receiver) :
    Restocked h (lowStockTests h { h with fleet := { h.fleet with receivers := l } }) :=
  ⟨l, rfl, by rw [(lowStockTests_housed ..).fleet]⟩

section
variable {h k : Hall}

theorem Restocked.eq (p : Restocked h k) : k = { h with
    fleet := { h.fleet with receivers := k.fleet.receivers }
    lowFired := k.lowFired
    work := { h.work with posts := k.work.posts } } := by
  obtain ⟨l, e, own⟩ := p
  have flags := flagged_lowStockTests h { h with fleet := { h.fleet with receivers := l } }
  rw [← e] at flags
  unfold Flagged at flags
  rw [flags]

theorem Restocked.fired (p : Restocked h k) (w : WindowId) :
    k.lowFired[w] = if k.stockCount w = h.stockCount w then h.lowFired[w]
      else decide (k.stockCount w < h.settings.windows[w].lowStock) := by
  obtain ⟨l, e, own⟩ := p
  have count : k.stockCount w = Hall.stockCount { h with fleet := { h.fleet with receivers := l } } w := by
    unfold Hall.stockCount
    rw [own]
  have told := lowStockTests_fired h { h with fleet := { h.fleet with receivers := l } } w
  rw [← e] at told
  rw [told, count]
  rfl

end

/-- What O41 says of an order that moves the record of `n` to `r`. -/
theorem moved_of {s : State} {i : Instr} {tag : Tag} {f : State → Verdict} {n : Serial} {r : Option Receiver} {k : Hall}
    (p : s.takesOrders) (means : exec i s = .next (hostLine tag f s))
    (taken : f s.opened = .wait onlyFleet (.ok .plain []) { s.opened with hall := k }) (moved : Restocked s.hall k)
    (own : k.receiver n = r) (others : ∀ q, q ≠ n → k.receiver q = s.hall.receiver q) :
    ∃ k, s.answerWaits i tag onlyFleet (.ok .plain []) k ∧ k.receiver n = r ∧
      (∀ q, q ≠ n → k.receiver q = s.hall.receiver q) ∧ k.fleet.hires = s.hall.fleet.hires ∧
      k.fleet.badges = s.hall.fleet.badges ∧ k.account = s.hall.account ∧ k.settings = s.hall.settings ∧
      k.channels = s.hall.channels ∧
      ∀ w : WindowId, k.lowFired[w] = if k.stockCount w = s.hall.stockCount w then s.hall.lowFired[w]
        else decide (k.stockCount w < s.hall.settings.windows[w].lowStock) :=
  ⟨k, answerWaits_of p means taken, own, others, by rw [moved.eq], by rw [moved.eq], by rw [moved.eq], by rw [moved.eq],
    by rw [moved.eq], moved.fired⟩

section
variable (h : Hall)

theorem receiver_lowStockTests (before k : Hall) (q : Serial) : (lowStockTests before k).receiver q = k.receiver q := by
  unfold Hall.receiver
  rw [(lowStockTests_housed before k).fleet]

theorem receiver_moveReceiver (r : Receiver) (v : ReceiverState) (q : Serial) :
    (moveReceiver r v h).receiver q = if r.serial = q then some { r with state := v } else h.receiver q := by
  unfold moveReceiver
  rw [receiver_lowStockTests, receiver_putReceiver]

theorem restocked_moveReceiver (r : Receiver) (v : ReceiverState) : Restocked h (moveReceiver r v h) := restocked h _

end

/-- Settles O41: each order finds its record or refuses, and moves that record alone. -/
theorem receiverOrders : Obligations.ReceiverOrders := by
  refine ⟨fun s tag x p bad => ?_, fun s tag n p => ?_⟩
  · intro refused
    refine ⟨refused_of p rfl (onReceiver_outOf (s := s.opened) bad _), refused_of p rfl (onReceiver_outOf (s := s.opened) bad _),
      refused_of p rfl (onReceiver_outOf (s := s.opened) bad _), refused_of p rfl ?_⟩
    unfold clearDebt
    rw [rangeOnly_outOf bad]
  intro h moves refused faulty repaired remove clear
  have calm := ready_pfw p
  constructor
  · cases found : h.receiver n with
    | none =>
      exact ⟨refused_of p.1 rfl (onReceiver_none (s := s.opened) _ calm found),
        refused_of p.1 rfl (onReceiver_none (s := s.opened) _ calm found),
        refused_of p.1 rfl (onReceiver_none (s := s.opened) _ calm found)⟩
    | some r =>
      have serial := receiver_serial found
      have entered (v : ReceiverState) : (moveReceiver r v h).receiver n = some { r with state := v } :=
        (receiver_moveReceiver h r v n).trans (if_pos serial)
      have others (v : ReceiverState) (q : Serial) (ne : q ≠ n) : (moveReceiver r v h).receiver q = h.receiver q :=
        (receiver_moveReceiver h r v q).trans (if_neg fun e => ne (e.symm.trans serial))
      refine ⟨⟨fun stock => ?_, fun not => ?_⟩, ⟨fun broken => ?_, fun not => ?_⟩, ⟨fun here => ?_, fun not => ?_⟩⟩
      · exact moved_of p.1 rfl ((onReceiver_some (s := s.opened) _ calm found).trans (if_pos stock))
          (restocked_moveReceiver h r .faulty) (entered .faulty) (others .faulty)
      · exact refused_of p.1 rfl ((onReceiver_some (s := s.opened) _ calm found).trans (if_neg not))
      · exact moved_of p.1 rfl ((onReceiver_some (s := s.opened) _ calm found).trans (if_pos broken))
          (restocked_moveReceiver h r .stock) (entered .stock) (others .stock)
      · exact refused_of p.1 rfl ((onReceiver_some (s := s.opened) _ calm found).trans (if_neg not))
      · refine moved_of p.1 rfl ((onReceiver_some (s := s.opened) _ calm found).trans (if_pos here)) (restocked h _) ?_
          fun q ne => ?_
        · rw [receiver_lowStockTests, receiver_dropReceiver]
          exact if_pos serial
        · rw [receiver_lowStockTests, receiver_dropReceiver]
          exact if_neg fun e => ne (e.symm.trans serial)
      · exact refused_of p.1 rfl ((onReceiver_some (s := s.opened) _ calm found).trans (if_neg not))
  · have named : clearDebt (.val n.toNat) s.opened = match h.badge n with
        | none => refuse .notFound s.opened
        | some b => .wait onlyFleet (.ok (.was b.debt) []) { s.opened with hall := h.putBadge { b with debt := 0 } } := by
      unfold clearDebt
      rw [rangeOnly_toNat]
      exact if_neg (by rw [calm]; nofun)
    cases found : h.badge n with
    | none =>
      rw [found] at named
      exact refused_of p.1 rfl named
    | some b =>
      rw [found] at named
      refine ⟨h.putBadge { b with debt := 0 }, answerWaits_of p.1 rfl named, rfl, ?_, fun q ne => ?_⟩
      · have number : b.number = n := badge_number found
        rw [badge_putBadge, if_pos (show ({ b with debt := 0 } : Badge).number = n from number), if_congr (and_iff_left rfl) rfl rfl]
      · rw [badge_putBadge]
        exact if_neg fun e : b.number = q => ne (e.symm.trans (badge_number found))

end Sys2Proof.StepProofs
end

-- ==== Proofs: Language ====
section
/-! PROOFS. What the hire unit's operations leave alone, and LANGUAGE (R108). -/

namespace Sys2Proof.StepProofs

open Machine

/-! ### The frame of the hire unit -/

/-- `k` is `h` but for the fleet, its low-stock flags, and what the events of the carrier allocator and the meter unit move. -/
def Managed (h k : Hall) : Prop := k = { h with
  fleet := k.fleet
  lowFired := k.lowFired
  account := { h.account with channels := k.account.channels }
  channels := k.channels
  air := k.air
  link := k.link
  meters := k.meters
  levels := k.levels
  free := k.free
  work := k.work }

section
variable {h k l : Hall}

theorem Managed.trans (p : Managed h k) (q : Managed k l) : Managed h l := by
  unfold Managed at *
  rw [q, p]

theorem Managed.settings (p : Managed h k) : k.settings = h.settings := by rw [p]
theorem Managed.clock (p : Managed h k) : k.clock = h.clock := by rw [p]
theorem Managed.account (p : Managed h k) : k.account = { h.account with channels := k.account.channels } := by rw [p]

theorem Refleeted.managed (p : Refleeted h k) : Managed h k := by
  unfold Refleeted at p
  unfold Managed
  rw [p]

theorem Flagged.managed (p : Flagged h k) : Managed h k := by
  unfold Flagged at p
  unfold Managed
  rw [p]

theorem Allotted.managed (p : Allotted h k) : Managed h k := by
  have eq := p.eq
  unfold Managed
  rw [eq]

end

section
variable (h : Hall)

theorem managed_putHire (x : Hire) : Managed h (h.putHire x) := rfl
theorem managed_dropHire (n : Nat) : Managed h (h.dropHire n) := rfl
theorem managed_putReceiver (r : Receiver) : Managed h (h.putReceiver r) := rfl

theorem managed_modChannel (c : ChannelId) (f : ChannelRun → ChannelRun) : Managed h (h.modChannel c f) := rfl

theorem managed_demand (c : ChannelId) (f : ChannelRun → ChannelRun) : Managed h (allocEvent reorder (h.modChannel c f)) := by
  have told : Allotted (h.modChannel c f) (allocEvent reorder (h.modChannel c f)) :=
    allotted_allocEvent _ (allotted_aired _ rfl)
  exact (managed_modChannel h c f).trans told.managed

theorem managed_demandRise (c : ChannelId) : Managed h (demandRise c h) := managed_demand h c _

theorem managed_demandFall (c : ChannelId) : Managed h (demandFall c h) := managed_demand h c _

theorem managed_moveHire (d : ChannelId) (x : Hire) : Managed h (moveHire d h x) :=
  ((managed_putHire h _).trans (managed_demandFall _ _)).trans (managed_demandRise _ _)

theorem managed_meterEvent (e : MeterEvent) : Managed h (meterEvent e h) := (refleeted_meterEvent h e).managed

theorem managed_handOpenHires : Managed h (handOpenHires h) := (allotted_metered h (metered_handOpenHires h)).managed

theorem managed_lowStockTests (before : Hall) : Managed h (lowStockTests before h) := (flagged_lowStockTests before h).managed

theorem managed_settleBadge (x : Hire) (owe : Nat) : Managed h (settleBadge x owe h) := by
  unfold settleBadge
  split <;> rfl

end

/-! ### LANGUAGE -/

section
variable {s : State} {d : DeskId} {ser : Serial} {ch : ChannelId} {x : Hire}

theorem moved_fields (h : Hall) (x : Hire) (d : ChannelId) : h.moved x d = { x with
    unserved := min (x.unserved + (h.outage x.preset - x.snapshot)) 4294967295
    snapshot := h.outage d
    preset := d
    stale := x.stale || h.clock.stale } := rfl

theorem managed_retune (h : Hall) : Managed h (retune d x ch h) := (managed_moveHire h ch x).trans (managed_meterEvent _ _)

theorem retune_fleet (h : Hall) : (retune d x ch h).fleet = (moveHire ch h x).fleet := meterEvent_fleet _ _

theorem hire_retune (h : Hall) (n : Nat) :
    (retune d x ch h).hire n = if x.number = n then some (h.moved x ch) else h.hire n := by
  rw [← hire_moveHire]
  unfold Hall.hire
  rw [retune_fleet]

theorem retune_demand (h : Hall) (moves : x.preset ≠ ch) (c : ChannelId) : (retune d x ch h).channels[c].demand =
    if c = ch then h.channels[c].demand + 1
    else if c = x.preset then h.channels[c].demand - 1
    else h.channels[c].demand := by
  have told : (retune d x ch h).channels = (moveHire ch h x).channels := by
    have p := refleeted_meterEvent (moveHire ch h x) (hireEvent .language d x.tariff ch)
    unfold Refleeted at p
    unfold retune
    rw [p]
  rw [told, moveHire_demand]
  by_cases new : c = ch
  · rw [if_pos new, if_pos new, if_neg fun e => moves (e.symm.trans new), Nat.sub_zero]
  · rw [if_neg new, if_neg new]
    split <;> rfl

/-- The tests of R108 with no power-fail warning. -/
theorem changeLanguage_calm (calm : s.pfw = false) (found : s.hall.hireOf ser = some x) :
    changeLanguage d ser ch s =
      if !s.hall.settings.channels[ch].enabled then refuse .noChannel s
      else if x.preset = ch then .now (.ok (.language ch) []) s
      else .wait onlyFleet (.ok (.language ch) []) { s with hall := retune d x ch s.hall } := by
  unfold changeLanguage
  rw [if_neg (by rw [calm]; nofun), found]

theorem changeLanguage_none (calm : s.pfw = false) (none : s.hall.hireOf ser = none) :
    changeLanguage d ser ch s = refuse .notIssued s := by
  unfold changeLanguage
  rw [if_neg (by rw [calm]; nofun), none]

end

/-- Settles O37: the hire of the receiver, if it has one, and the move of it to a channel that is another. -/
theorem languageMoves : Obligations.LanguageMoves := by
  intro s d tag ser ch p h i
  have calm : s.opened.pfw = false := p.2.1
  cases found : h.hireOf ser with
  | none => exact deskAnswersNow_of p.1 rfl (changeLanguage_none (s := s.opened) calm found)
  | some x =>
    have test := changeLanguage_calm (s := s.opened) (d := d) (ch := ch) calm found
    refine ⟨fun off => deskAnswersNow_of p.1 rfl (test.trans (if_pos (by rw [Bool.not_eq_true']; exact off))), fun on => ?_⟩
    have passes := test.trans (if_neg fun off => on (Bool.not_eq_true' _ ▸ off))
    refine ⟨fun same => deskAnswersNow_of p.1 rfl (passes.trans (if_pos same)), fun moves => ?_⟩
    have frame := managed_retune (d := d) (x := x) (ch := ch) h
    have hires := hire_retune (d := d) (x := x) (ch := ch) h
    have demand := retune_demand (d := d) h moves
    have fleet := retune_fleet (d := d) (x := x) (ch := ch) h
    rw [moveHire_fleet] at fleet
    refine ⟨retune d x ch h, deskAnswerWaits_of p.1 rfl (passes.trans (if_neg moves)), ?_⟩
    generalize retune d x ch h = k at frame hires demand fleet
    refine ⟨?_, fun n other => ?_, by rw [fleet]; rfl, by rw [fleet]; rfl, frame.settings, frame.clock, ?_, ?_, ?_, demand⟩
    · rw [hires, if_pos rfl, moved_fields]
    · rw [hires, if_neg (Ne.symm other)]
    · rw [frame.account]
    · rw [frame.account]
    · rw [frame.account]

end Sys2Proof.StepProofs
end

-- ==== Proofs: Issue ====
section
/-! PROOFS. ISSUE (R106, R107): the receiver presented, the tests in turn, and the hire opened. -/

namespace Sys2Proof.StepProofs

open Machine

theorem Refleeted.account {h k : Hall} (p : Refleeted h k) : k.account = h.account := by rw [p]

theorem Flagged.account {h k : Hall} (p : Flagged h k) : k.account = h.account := by rw [p]

/-! ### The receiver presented (R101) -/

/-- `g` is `h` with the record `r` of the serial among the receivers. -/
structure Entered (ser : Serial) (r : Receiver) (h g : Hall) : Prop where
  eq : g = { h with fleet := { h.fleet with receivers := g.fleet.receivers } }
  serial : r.serial = ser
  own : g.receiver ser = some r
  others : ∀ q, q ≠ ser → g.receiver q = h.receiver q

section
variable {h g : Hall} {ser : Serial} {r : Receiver} {w : WindowId}

theorem presented_known (known : h.receiver ser = some r) : presented ser h = .ok (r, h, false) := by
  unfold presented
  rw [known]

theorem presented_foreign (unknown : h.receiver ser = none) (foreign : h.windowOf ser = none) :
    presented ser h = .error .foreign := by
  unfold presented
  rw [unknown, foreign]

theorem presented_full (unknown : h.receiver ser = none) (claimed : h.windowOf ser = some w)
    (full : 4096 ≤ h.fleet.receivers.length) : presented ser h = .error .tableFull := by
  unfold presented
  rw [unknown, claimed]
  exact if_pos (decide_eq_true full)

theorem presented_created (unknown : h.receiver ser = none) (claimed : h.windowOf ser = some w)
    (room : h.fleet.receivers.length < 4096) :
    presented ser h = .ok (⟨ser, w, .stock, 0, none⟩, createReceiver ser w h, true) := by
  unfold presented
  rw [unknown, claimed]
  exact if_neg fun full => absurd (of_decide_eq_true full) (Nat.not_le.mpr room)

theorem entered_known (known : h.receiver ser = some r) : Entered ser r h h :=
  ⟨rfl, receiver_serial known, known, fun _ _ => rfl⟩

theorem entered_created (ser : Serial) (w : WindowId) (h : Hall) :
    Entered ser ⟨ser, w, .stock, 0, none⟩ h (createReceiver ser w h) :=
  ⟨rfl, rfl, (receiver_putReceiver ..).trans (if_pos rfl), fun _ ne => (receiver_putReceiver ..).trans (if_neg (Ne.symm ne))⟩

/-- A receiver that has its record, or for which there is room, is presented. -/
theorem presented_given (given : h.receiver ser = some r ∨
      h.receiver ser = none ∧ ∃ w, h.windowOf ser = some w ∧ r = ⟨ser, w, .stock, 0, none⟩)
    (room : h.receiver ser = none → h.fleet.receivers.length < 4096) :
    ∃ g new, presented ser h = .ok (r, g, new) ∧ Entered ser r h g ∧
      ifElse (h.receiver ser = none) (new = true) (new = false ∧ g = h) := by
  rcases given with known | ⟨unknown, w, claimed, rfl⟩
  · exact ⟨h, false, presented_known known, entered_known known,
      ⟨fun none => absurd (known.symm.trans none) (by nofun), fun _ => ⟨rfl, rfl⟩⟩⟩
  · exact ⟨createReceiver ser w h, true, presented_created unknown claimed (room unknown), entered_created ser w h,
      ⟨fun _ => rfl, fun known => absurd unknown known⟩⟩

theorem drawNumber_hires {h g : Hall} (hires : g.fleet.hires = h.fleet.hires) (fuel n : Nat) :
    drawNumber g fuel n = drawNumber h fuel n := by
  induction fuel generalizing n with
  | zero => rfl
  | succ fuel ih =>
    have same : g.hire n = h.hire n := by
      unfold Hall.hire
      rw [hires]
    unfold drawNumber
    rw [same, ih]

section
variable (p : Entered ser r h g)
include p

theorem Entered.settings : g.settings = h.settings := by rw [p.eq]
theorem Entered.account : g.account = h.account := by rw [p.eq]
theorem Entered.clock : g.clock = h.clock := by rw [p.eq]
theorem Entered.channels : g.channels = h.channels := by rw [p.eq]
theorem Entered.hires : g.fleet.hires = h.fleet.hires := by rw [p.eq]
theorem Entered.badges : g.fleet.badges = h.fleet.badges := by rw [p.eq]

theorem Entered.hire (n : Nat) : g.hire n = h.hire n := by
  unfold Hall.hire
  rw [p.hires]

theorem Entered.badge (q : Serial) : g.badge q = h.badge q := by
  unfold Hall.badge
  rw [p.badges]

theorem Entered.nextNumber : g.nextNumber = h.nextNumber := by
  unfold Hall.nextNumber
  rw [p.account, drawNumber_hires p.hires]

theorem Entered.issueTests (badge : Serial) (tar : TariffId) (ch : ChannelId) :
    issueTests g badge tar ch = issueTests h badge tar ch := by
  unfold Machine.issueTests
  rw [p.settings, p.badge, p.badges]

end

end

/-! ### The tests (R106) -/

section
variable {s : State} {d : DeskId} {tag : Tag} {ser badge : Serial} {tar : TariffId} {ch : ChannelId} {bat : Nat}

theorem issue_closed (closed : s.hall.dayOpen = false) : issue d ser badge tar ch bat s = refuse .dayClosed s := by
  unfold issue
  dsimp only
  rw [closed]
  rfl

section
variable (isOpen : s.hall.dayOpen = true) (calm : s.pfw = false)
include isOpen calm

theorem issue_absent {c : AnswerCode} (absent : presented ser s.hall = .error c) :
    issue d ser badge tar ch bat s = refuse c s := by
  unfold issue
  dsimp only
  rw [isOpen, if_neg (by nofun), if_neg (by rw [calm]; nofun), absent]

theorem issue_presented {r : Receiver} {g : Hall} {new : Bool} (shown : presented ser s.hall = .ok (r, g, new)) :
    issue d ser badge tar ch bat s =
      if r.state ≠ .stock then refusePresented .notStock new s.hall g s
      else if min bat 100 < g.settings.hall.minBattery then
        .wait onlyFleet (.er .lowBattery)
          { s with hall := lowStockTests s.hall (refuseBattery d r tar ch (min bat 100) g) }
      else
        match firstFailing (issueTests g badge tar ch) with
        | some c => refusePresented c new s.hall g s
        | none =>
          .wait fleetAccount (.ok (.issued g.nextNumber g.settings.tariffs[tar].deposit
              (if g.settings.tariffs[tar].limit = 0 then none else some (g.now + g.settings.tariffs[tar].limit)))
              (clampMark "BAT" 0 100 (.val bat)))
            { s with hall := lowStockTests s.hall (openHire d r badge tar ch (min bat 100) g) } := by
  unfold issue
  dsimp only
  rw [isOpen, if_neg (by nofun), if_neg (by rw [calm]; nofun), shown] <;> rfl

end

/-- A refusal after the receiver was presented: its answer waits where the record was created for it. -/
theorem presentedRefused_of {i : Instr} {f : State → Verdict} {r : Receiver} {g : Hall} {new : Bool} {c : AnswerCode}
    (p : s.takesRequests d) (means : exec i s = .next (deskLine d tag f s)) (entered : Entered ser r s.hall g)
    (created : ifElse (s.hall.receiver ser = none) (new = true) (new = false ∧ g = s.hall))
    (refused : f s.opened = refusePresented c new s.hall g s.opened) :
    ifElse (s.hall.receiver ser = none)
      (∃ k, s.deskAnswerWaits d i tag onlyFleet (.er c) k ∧ k.receiver ser = some r ∧
        k.fleet.hires = s.hall.fleet.hires ∧ k.fleet.badges = s.hall.fleet.badges ∧ k.account = s.hall.account)
      (s.deskAnswersNow d i tag (.er c) s.hall) := by
  refine ⟨fun unknown => ?_, fun known => ?_⟩
  · rw [created.1 unknown] at refused
    have flags := flagged_lowStockTests s.hall g
    have tables := (lowStockTests_housed s.hall g).fleet
    refine ⟨lowStockTests s.hall g, deskAnswerWaits_of p means refused, ?_, ?_, ?_, ?_⟩
    · rw [receiver_lowStockTests, entered.own]
    · rw [tables, entered.hires]
    · rw [tables, entered.badges]
    · rw [flags]
      exact entered.account
  · rw [(created.2 known).1] at refused
    exact deskAnswersNow_of p means refused

/-- The first failing test of a chain, or the rest of the chain. -/
theorem ifElse_first {b : Bool} {P A Q : Prop} {c : AnswerCode} {l : List (Bool × AnswerCode)} {o : Option AnswerCode}
    (test : o = firstFailing ((b, c) :: l)) (words : b = true ↔ P) (fails : o = some c → A)
    (passes : o = firstFailing l → Q) : ifElse P A Q :=
  ⟨fun holds => fails (test.trans (if_pos (words.mpr holds))), fun not =>
    passes (test.trans (if_neg fun e => not (words.mp e)))⟩

theorem badge_any {h : Hall} (f : Badge → Bool) : (h.badge badge).any f = true ↔ ∃ e, h.badge badge = some e ∧ f e = true := by
  cases h.badge badge <;> simp

end

section
variable {s : State} {d : DeskId} {tag : Tag} {ser badge : Serial} {tar : TariffId} {ch : ChannelId} {bat : Nat}

/-- What a refusal at the battery test leaves. -/
theorem refuseBattery_does {h g : Hall} {r : Receiver} (p : Entered ser r h g) (level : Nat) :
    let k := lowStockTests h (refuseBattery d r tar ch level g)
    k.receiver ser = some { r with battery := some level } ∧ k.fleet.hires = h.fleet.hires ∧ k.account = h.account := by
  have told := refleeted_meterEvent (g.putReceiver { r with battery := some level }) (hireEvent .lowBattery d tar ch)
  have fleet : (refuseBattery d r tar ch level g).fleet = (g.putReceiver { r with battery := some level }).fleet :=
    meterEvent_fleet _ _
  have tables := (lowStockTests_housed h (refuseBattery d r tar ch level g)).fleet
  have flags := flagged_lowStockTests h (refuseBattery d r tar ch level g)
  refine ⟨?_, ?_, ?_⟩
  · have lookup : (lowStockTests h (refuseBattery d r tar ch level g)).receiver ser =
        (g.putReceiver { r with battery := some level }).receiver ser := by
      unfold Hall.receiver
      rw [tables, fleet]
    exact lookup.trans ((receiver_putReceiver ..).trans (if_pos p.serial))
  · exact (congrArg Fleet.hires (tables.trans fleet)).trans p.hires
  · exact flags.account.trans (told.account.trans p.account)

end

/-- Settles O36: the tests of R106 one after another, on the record that the request found or created. -/
theorem issueRefused : Obligations.IssueRefused := by
  intro s d tag ser badge tar ch bat p rest h i now
  have pfw : s.opened.pfw = s.pfw := rfl
  refine ⟨fun closed => deskAnswersNow_of p rfl (issue_closed (s := s.opened) closed), fun notClosed => ?_⟩
  have isOpen : s.opened.hall.dayOpen = true := Bool.eq_true_of_not_eq_false notClosed
  refine ⟨fun warned => deskAnswersNow_of p rfl (issue_warned (s := s.opened) warned isOpen), fun notWarned => ?_⟩
  have calm : s.opened.pfw = false := Bool.eq_false_iff.mpr notWarned
  refine ⟨fun ⟨unknown, foreign⟩ => deskAnswersNow_of p rfl (issue_absent (s := s.opened) isOpen calm
    (presented_foreign unknown foreign)), fun claimed => ?_⟩
  refine ⟨fun ⟨unknown, full⟩ => ?_, fun notFull => ?_⟩
  · obtain ⟨w, window⟩ := Option.ne_none_iff_exists'.mp fun foreign => claimed ⟨unknown, foreign⟩
    exact deskAnswersNow_of p rfl (issue_absent (s := s.opened) isOpen calm (presented_full unknown window full))
  intro r given refused
  obtain ⟨g, new, shown, entered, created⟩ := presented_given given fun unknown => Nat.lt_of_not_le fun full =>
    notFull ⟨unknown, full⟩
  have test := issue_presented (s := s.opened) (d := d) (badge := badge) (tar := tar) (ch := ch) (bat := bat) isOpen calm shown
  refine ⟨fun out => presentedRefused_of p rfl entered created (test.trans (if_pos out)), fun stock => ?_⟩
  replace test := test.trans (if_neg stock)
  rw [entered.settings] at test
  refine ⟨fun low => ⟨_, deskAnswerWaits_of p rfl (test.trans (if_pos low)), refuseBattery_does entered _⟩, fun charged => ?_⟩
  replace test := test.trans (if_neg charged)
  have refuses {c : AnswerCode} (first : firstFailing (issueTests h badge tar ch) = some c) : refused c := by
    rw [entered.issueTests, first] at test
    exact presentedRefused_of p rfl entered created test
  refine ifElse_first rfl (Bool.not_eq_true' _ ▸ Iff.rfl) refuses fun first => ?_
  refine ifElse_first first (Bool.not_eq_true' _ ▸ Iff.rfl) refuses fun first => ?_
  refine ifElse_first first ((badge_any _).trans (by simp only [decide_eq_true_iff])) refuses fun first => ?_
  refine ifElse_first first ((badge_any _).trans (by simp only [decide_eq_true_iff])) refuses fun first => ?_
  intro unlisted full
  have fails : ((h.badge badge).isNone && decide (4096 ≤ h.fleet.badges.length)) = true := by
    rw [unlisted, decide_eq_true full]
    rfl
  exact refuses (first.trans (if_pos fails))

end Sys2Proof.StepProofs
end

-- ==== Proofs: Opened ====
section
/-! PROOFS. The hire that an accepted ISSUE opens (R107). -/

namespace Sys2Proof.StepProofs

open Machine

theorem managed_booked (h : Hall) (x : Hire) (r : Receiver) (b : Badge) :
    Managed { h with account := { h.account with hireCounter := x.number } } (booked x r b h) := rfl

theorem peakRaised_channels (h : Hall) : (peakRaised h).channels = h.channels := rfl

theorem peakRaised_fleet (h : Hall) : (peakRaised h).fleet = h.fleet := rfl

section
variable (h : Hall) (d : DeskId) (r : Receiver) (badge : Serial) (tar : TariffId) (ch : ChannelId) (bat : Nat)

/-- The hall with the hire booked and the demand raised, before the peak and the meter unit's part. -/
def bookedOn : Hall :=
  demandRise ch (booked (newHire d r.serial badge tar ch h) (issuedReceiver r bat h) (listedBadge badge h) h)

theorem openHire_booked : openHire d r badge tar ch bat h =
    meterEvent (hireEvent .issue d tar ch) (handOpenHires (peakRaised (bookedOn h d r badge tar ch bat))) := openHire_eq ..

theorem hire_openHire (n : Nat) : (openHire d r badge tar ch bat h).hire n =
    if h.nextNumber = n then some (newHire d r.serial badge tar ch h) else h.hire n := by
  unfold Hall.hire
  rw [openHire_fleet]
  exact hire_putHire h (newHire d r.serial badge tar ch h) n

theorem receiver_openHire (q : Serial) : (openHire d r badge tar ch bat h).receiver q =
    if r.serial = q then some (issuedReceiver r bat h) else h.receiver q := by
  unfold Hall.receiver
  rw [openHire_fleet]
  exact receiver_putReceiver h (issuedReceiver r bat h) q

theorem badge_openHire (q : Serial) : (openHire d r badge tar ch bat h).badge q =
    if (listedBadge badge h).number = q then some (listedBadge badge h) else h.badge q := by
  have listed : ¬ ((listedBadge badge h).hires = [] ∧ (listedBadge badge h).debt = 0) := by simp [listedBadge]
  have entry := badge_putBadge h (listedBadge badge h) q
  rw [if_neg listed] at entry
  unfold Hall.badge at entry ⊢
  rw [openHire_fleet]
  exact entry

theorem openHire_demand (c : ChannelId) : (openHire d r badge tar ch bat h).channels[c].demand =
    if c = ch then h.channels[c].demand + 1 else h.channels[c].demand := by
  have risen := demandRise_demand ch (booked (newHire d r.serial badge tar ch h) (issuedReceiver r bat h) (listedBadge badge h) h) c
  have counted := (stays_metered (metered_handOpenHires (peakRaised (bookedOn h d r badge tar ch bat)))).housed.demand c
  have told := (stays_meterEvent (handOpenHires (peakRaised (bookedOn h d r badge tar ch bat)))
    (hireEvent .issue d tar ch)).housed.demand c
  rw [openHire_booked, told, counted, peakRaised_channels, bookedOn, risen]
  split <;> rfl

/-- The account and the frame of a hire opened. -/
theorem openHire_frame : let k := openHire d r badge tar ch bat h
    k.settings = h.settings ∧ k.clock = h.clock ∧ k.account = { h.account with
      hireCounter := h.nextNumber
      peakHires := max h.account.peakHires k.fleet.hires.length
      channels := k.account.channels } := by
  have risen : Managed { h with account := { h.account with hireCounter := h.nextNumber } } (bookedOn h d r badge tar ch bat) :=
    (managed_booked h (newHire d r.serial badge tar ch h) (issuedReceiver r bat h) (listedBadge badge h)).trans
      (managed_demandRise _ ch)
  have told : Managed (peakRaised (bookedOn h d r badge tar ch bat)) (openHire d r badge tar ch bat h) := by
    rw [openHire_booked]
    exact (managed_handOpenHires _).trans (managed_meterEvent _ _)
  have fleet : (openHire d r badge tar ch bat h).fleet = (bookedOn h d r badge tar ch bat).fleet := by
    rw [openHire_booked, meterEvent_fleet, handOpenHires_fleet, peakRaised_fleet]
  intro k
  change Managed _ k at told
  change k.fleet = _ at fleet
  generalize bookedOn h d r badge tar ch bat = g at risen told fleet
  generalize k = k at told fleet
  refine ⟨told.settings.trans risen.settings, told.clock.trans risen.clock, ?_⟩
  rw [told.account, fleet]
  show ({ g.account with peakHires := max g.account.peakHires g.fleet.hires.length, channels := k.account.channels } : Account) = _
  rw [risen.account]

end

/-- The level of a battery above its range, as the answer marks it (R160). -/
theorem batteryMark (bat : Nat) : clampMark "BAT" 0 100 (.val bat) = if 100 < bat then [.units "BAT" 100] else [] := by
  rw [clampMark_eq _ (by decide)]
  rfl

/-- A badge in good standing, with the hire listed. -/
theorem listedBadge_good {h : Hall} {badge : Serial} (good : ∀ e, h.badge badge = some e → e.debt = 0) :
    listedBadge badge h = ⟨badge, ((h.badge badge).map Badge.hires).getD [] ++ [h.nextNumber], 0⟩ := by
  unfold listedBadge
  cases found : h.badge badge with
  | none => rfl
  | some e =>
    have number := badge_number found
    have debt := good e found
    obtain ⟨m, l, o⟩ := e
    cases number
    cases debt
    rfl

/-- The tests of R106 that a request for a defined class, an ENABLED channel and a badge in good standing passes. -/
theorem issueTests_pass {h : Hall} {badge : Serial} {tar : TariffId} {ch : ChannelId}
    (defined : h.settings.tariffs[tar].defined = true) (enabled : h.settings.channels[ch].enabled = true)
    (good : ∀ e, h.badge badge = some e → e.debt = 0 ∧ e.hires.length < h.settings.hall.badgeLimit)
    (room : h.badge badge = none → h.fleet.badges.length < 4096) : firstFailing (issueTests h badge tar ch) = none := by
  unfold issueTests
  dsimp only
  rw [defined, enabled]
  cases found : h.badge badge with
  | none => simp [firstFailing, room found]
  | some e =>
    obtain ⟨debt, few⟩ := good e found
    simp [firstFailing, debt, few]

section
variable {h k : Hall} (p : Housed h k)
include p

theorem Housed.hire (n : Nat) : k.hire n = h.hire n := by
  unfold Hall.hire
  rw [p.fleet]

theorem Housed.receiver (q : Serial) : k.receiver q = h.receiver q := by
  unfold Hall.receiver
  rw [p.fleet]

theorem Housed.badge (q : Serial) : k.badge q = h.badge q := by
  unfold Hall.badge
  rw [p.fleet]

end

section
variable {h g : Hall} {ser : Serial} {r : Receiver} (p : Entered ser r h g)
include p

theorem Entered.newHire (d : DeskId) (badge : Serial) (tar : TariffId) (ch : ChannelId) :
    newHire d r.serial badge tar ch g = ⟨h.nextNumber, ser, badge, d, tar, h.now,
      if h.settings.tariffs[tar].limit = 0 then none else some (h.now + h.settings.tariffs[tar].limit),
      ch, h.outage ch, 0, h.settings.tariffs[tar].deposit, false, h.clock.stale⟩ := by
  unfold StepProofs.newHire Hall.outage Hall.now
  rw [p.nextNumber, p.serial, p.settings, p.clock, p.account, p.channels]

theorem Entered.issuedReceiver (bat : Nat) : issuedReceiver r bat g =
    { r with state := .issued h.nextNumber, issues := satCount (r.issues + 1), battery := some bat } := by
  unfold StepProofs.issuedReceiver
  rw [p.nextNumber]

theorem Entered.listedBadge (badge : Serial) : listedBadge badge g = listedBadge badge h := by
  unfold StepProofs.listedBadge
  rw [p.nextNumber, p.badge]

end

/-- Settles O35: the number drawn is free, and a request that passes every test opens its hire. -/
theorem issueAccepted : Obligations.IssueAccepted := by
  refine ⟨fun h room => ⟨nextNumber_free h room, nextNumber_range h⟩, fun s d tag ser badge tar ch bat r p => ?_⟩
  intro h f level given stock isOpen charged defined enabled good room n due others
  obtain ⟨g, new, shown, entered, -⟩ := presented_given (given.imp id fun ⟨unknown, _, window⟩ => ⟨unknown, window⟩)
    fun unknown => (given.resolve_left fun known => absurd (unknown.symm.trans known) (by nofun)).2.1
  have test := issue_presented (s := s.opened) (d := d) (badge := badge) (tar := tar) (ch := ch) (bat := bat) isOpen p.2.1 shown
  rw [entered.issueTests, issueTests_pass defined enabled good room, if_neg (not_not_intro stock), entered.settings,
    if_neg (Nat.not_lt.mpr charged), entered.nextNumber, batteryMark, show g.now = h.now from congrArg Clock.minute entered.clock]
    at test
  have answer := deskAnswerWaits_of (i := .issue d tag ser badge tar ch bat) (tag := tag) p.1 rfl test
  have housed := lowStockTests_housed h (openHire d r badge tar ch level g)
  have flags := flagged_lowStockTests h (openHire d r badge tar ch level g)
  obtain ⟨settings, clock, account⟩ := openHire_frame g d r badge tar ch level
  have hires := hire_openHire g d r badge tar ch level
  have receivers := receiver_openHire g d r badge tar ch level
  have badges := badge_openHire g d r badge tar ch level
  have demand := openHire_demand g d r badge tar ch level
  rw [entered.newHire, entered.nextNumber] at hires
  rw [entered.issuedReceiver] at receivers
  rw [entered.listedBadge, listedBadge_good fun e found => (good e found).1] at badges
  rw [entered.nextNumber, entered.account] at account
  refine ⟨lowStockTests h (openHire d r badge tar ch level g), answer, ?_⟩
  clear answer test
  generalize openHire d r badge tar ch level g = o at *
  generalize lowStockTests h o = k at *
  have kept : k.account = o.account := flags.account
  refine ⟨?_, fun m other => ?_, ?_, fun q other => ?_, ?_, fun q other => ?_, fun c => ?_, ?_, ?_, ?_, ?_,
    flags.managed.settings.trans (settings.trans entered.settings), flags.managed.clock.trans (clock.trans entered.clock)⟩
  · rw [housed.hire, hires, if_pos rfl]
  · rw [housed.hire, hires, if_neg (Ne.symm other), entered.hire]
  · rw [housed.receiver, receivers, if_pos entered.serial]
  · rw [housed.receiver, receivers, if_neg fun same => other (same.symm.trans entered.serial), entered.others q other]
  · rw [housed.badge, badges, if_pos rfl]
  · rw [housed.badge, badges, if_neg (Ne.symm other), entered.badge]
  · rw [housed.demand, demand, entered.channels]
  · rw [kept, account]
  · rw [kept, account, housed.fleet]
  · rw [kept, account]
  · rw [kept, account]

end Sys2Proof.StepProofs
end

-- ==== Proofs: Placed ====
section
/-! PROOFS. A settlement record numbered and placed (R141, R142), and a hire closed (R109, R113): what each leaves. -/

namespace Sys2Proof.StepProofs

open Machine

/-! ### The record's place -/

section
variable (g : Hall) (r : Settlement)

/-- The number the next record takes. -/
def nextSeq (h : Hall) : Nat := h.account.seq + 1

/-- `g` with the record at the end of its queue. -/
def queued : Hall :=
  { g with account := { g.account with seq := nextSeq g, queue := g.account.queue ++ [{ r with seq := nextSeq g }] } }

theorem placeRecord_ended (ended : g.account.seq = maxCount) : placeRecord r g = (unitemise r.charge g, 0, true) :=
  if_pos ended

theorem placeRecord_full (counts : g.account.seq ≠ maxCount) (full : 256 ≤ g.account.queue.length) : placeRecord r g =
    (unitemise r.charge { g with account := { g.account with seq := nextSeq g } }, nextSeq g, true) :=
  (if_neg counts).trans (if_neg (Nat.not_lt.mpr full))

theorem placeRecord_room (counts : g.account.seq ≠ maxCount) (room : g.account.queue.length < 256) : placeRecord r g =
    (if g.account.queue.length = 223 then (queued g r).post .account .queueHigh (nextSeq g) 224 else queued g r,
      nextSeq g, false) := by
  have length : (g.account.queue ++ [{ r with seq := g.account.seq + 1 }]).length = 224 ↔ g.account.queue.length = 223 := by
    rw [List.length_append]
    exact ⟨Nat.succ.inj, congrArg Nat.succ⟩
  unfold placeRecord
  dsimp only
  rw [if_neg counts, if_pos room, if_congr length rfl rfl]
  rfl

/-- What the record's place leaves of the account. -/
theorem placeRecord_keeps : let k := (placeRecord r g).1
    k.account.balances = g.account.balances ∧ k.account.day.total = g.account.day.total ∧ k.account.log = g.account.log := by
  intro k
  by_cases ended : g.account.seq = maxCount
  · have e : k = unitemise r.charge g := congrArg Prod.fst (placeRecord_ended g r ended)
    rw [e]
    exact ⟨rfl, rfl, rfl⟩
  · by_cases full : 256 ≤ g.account.queue.length
    · have e : k = unitemise r.charge { g with account := { g.account with seq := nextSeq g } } :=
        congrArg Prod.fst (placeRecord_full g r ended full)
      rw [e]
      exact ⟨rfl, rfl, rfl⟩
    · have e := congrArg Prod.fst (placeRecord_room g r ended (Nat.lt_of_not_le full))
      change k = ite _ _ _ at e
      rw [e]
      split <;> exact ⟨rfl, rfl, rfl⟩

/-- The place of a record, where the account's queue, counter and unitemised figures are those of `h`. -/
theorem records_placed {h g : Hall} (seq : g.account.seq = h.account.seq) (queue : g.account.queue = h.account.queue)
    (count : g.account.day.unitCount = h.account.day.unitCount) (total : g.account.day.unitTotal = h.account.day.unitTotal)
    (now : g.now = h.now) (r : Settlement) :
    h.records (placeRecord r g).1 r (placeRecord r g).2.1 (placeRecord r g).2.2 := by
  unfold Hall.records
  dsimp only
  rw [← seq, ← queue, ← count, ← total, ← now]
  by_cases ended : g.account.seq = maxCount
  · rw [placeRecord_ended g r ended]
    exact ⟨(if_pos ended).symm, (if_pos ended).symm, fun _ => ⟨rfl, rfl, rfl, rfl⟩, fun counts => absurd (.inl ended) counts⟩
  · by_cases full : 256 ≤ g.account.queue.length
    · rw [placeRecord_full g r ended full]
      exact ⟨(if_neg ended).symm, (if_neg ended).symm, fun _ => ⟨rfl, rfl, rfl, rfl⟩, fun room => absurd (.inr full) room⟩
    · rw [placeRecord_room g r ended (Nat.lt_of_not_le full)]
      refine ⟨(if_neg ended).symm, Eq.trans ?_ (if_neg ended).symm, fun out => absurd out (not_or.mpr ⟨ended, full⟩), fun _ =>
        ⟨rfl, ?_, ?_, ?_, fun length => ?_⟩⟩
      case refine_5 =>
        dsimp only
        rw [if_pos length]
        exact List.getLast?_concat
      all_goals
        dsimp only
        split <;> rfl

end

/-! ### The hire closed -/

section
variable (h : Hall) (x : Hire) (owe : Nat) (rec_ : Settlement) (r : Receiver)

theorem settleBadge_hires : (settleBadge x owe h).fleet.hires = h.fleet.hires := by
  unfold settleBadge
  split <;> rfl

theorem settleBadge_receivers : (settleBadge x owe h).fleet.receivers = h.fleet.receivers := by
  unfold settleBadge
  split <;> rfl

theorem settleBadge_channels : (settleBadge x owe h).channels = h.channels := by
  unfold settleBadge
  split <;> rfl

theorem badge_settleBadge_own {b : Badge} (found : h.badge x.badge = some b) : (settleBadge x owe h).badge x.badge =
    if (b.hires.filter fun n => n != x.number) = [] ∧ satMoney (b.debt + owe) = 0 then none
    else some ⟨x.badge, b.hires.filter fun n => n != x.number, satMoney (b.debt + owe)⟩ := by
  have number : b.number = x.badge := badge_number found
  unfold settleBadge
  rw [found]
  dsimp only
  rw [badge_putBadge]
  dsimp only
  rw [if_pos number, number]

theorem badge_settleBadge_other {q : Serial} (other : q ≠ x.badge) : (settleBadge x owe h).badge q = h.badge q := by
  unfold settleBadge
  split
  · next b found =>
    rw [badge_putBadge]
    exact if_neg fun e : b.number = q => other (e.symm.trans (badge_number found))
  · rfl

theorem hire_closeHire (n : Nat) : (closeHire rec_ x r h).hire n = if x.number = n then none else h.hire n := by
  unfold Hall.hire
  rw [closeHire_fleet, settleBadge_hires]
  exact hire_dropHire (h.putReceiver r) x.number n

theorem receiver_closeHire (q : Serial) : (closeHire rec_ x r h).receiver q = if r.serial = q then some r else h.receiver q := by
  unfold Hall.receiver
  rw [closeHire_fleet, settleBadge_receivers]
  exact receiver_putReceiver h r q

theorem badge_closeHire (q : Serial) : (closeHire rec_ x r h).badge q =
    (settleBadge x rec_.outstanding ((h.putReceiver r).dropHire x.number)).badge q := by
  unfold Hall.badge
  rw [closeHire_fleet]

theorem managed_closeHire : Managed (addToBalances rec_.shares rec_.charge h) (closeHire rec_ x r h) :=
  ((((managed_putReceiver _ r).trans (managed_dropHire _ x.number)).trans (managed_settleBadge _ x rec_.outstanding)).trans
    (managed_demandFall _ x.preset)).trans (managed_handOpenHires _)

theorem closeHire_demand (c : ChannelId) : (closeHire rec_ x r h).channels[c].demand =
    if c = x.preset then h.channels[c].demand - 1 else h.channels[c].demand := by
  have counted (k : Hall) : (handOpenHires k).channels[c].demand = k.channels[c].demand :=
    (stays_metered (metered_handOpenHires k)).housed.demand c
  unfold closeHire
  rw [counted, demandFall_demand, settleBadge_channels]
  show h.channels[c].demand - _ = _
  split <;> rfl

end

end Sys2Proof.StepProofs
end

-- ==== Proofs: Returns ====
section
/-! PROOFS. RETURN (R109, R110) and DECLARE LOST (R113): the hire closed, its record placed; the receiver found. -/

namespace Sys2Proof.StepProofs

open Machine

/-! ### What a close leaves -/

/-- `g` is `h` with hire `x` closed under record `rec_`, the receiver left as `r`. -/
structure ClosedAs (rec_ : Settlement) (x : Hire) (r : Receiver) (h g : Hall) : Prop where
  frame : Managed (addToBalances rec_.shares rec_.charge h) g
  fleet : g.fleet = (closeHire rec_ x r h).fleet
  demand : ∀ c : ChannelId, g.channels[c].demand = if c = x.preset then h.channels[c].demand - 1 else h.channels[c].demand

/-- `k` is `h` with hire `x` closed and its record `rec_` placed, the receiver left as `r`. -/
structure Settled (rec_ : Settlement) (x : Hire) (r : Receiver) (seq : Nat) (unit : Bool) (h k : Hall) : Prop where
  records : h.records k rec_ seq unit
  balances : k.account.balances = rec_.shares.foldl (fun v p => vmod v p.1 fun m => min (m + p.2) 99999999) h.account.balances
  total : k.account.day.total = min (h.account.day.total + rec_.charge) 99999999
  log : k.account.log = h.account.log
  own : k.receiver r.serial = some r
  receivers : ∀ q, q ≠ r.serial → k.receiver q = h.receiver q
  closed : k.hire x.number = none
  hires : ∀ m, m ≠ x.number → k.hire m = h.hire m
  badge : ∀ b, h.badge x.badge = some b →
    let list := b.hires.filter fun m => m != x.number
    let debt := min (b.debt + rec_.outstanding) 99999999
    k.badge x.badge = if list = [] ∧ debt = 0 then none else some ⟨x.badge, list, debt⟩
  badges : ∀ q, q ≠ x.badge → k.badge q = h.badge q
  demand : ∀ c : ChannelId, k.channels[c].demand = if c = x.preset then h.channels[c].demand - 1 else h.channels[c].demand
  settings : k.settings = h.settings
  clock : k.clock = h.clock

section
variable {rec_ : Settlement} {x : Hire} {r : Receiver} {h g : Hall}

theorem closedAs_closeHire (rec_ : Settlement) (x : Hire) (r : Receiver) (h : Hall) :
    ClosedAs rec_ x r h (closeHire rec_ x r h) :=
  ⟨managed_closeHire h x rec_ r, rfl, closeHire_demand h x rec_ r⟩

theorem ClosedAs.trans (p : ClosedAs rec_ x r h g) {k : Hall} (frame : Managed g k) (housed : Housed g k) :
    ClosedAs rec_ x r h k :=
  ⟨p.frame.trans frame, housed.fleet.trans p.fleet, fun c => (housed.demand c).trans (p.demand c)⟩

theorem closedAs_afterClose (d : DeskId) (cond : ReturnCond) (bat : Nat) (r : Receiver) (x : Hire) (h : Hall) :
    ClosedAs (returnRecord d x h) x (returnedReceiver cond bat r) h (afterClose d cond bat r x h) :=
  ((closedAs_closeHire (returnRecord d x h) x (returnedReceiver cond bat r) h).trans (managed_meterEvent _ _)
    (stays_meterEvent _ _).housed).trans (managed_lowStockTests _ h) (lowStockTests_housed h _)

theorem ClosedAs.settled (p : ClosedAs rec_ x r h g) :
    Settled rec_ x r (placeRecord rec_ g).2.1 (placeRecord rec_ g).2.2 h (placeRecord rec_ g).1 := by
  have account := p.frame.account
  have clock : g.clock = h.clock := p.frame.clock
  obtain ⟨balances, total, log⟩ := placeRecord_keeps g rec_
  have frame := placeRecord_frame (h := g) rec_
  have placed : Housed g (placeRecord rec_ g).1 := placeRecord_housed rec_ g
  have records := records_placed (h := h) (g := g) (by rw [account]; rfl) (by rw [account]; rfl) (by rw [account]; rfl)
    (by rw [account]; rfl) (congrArg Clock.minute clock) rec_
  have hires (n : Nat) : g.hire n = (closeHire rec_ x r h).hire n := by
    unfold Hall.hire
    rw [p.fleet]
  have receivers (q : Serial) : g.receiver q = (closeHire rec_ x r h).receiver q := by
    unfold Hall.receiver
    rw [p.fleet]
  have badges (q : Serial) : g.badge q = (closeHire rec_ x r h).badge q := by
    unfold Hall.badge
    rw [p.fleet]
  generalize placeRecord rec_ g = k at *
  refine ⟨records, balances.trans (by rw [account]; rfl), total.trans (by rw [account]; rfl), log.trans (by rw [account]; rfl),
    ?_, fun q other => ?_, ?_, fun m other => ?_, fun b found => ?_, fun q other => ?_, fun c => ?_, ?_, ?_⟩
  · rw [placed.receiver, receivers, receiver_closeHire, if_pos rfl]
  · rw [placed.receiver, receivers, receiver_closeHire, if_neg (Ne.symm other)]
  · rw [placed.hire, hires, hire_closeHire, if_pos rfl]
  · rw [placed.hire, hires, hire_closeHire, if_neg (Ne.symm other)]
  · rw [placed.badge, badges, badge_closeHire]
    exact badge_settleBadge_own ((h.putReceiver r).dropHire x.number) x rec_.outstanding found
  · rw [placed.badge, badges, badge_closeHire]
    exact badge_settleBadge_other ((h.putReceiver r).dropHire x.number) x rec_.outstanding other
  · rw [placed.demand, p.demand]
  · rw [frame]
    exact p.frame.settings
  · rw [frame]
    exact clock

end

/-! ### RETURN of a hired receiver -/

section
variable {s : State} {d : DeskId} {ser : Serial} {cond : ReturnCond} {bat n : Nat} {r : Receiver} {x : Hire} {g : Hall}
  {new : Bool}

theorem return_absent {c : AnswerCode} (calm : s.pfw = false) (absent : presented ser s.hall = .error c) :
    returnReceiver d ser cond bat s = refuse c s := by
  unfold returnReceiver
  dsimp only
  rw [if_neg (by rw [calm]; nofun), absent]

theorem return_presented (calm : s.pfw = false) (shown : presented ser s.hall = .ok (r, g, new)) :
    returnReceiver d ser cond bat s = match r.state with
      | .stock | .faulty => refusePresented .notIssued new s.hall g s
      | .lost => .wait fleetAccount (.ok (.found (findReceiver d cond (min bat 100) r g).2.1
          (findReceiver d cond (min bat 100) r g).2.2) []) { s with hall := (findReceiver d cond (min bat 100) r g).1 }
      | .issued n | .overdue n =>
        match g.hire n with
        | none => refuse .notIssued s
        | some x => .wait fleetAccount (.ok (.returned (returnHire d cond (min bat 100) r x g).2) [])
            { s with hall := (returnHire d cond (min bat 100) r x g).1 } := by
  unfold returnReceiver
  dsimp only
  rw [if_neg (by rw [calm]; nofun), shown] <;> rfl

theorem return_hired (calm : s.pfw = false) (found : s.hall.receiver ser = some r)
    (out : r.state = .issued n ∨ r.state = .overdue n) (hire : s.hall.hire n = some x) :
    returnReceiver d ser cond bat s = .wait fleetAccount (.ok (.returned (returnHire d cond (min bat 100) r x s.hall).2) [])
      { s with hall := (returnHire d cond (min bat 100) r x s.hall).1 } := by
  rw [return_presented calm (presented_known found)]
  rcases out with state | state <;> rw [state] <;> dsimp only <;> rw [hire]

end

theorem returnHire_eq (d : DeskId) (cond : ReturnCond) (bat : Nat) (r : Receiver) (x : Hire) (h : Hall) :
    returnHire d cond bat r x h = ((placeRecord (returnRecord d x h) (afterClose d cond bat r x h)).1,
      ⟨(returnRecord d x h).charge, (returnRecord d x h).refund, (returnRecord d x h).outstanding,
        (placeRecord (returnRecord d x h) (afterClose d cond bat r x h)).2.1,
        (placeRecord (returnRecord d x h) (afterClose d cond bat r x h)).2.2⟩) := by
  simp only [returnHire, endClose, afterClose, returnedReceiver, returnRecord]

/-- Settles O38: the close of the hire found, and its record placed. -/
theorem returnCloses : Obligations.ReturnCloses := by
  intro s d tag ser cond bat n r x p found out hire h tariff unserved f shares record serial
  have number : x.number = n := hire_number hire
  have own : r.serial = ser := receiver_serial found
  have test := return_hired (s := s.opened) (d := d) (cond := cond) (bat := bat) p.2.1 found out hire
  have settled := (closedAs_afterClose d cond (min bat 100) r x h).settled
  rw [returnHire_eq] at test
  have named : returnRecord d x h = record := by
    unfold record
    rw [← number, ← serial]
    rfl
  rw [show s.opened.hall = h from rfl, named] at test
  rw [named] at settled
  have answer := deskAnswerWaits_of (i := .returnRcv d tag ser cond bat) (tag := tag) p.1 rfl test
  refine ⟨_, _, _, answer, ?_⟩
  clear answer test
  generalize placeRecord record (afterClose d cond (min bat 100) r x h) = k at settled
  have serials : (returnedReceiver cond (min bat 100) r).serial = ser := own
  refine ⟨settled.records, settled.balances, settled.total, ?_, fun q other => settled.receivers q (by rw [serials]; exact other),
    ?_, fun m other => settled.hires m (by rw [number]; exact other), fun b held => ?_, settled.badges, settled.demand,
    settled.settings, settled.clock, settled.log⟩
  · have held := settled.own
    rw [serials] at held
    refine held.trans ?_
    cases cond <;> rfl
  · rw [← number]
    exact settled.closed
  · rw [← number]
    exact settled.badge b held

/-! ### RETURN of a receiver that is not out -/

theorem findReceiver_eq (d : DeskId) (cond : ReturnCond) (bat : Nat) (r : Receiver) (h : Hall) :
    findReceiver d cond bat r h = placeRecord (foundRecord h d r.serial) (afterFound d cond bat r h) := by
  simp only [findReceiver, afterFound, returnedReceiver]

/-- `k` is `h` but for the receivers, the meters, the low-stock flags, and what is posted and asked for. -/
def Refound (h k : Hall) : Prop := k = { h with
  fleet := { h.fleet with receivers := k.fleet.receivers }
  lowFired := k.lowFired
  meters := k.meters
  free := k.free
  work := k.work }

theorem refound_afterFound (d : DeskId) (cond : ReturnCond) (bat : Nat) (r : Receiver) (h : Hall) :
    Refound h (afterFound d cond bat r h) := by
  have told := refleeted_meterEvent (h.putReceiver (returnedReceiver cond bat r)) ⟨.returned, none, some d, none, none⟩
  have fleet : (meterEvent ⟨.returned, none, some d, none, none⟩ (h.putReceiver (returnedReceiver cond bat r))).fleet =
      (h.putReceiver (returnedReceiver cond bat r)).fleet := meterEvent_fleet _ _
  have flags := flagged_lowStockTests h
    (meterEvent ⟨.returned, none, some d, none, none⟩ (h.putReceiver (returnedReceiver cond bat r)))
  unfold afterFound
  generalize meterEvent ⟨.returned, none, some d, none, none⟩ (h.putReceiver (returnedReceiver cond bat r)) = g at *
  generalize lowStockTests h g = k at *
  unfold Flagged at flags
  unfold Refleeted at told
  unfold Refound
  rw [fleet] at told
  rw [flags, told]
  rfl

theorem receiver_afterFound (d : DeskId) (cond : ReturnCond) (bat : Nat) (r : Receiver) (h : Hall) (q : Serial) :
    (afterFound d cond bat r h).receiver q = if r.serial = q then some (returnedReceiver cond bat r) else h.receiver q := by
  have told : Housed (h.putReceiver (returnedReceiver cond bat r)) (afterFound d cond bat r h) :=
    (stays_meterEvent _ _).housed.trans (lowStockTests_housed h _)
  rw [told.receiver]
  exact receiver_putReceiver h (returnedReceiver cond bat r) q

section
variable {h k : Hall} (p : Refound h k)
include p

theorem Refound.settings : k.settings = h.settings := by rw [p]
theorem Refound.account : k.account = h.account := by rw [p]
theorem Refound.clock : k.clock = h.clock := by rw [p]
theorem Refound.channels : k.channels = h.channels := by rw [p]
theorem Refound.hires : k.fleet.hires = h.fleet.hires := by rw [p]
theorem Refound.badges : k.fleet.badges = h.fleet.badges := by rw [p]

end

/-- Settles O39: the record of a LOST receiver found, and each refusal. -/
theorem returnFinds : Obligations.ReturnFinds := by
  intro s d tag ser cond bat p h i
  have calm : s.opened.pfw = false := p.2.1
  refine ⟨fun r found lost => ?_, fun r found here => ?_, fun unknown foreign =>
    deskAnswersNow_of p.1 rfl (return_absent (s := s.opened) calm (presented_foreign unknown foreign)), fun w unknown claimed =>
    ⟨fun full => deskAnswersNow_of p.1 rfl (return_absent (s := s.opened) calm (presented_full unknown claimed full)), fun room => ?_⟩⟩
  · have serial := receiver_serial found
    have test := return_presented (s := s.opened) (d := d) (cond := cond) (bat := bat) calm (presented_known found)
    rw [lost] at test
    dsimp only at test
    rw [show s.opened.hall = h from rfl, findReceiver_eq, serial] at test
    have same := refound_afterFound d cond (min bat 100) r h
    have receivers := receiver_afterFound d cond (min bat 100) r h
    have answer := deskAnswerWaits_of (i := i) (tag := tag) p.1 rfl test
    refine ⟨_, _, _, answer, ?_⟩
    clear answer test
    generalize afterFound d cond (min bat 100) r h = g at *
    have records := records_placed (h := h) (g := g) (by rw [same.account]) (by rw [same.account]) (by rw [same.account])
      (by rw [same.account]) (congrArg Clock.minute same.clock) (foundRecord h d ser)
    obtain ⟨balances, total, -⟩ := placeRecord_keeps g (foundRecord h d ser)
    have frame := placeRecord_frame (h := g) (foundRecord h d ser)
    have placed : Housed g (placeRecord (foundRecord h d ser) g).1 := placeRecord_housed (foundRecord h d ser) g
    generalize placeRecord (foundRecord h d ser) g = k at *
    refine ⟨records, ?_, fun q other => ?_, ?_, ?_, ?_, ?_, ?_, fun c => ?_⟩
    · rw [placed.receiver, receivers, if_pos serial]
      cases cond <;> rfl
    · rw [placed.receiver, receivers, if_neg fun e => other (e.symm.trans serial)]
    · rw [placed.fleet, same.hires]
    · rw [placed.fleet, same.badges]
    · rw [balances, same.account]
    · rw [total, same.account]
    · rw [frame]
      exact same.settings
    · rw [frame]
      exact congrArg (·[c]) same.channels
  · have test := return_presented (s := s.opened) (d := d) (cond := cond) (bat := bat) calm (presented_known found)
    rcases here with state | state <;> rw [state] at test <;> exact deskAnswersNow_of p.1 rfl test
  · have test := return_presented (s := s.opened) (d := d) (cond := cond) (bat := bat) calm
      (presented_created unknown claimed (Nat.lt_of_not_le room))
    have stocked : Restocked h (lowStockTests h (createReceiver ser w h)) := restocked h _
    have receivers := receiver_lowStockTests h (createReceiver ser w h)
    have entered := entered_created ser w h
    refine ⟨_, deskAnswerWaits_of p.1 rfl test, ?_⟩
    rw [show s.opened.hall = h from rfl]
    generalize lowStockTests h (createReceiver ser w h) = k at stocked receivers
    refine ⟨(receivers ser).trans entered.own, fun q other => (receivers q).trans (entered.others q other), ?_⟩
    rw [stocked.eq]
    exact ⟨rfl, rfl, rfl, rfl, rfl⟩

end Sys2Proof.StepProofs
end

-- ==== Proofs: Lost ====
section
/-! PROOFS. DECLARE LOST (R113, R130). -/

namespace Sys2Proof.StepProofs

open Machine

theorem loseHire_eq (r : Receiver) (x : Hire) (h : Hall) : loseHire r x h =
    ((placeRecord (lossRecord r x h) (closeHire (lossRecord r x h) x { r with state := .lost } h)).1,
      ⟨(lossRecord r x h).charge, (lossRecord r x h).refund, (lossRecord r x h).outstanding,
        (placeRecord (lossRecord r x h) (closeHire (lossRecord r x h) x { r with state := .lost } h)).2.1,
        (placeRecord (lossRecord r x h) (closeHire (lossRecord r x h) x { r with state := .lost } h)).2.2⟩) := by
  simp only [loseHire, endClose, lossRecord]

/-- The class of a hire credits unserved minutes only while it is defined (R122). -/
theorem pricing_credit (h : Hall) (t : TariffId) :
    (h.pricing t).credit = (h.settings.tariffs[t].defined && h.settings.tariffs[t].credit) := by
  unfold Hall.pricing
  cases defined : h.settings.tariffs[t].defined with
  | true => simp
  | false => simp [Tariff.null]

/-- Settles O40: the record named or a refusal, and the hire closed at the fee. -/
theorem declareLost : Obligations.DeclareLost := by
  refine ⟨fun s tag x p bad => refused_of p rfl (onReceiver_outOf (s := s.opened) bad _), fun s tag ser p => ?_⟩
  intro h i
  have calm := ready_pfw p
  refine ⟨fun none => refused_of p.1 rfl (onReceiver_none (s := s.opened) _ calm none), fun r found here =>
    refused_of p.1 rfl ((onReceiver_some (s := s.opened) _ calm found).trans ?_), fun r n x found out hire serial => ?_⟩
  · have hireless : r.state.hire?.bind s.opened.hall.hire = none := by
      rcases here with state | state | state <;> rw [state] <;> rfl
    rw [hireless]
  · intro fee credit unserved record
    have number : x.number = n := hire_number hire
    have own : r.serial = ser := receiver_serial found
    have held : r.state.hire?.bind s.opened.hall.hire = some x := by
      rcases out with state | state <;> rw [state] <;> exact hire
    have test : Machine.declareLost (.val ser.toNat) s.opened = .wait fleetAccount (.ok (.lost (loseHire r x h).2) [])
        { s.opened with hall := (loseHire r x h).1 } := by
      refine (onReceiver_some (s := s.opened) _ calm found).trans ?_
      rw [held] <;> rfl
    have settled := (closedAs_closeHire (lossRecord r x h) x { r with state := .lost } h).settled
    have named : lossRecord r x h = record := by
      unfold record credit
      rw [← number, ← serial, ← pricing_credit]
      rfl
    rw [loseHire_eq, named] at test
    rw [named] at settled
    have answer := answerWaits_of (i := i) (tag := tag) p.1 rfl test
    refine ⟨_, _, _, answer, ?_⟩
    clear answer test
    generalize placeRecord record (closeHire record x { r with state := .lost } h) = k at settled
    refine ⟨settled.records, settled.balances, ?_, fun q other => settled.receivers q ?_, ?_,
      fun m other => settled.hires m (by rw [number]; exact other), settled.settings, settled.total, fun b listed => ?_,
      settled.badges, settled.demand⟩
    · exact (congrArg k.1.receiver own.symm).trans settled.own
    · rw [show ({ r with state := .lost } : Receiver).serial = ser from own]
      exact other
    · rw [← number]
      exact settled.closed
    · rw [← number]
      exact settled.badge b listed

end Sys2Proof.StepProofs
end

-- ==== Proofs: Completion ====
section
/-! PROOFS. The store port's completion of a write, and an area's rewrite (R170). -/

namespace Sys2Proof.StepProofs

open Machine

/-! ### What waited on a write is served -/

section
variable {s : State}

theorem serveWaiter_notice (s : State) (w : Waiter) : (serveWaiter s w).notice = s.notice := by
  rw [serveWaiter_frame]

theorem serveWaiter_hall (s : State) (w : Waiter) : (serveWaiter s w).hall = s.hall := by
  rw [serveWaiter_frame]

theorem serveWaiter_waiting (s : State) (w : Waiter) :
    (serveWaiter s w).noticesWaiting = s.noticesWaiting ∧ (serveWaiter s w).conditionRaised = s.conditionRaised := by
  unfold State.noticesWaiting State.conditionRaised
  rw [serveWaiter_notice, serveWaiter_hall]
  exact ⟨rfl, rfl⟩

/-- An answer sent stays sent while the others are served. -/
theorem serveWaiters_sent {x : Answer} (ws : List Waiter) (sent : x ∈ s.out) : x ∈ (ws.foldl serveWaiter s).out := by
  induction ws generalizing s with
  | nil => exact sent
  | cons w ws ih =>
    refine ih ?_
    cases w with
    | host | desk => exact List.mem_append_left _ sent
    | startUp => exact sent

theorem serveWaiters_idle (ws : List Waiter) (idle : s.port.busy = false) : (ws.foldl serveWaiter s).port.busy = false := by
  induction ws generalizing s with
  | nil => exact idle
  | cons w ws ih =>
    refine ih ?_
    cases w with
    | host => rfl
    | desk | startUp => exact idle

theorem serveWaiters_deskIdle (d : DeskId) (ws : List Waiter) (idle : s.desks[d].busy = false) :
    (ws.foldl serveWaiter s).desks[d].busy = false := by
  induction ws generalizing s with
  | nil => exact idle
  | cons w ws ih =>
    refine ih ?_
    cases w with
    | host | startUp => exact idle
    | desk e =>
      show (vmod s.desks e LinePort.answered)[d].busy = false
      rw [vmod_get]
      split
      · rfl
      · exact idle

/-- A host order that waited is answered, with N and A as they stand (R160). -/
theorem served_host {ws : List Waiter} {tag : Tag} {r : Result} (waits : Waiter.host tag r ∈ ws) :
    (ws.foldl serveWaiter s).port.busy = false ∧ ∃ x ∈ (ws.foldl serveWaiter s).out, x.tag = tag ∧ x.result = r ∧
      x.addressee = .host s.noticesWaiting s.conditionRaised := by
  induction ws generalizing s with
  | nil => cases waits
  | cons w ws ih =>
    rw [List.foldl_cons]
    rcases List.mem_cons.mp waits with rfl | later
    · exact ⟨serveWaiters_idle ws rfl, _, serveWaiters_sent ws (List.mem_append_right _ (.head _)), rfl, rfl, rfl⟩
    · have served := ih (s := serveWaiter s w) later
      rw [(serveWaiter_waiting s w).1, (serveWaiter_waiting s w).2] at served
      exact served

/-- A desk request that waited is answered. -/
theorem served_desk {ws : List Waiter} {d : DeskId} {tag : Tag} {r : Result} (waits : Waiter.desk d tag r ∈ ws) :
    (ws.foldl serveWaiter s).desks[d].busy = false ∧
      ∃ x ∈ (ws.foldl serveWaiter s).out, x.tag = tag ∧ x.result = r ∧ x.addressee = .desk d := by
  induction ws generalizing s with
  | nil => cases waits
  | cons w ws ih =>
    rw [List.foldl_cons]
    rcases List.mem_cons.mp waits with rfl | later
    · refine ⟨serveWaiters_deskIdle d ws ?_, _, serveWaiters_sent ws (List.mem_append_right _ (.head _)), rfl, rfl, rfl⟩
      show (vmod s.desks d LinePort.answered)[d].busy = false
      rw [vmod_get, if_pos rfl]
      rfl
    · exact ih later

/-- The lines are assembled once a start-up's write was waited on (R174). -/
theorem served_listening (ws : List Waiter) :
    (ws.foldl serveWaiter s).listening = true ↔ s.listening = true ∨ Waiter.startUp ∈ ws := by
  induction ws generalizing s with
  | nil => simp
  | cons w ws ih =>
    rw [List.foldl_cons, ih]
    cases w with
    | host | desk => simp [serveWaiter, sendHost, sendDesk]
    | startUp => simp [serveWaiter]

end

/-! ### The fault log -/

/-- Entries made stand at the end of the log while they are no more than it holds. -/
theorem logged_suffix (log : List FaultEntry) {made : List FaultEntry} (few : made.length ≤ 16) :
    made <:+ made.foldl logEntry log := by
  induction made using List.reverseRecOn with
  | nil => exact List.nil_suffix
  | append_singleton made e ih =>
    rw [List.length_append] at few
    obtain ⟨before, there⟩ := ih (Nat.le_of_succ_le few)
    rw [List.foldl_append, ← there]
    show made ++ [e] <:+ logEntry (before ++ made) e
    unfold logEntry
    split
    · exact ⟨before, by rw [List.append_assoc]⟩
    · next full =>
      have nonempty : before ≠ [] := by
        rintro rfl
        exact full (Nat.lt_of_succ_le few)
      exact ⟨before.tail, by rw [List.tail_append_of_ne_nil nonempty, List.append_assoc]⟩

/-- The entries of the areas not taken. -/
def notTakenEntries (code : FaultCode) (bad : AreaSet) (now : Nat) : List FaultEntry :=
  (allAreas.filter bad.has).map fun a => ⟨now, code, a.number⟩

theorem logNotTaken_eq (code : FaultCode) (bad : AreaSet) (h : Hall) : logNotTaken code bad h =
    { h with work := { h.work with faults := h.work.faults ++ notTakenEntries code bad h.now } } := by
  have pass (l : List Area) (h : Hall) : l.foldl (fun h a => if bad.has a then h.logFault code a.number else h) h =
      { h with work := { h.work with faults :=
        h.work.faults ++ (l.filter bad.has).map fun a => ⟨h.now, code, a.number⟩ } } := by
    induction l generalizing h with
    | nil => simp
    | cons a l ih =>
      rw [List.foldl_cons, ih]
      cases fails : bad.has a with
      | true => simp [fails, Hall.logFault, Hall.now]
      | false => simp [fails]
  exact pass allAreas h

theorem notTakenEntries_few (code : FaultCode) (bad : AreaSet) (now : Nat) : (notTakenEntries code bad now).length ≤ 16 := by
  unfold notTakenEntries
  rw [List.length_map]
  exact (List.length_filter_le _ _).trans (by decide)

theorem mem_notTakenEntries (code : FaultCode) {bad : AreaSet} (now : Nat) {a : Area} (fails : bad.has a = true) :
    ⟨now, code, a.number⟩ ∈ notTakenEntries code bad now :=
  List.mem_map.mpr ⟨a, List.mem_filter.mpr ⟨by cases a <;> decide, fails⟩, rfl⟩

/-! ### The blocks at the end of an event -/

/-- The bus chooses whatever was handed over. -/
theorem rested_handed (h : Hall) (w : EventWork) : Hall.rested { h with work := w } = h.rested := by
  have chosen : chooseExchange { h with work := w } = { chooseExchange h with work := w } := by
    unfold chooseExchange
    rw [show Hall.nextProbe { h with work := w } = h.nextProbe from rfl,
      show Hall.nextPolled { h with work := w } = h.nextPolled from rfl]
    dsimp only
    split
    · rfl
    · split
      · rfl
      · split <;> rfl
  unfold Hall.rested
  rw [chosen]

section
variable {h : Hall} {st : Store}

theorem beginWrite_writing {w : CurrentWrite} (h : Hall) (writing : st.current = some w) : beginWrite h st = st := by
  unfold beginWrite
  rw [writing]

theorem beginWrite_next {x : StoreWrite} {l : List StoreWrite} (h : Hall) (idle : st.current = none) (next : st.writes = x :: l) :
    beginWrite h st = { st with current := some ⟨x.areas, contentOf h x.areas, x.waiters⟩, writes := l } := by
  unfold beginWrite
  rw [idle, next]

theorem beginWrite_none (h : Hall) (idle : st.current = none) (empty : st.writes = []) : beginWrite h st = st := by
  unfold beginWrite
  rw [idle, empty]

/-- With nothing in progress the first write of the list, if there is one, begins with the content of this moment. -/
theorem beginWrite_idle (h : Hall) (idle : st.current = none) :
    (beginWrite h st).current = st.writes.head?.map (fun x => ⟨x.areas, contentOf h x.areas, x.waiters⟩) ∧
      (beginWrite h st).writes = st.writes.tail := by
  cases list : st.writes with
  | nil =>
    rw [beginWrite_none h idle list]
    exact ⟨idle, list⟩
  | cons x l =>
    rw [beginWrite_next h idle list]
    exact ⟨rfl, rfl⟩

end

section
variable {s : State} {w : CurrentWrite} {bad : AreaSet}

theorem completion_taken (writing : s.store.current = some w) : completion bad s = finish none (completed w bad s) := by
  unfold completion
  rw [writing]
  rfl

/-- The blocks at the end of a completion are those at the end of any event that moved none of them. -/
theorem completed_rested (s : State) : (logNotTaken .storeWrite bad s.hall).rested = s.hall.rested := by
  rw [logNotTaken_eq]
  exact rested_handed s.hall _

theorem completed_asks (h : Hall) : (logNotTaken .storeWrite bad h).work.asks = h.work.asks := by
  rw [logNotTaken_eq]

theorem completed_content (h : Hall) (a : AreaSet) : contentOf (logNotTaken .storeWrite bad h) a = contentOf h a := by
  rw [logNotTaken_eq]
  rfl

theorem completed_failed (w : CurrentWrite) (bad : AreaSet) (now : Nat) (st : Store) (a : Area) :
    (completeWrite w bad now st).failed.has a = if w.areas.has a then bad.has a else st.failed.has a := by
  show ((st.failed.diff (w.areas.diff bad)).union (w.areas.inter bad)).has a = _
  rw [union_has, diff_has, diff_has, inter_has]
  cases w.areas.has a <;> cases bad.has a <;> simp

theorem completed_times (w : CurrentWrite) (bad : AreaSet) (now : Nat) (st : Store) (a : Area) :
    (completeWrite w bad now st).rewrite.get a =
      if w.areas.has a then (if bad.has a then some (now + 10) else none) else st.rewrite.get a := by
  rw [completed_rewrite, diff_has, inter_has]
  cases w.areas.has a <;> cases bad.has a <;> rfl

end

/-! ### An area's rewrite -/

section
variable {s : State} {a : Area}

theorem rewriteArea_early (early : ∀ tenth, s.store.rewrite.get a = some tenth → s.hall.tenths < tenth) :
    rewriteArea a s = s := by
  refine if_neg fun due => ?_
  unfold Hall.timerDue at due
  cases time : s.store.rewrite.get a with
  | none => rw [time] at due; cases due
  | some tenth =>
    rw [time] at due
    exact absurd (of_decide_eq_true due) (Nat.not_le.mpr (early tenth time))

theorem rewriteArea_due {tenth : Nat} (time : s.store.rewrite.get a = some tenth) (due : tenth ≤ s.hall.tenths) :
    rewriteArea a s = finish none (rewritten a s) := by
  refine if_pos ?_
  unfold Hall.timerDue
  rw [time]
  exact decide_eq_true due

end

/-- Settles O57: the waiters are served, the store takes the write, and the next of the list begins. -/
theorem storeEvents : Obligations.StoreEvents := by
  intro s awake rest
  have asks : s.hall.work.asks = [] := by rw [rest]; rfl
  have faults : s.hall.work.faults = [] := by rw [rest]; rfl
  refine ⟨fun w bad writing => ?_, fun a early => ?_, fun a tenth time due => ?_⟩
  · have taken : exec (.writeCompletion bad) s = .next (finish none (completed w bad s.opened)) := by
      refine congrArg _ ((if_neg (by rw [awake]; nofun)).trans ?_)
      exact completion_taken (s := s.opened) writing
    have store : (finish none (completed w bad s.opened)).store = beginWrite (logNotTaken .storeWrite (w.areas.inter bad) s.hall)
        (completeWrite w bad s.hall.tenths s.store) := by
      show beginWrite _ (placeWrites none (completed w bad s.opened).hall.work.asks _) = _
      rw [completed_hall, completed_store, completed_asks, show s.opened.hall.work.asks = [] from asks]
      rfl
    obtain ⟨current, writes⟩ := beginWrite_idle (st := completeWrite w bad s.hall.tenths s.store)
      (logNotTaken .storeWrite (w.areas.inter bad) s.hall) rfl
    obtain ⟨held, failed, rewrite⟩ := beginWrite_frame (logNotTaken .storeWrite (w.areas.inter bad) s.hall)
      (completeWrite w bad s.hall.tenths s.store)
    simp only [completed_content] at current
    rw [← store] at current writes held failed rewrite
    have log : (finish none (completed w bad s.opened)).notice.log =
        (notTakenEntries .storeWrite (w.areas.inter bad) s.hall.now).foldl logEntry s.notice.log := by
      show (completed w bad s.opened).hall.work.faults.foldl logEntry _ = _
      rw [completed_hall, completed_notice, logNotTaken_eq, show s.opened.hall.work.faults = [] from faults]
      rfl
    refine ⟨_, taken, ?_, held, fun a => ?_, fun a => ?_, fun a own fails => ?_, current, writes, fun tag r waits => ?_,
      fun d tag r waits => ?_, ?_, ?_, ?_, ?_⟩
    · rw [finish_none_hall, completed_hall]
      exact completed_rested s
    · rw [failed]
      exact completed_failed w bad _ s.store a
    · rw [rewrite]
      exact completed_times w bad _ s.store a
    · rw [log]
      exact (logged_suffix _ (notTakenEntries_few ..)).subset
        (mem_notTakenEntries _ _ (by rw [inter_has, own, fails]; rfl))
    · exact served_host (s := s.opened) waits
    · exact served_desk (s := s.opened) waits
    · exact served_listening (s := s.opened) w.waiters
    · show (w.waiters.foldl serveWaiter s.opened).pending = s.pending
      rw [serveWaiters_frame]
      rfl
    · show (w.waiters.foldl serveWaiter s.opened).pfw = s.pfw
      rw [serveWaiters_frame]
      rfl
    · show (w.waiters.foldl serveWaiter s.opened).resetn = false
      rw [serveWaiters_resetn]
      exact awake
  · refine congrArg _ ((if_neg (by rw [awake]; nofun)).trans ?_)
    exact rewriteArea_early (s := s.opened) early
  · have taken : exec (.areaRewrite a) s = .next (finish none (rewritten a s.opened)) := by
      refine congrArg _ ((if_neg (by rw [awake]; nofun)).trans ?_)
      exact rewriteArea_due (s := s.opened) time due
    have store : (finish none (rewritten a s.opened)).store = beginWrite s.hall (rewritten a s).store := by
      show beginWrite _ (placeWrites none (rewritten a s.opened).hall.work.asks _) = _
      rw [rewritten_hall, show s.opened.hall.work.asks = [] from asks]
      rfl
    obtain ⟨held, failed, rewrite⟩ := beginWrite_frame s.hall (rewritten a s).store
    rw [← store] at held failed rewrite
    refine ⟨_, taken, ?_, fun x => ?_, held, failed, rfl, ?_⟩
    · rw [finish_none_hall, rewritten_hall]
      rfl
    · rw [rewrite]
      exact (rewrites_get_set ..).trans (if_congr eq_comm rfl rfl)
    · have appended : (rewritten a s).store.writes = s.store.writes ++ [⟨AreaSet.single a, []⟩] := rfl
      rw [store]
      cases writing : s.store.current with
      | some w =>
        rw [beginWrite_writing s.hall (st := (rewritten a s).store) writing]
        exact ⟨writing, rfl⟩
      | none =>
        cases list : s.store.writes with
        | nil =>
          rw [beginWrite_next s.hall (st := (rewritten a s).store) (x := ⟨AreaSet.single a, []⟩) (l := []) writing
            (by rw [appended, list]; rfl)]
          exact ⟨rfl, rfl⟩
        | cons x l =>
          rw [beginWrite_next s.hall (st := (rewritten a s).store) (x := x) (l := l ++ [⟨AreaSet.single a, []⟩]) writing
            (by rw [appended, list]; rfl)]
          exact ⟨rfl, rfl⟩

end Sys2Proof.StepProofs
end

-- ==== Proofs: Inputs ====
section
/-! PROOFS. The inputs PFWn and RESETn (R171, R174). -/

namespace Sys2Proof.StepProofs

open Machine

/-! ### PFWn -/

section
variable {s : State}

theorem assertPfw_taken (calm : s.pfw = false) (awake : s.resetn = false) : assertPfw s = finish none (warned s) := by
  unfold assertPfw
  rw [if_neg (Bool.eq_false_iff.mp calm), if_neg (Bool.eq_false_iff.mp awake)]
  rfl

theorem assertPfw_level (calm : s.pfw = false) (held : s.resetn = true) : assertPfw s = { s with pfw := true } := by
  unfold assertPfw
  rw [if_neg (Bool.eq_false_iff.mp calm), if_pos held]

theorem BroughtUp.account {h k : Hall} (p : BroughtUp h k) : k.account = { h.account with
    channels := vtab fun c => ⟨h.outage c, h.onAirMinutes c, h.fillMinutes c⟩
    booths := vtab fun b => ⟨h.account.booths[b].handovers, h.boothLiveMinutes b, h.fallbackMinutes b⟩
    consoleLive := vtab fun a => h.consoleLiveMinutes a } := by
  have channels : k.account.channels = vtab fun c => ⟨h.outage c, h.onAirMinutes c, h.fillMinutes c⟩ :=
    table_ext fun c => by rw [p.day, vtab_get]
  have booths : k.account.booths = vtab fun b => ⟨h.account.booths[b].handovers, h.boothLiveMinutes b, h.fallbackMinutes b⟩ :=
    table_ext fun b => by rw [p.boothDay, vtab_get]
  have consoles : k.account.consoleLive = vtab fun a => h.consoleLiveMinutes a :=
    table_ext fun a => by rw [p.live, vtab_get]
  have eq := congrArg Hall.account p.eq
  rw [← channels, ← booths, ← consoles]
  exact eq

/-- What the warning brings up is written through (R171). -/
theorem warned_written (s : State) : (finish none (warned s)).written .account :=
  ended_written (ended_finish none (warned s)) (.inr (.inl ⟨onlyAccount, List.mem_append_right _ (.head _), rfl⟩))

/-- The end of an event without a write of its own leaves the inputs, the ports and the queue of commands. -/
theorem finish_none_around (s : State) : let t := finish none s
    t.pfw = s.pfw ∧ t.out = s.out ∧ t.port = s.port ∧ t.desks = s.desks ∧ t.listening = s.listening ∧ t.resetn = s.resetn ∧
      t.pending = s.pending := ⟨rfl, rfl, rfl, rfl, rfl, rfl, rfl⟩

theorem warned_around (s : State) : let t := warned s
    t.pfw = true ∧ t.out = s.out ∧ t.port = s.port ∧ t.desks = s.desks ∧ t.listening = s.listening ∧ t.resetn = s.resetn ∧
      t.pending = s.pending := by
  dsimp only [warned]
  exact ⟨rfl, rfl, rfl, rfl, rfl, rfl, rfl⟩

/-! ### RESETn -/

theorem assertReset_idle (awake : s.resetn = false) (idle : s.store.current = none) :
    assertReset s = { s with resetn := true, store := { s.store with writes := [] } } := by
  unfold assertReset
  rw [if_neg (Bool.eq_false_iff.mp awake)]
  dsimp only
  split
  · rfl
  · next writing => cases idle.symm.trans writing

theorem assertReset_writing {w : CurrentWrite} (awake : s.resetn = false) (writing : s.store.current = some w) :
    assertReset s = resetTaken w s := by
  unfold assertReset
  rw [if_neg (Bool.eq_false_iff.mp awake)]
  dsimp only
  split
  · next idle => cases idle.symm.trans writing
  · next x other =>
    cases other.symm.trans writing
    rfl

theorem AreaSet.ext_has {x y : AreaSet} (same : ∀ a : Area, x.has a = y.has a) : x = y := by
  obtain ⟨a, b, c, d⟩ := x
  obtain ⟨a', b', c', d'⟩ := y
  have settings : a = a' := same .settings
  have fleet : b = b' := same .fleet
  have account : c = c' := same .account
  have clock : d = d' := same .clock
  rw [settings, fleet, account, clock]

theorem diff_none (x : AreaSet) : x.diff AreaSet.none = x :=
  AreaSet.ext_has fun a => by rw [diff_has, none_has, Bool.not_false, Bool.and_true]

/-- With every area of it taken a write leaves none of them failed. -/
theorem resetStore_failed (w : CurrentWrite) (s : State) : (resetStore w s).failed = s.store.failed.diff w.areas :=
  AreaSet.ext_has fun a => by
    show (completeWrite w AreaSet.none _ _).failed.has a = _
    rw [completed_failed, diff_has, none_has]
    cases w.areas.has a <;> simp

theorem resetStore_held (w : CurrentWrite) (s : State) : (resetStore w s).held = s.store.held.store w.content w.areas := by
  show s.store.held.store w.content (w.areas.diff AreaSet.none) = _
  rw [diff_none]

/-- Every answer of the waiters served is one of theirs. -/
theorem served_only {ws : List Waiter} {x : Answer} (sent : x ∈ (ws.foldl serveWaiter s).out) :
    x ∈ s.out ∨ (∃ r n c, Waiter.host x.tag r ∈ ws ∧ x.result = r ∧ x.addressee = .host n c) ∨
      ∃ d r, Waiter.desk d x.tag r ∈ ws ∧ x.result = r ∧ x.addressee = .desk d := by
  induction ws generalizing s with
  | nil => exact .inl sent
  | cons w ws ih =>
    rcases ih sent with before | ⟨r, n, c, waits, answer⟩ | ⟨d, r, waits, answer⟩
    · cases w with
      | host tag r =>
        rcases List.mem_append.mp before with earlier | own
        · exact .inl earlier
        · cases List.mem_singleton.mp own
          exact .inr (.inl ⟨r, _, _, .head _, rfl, rfl⟩)
      | desk d tag r =>
        rcases List.mem_append.mp before with earlier | own
        · exact .inl earlier
        · cases List.mem_singleton.mp own
          exact .inr (.inr ⟨d, r, .head _, rfl, rfl⟩)
      | startUp => exact .inl before
    · exact .inr (.inl ⟨r, n, c, .tail _ waits, answer⟩)
    · exact .inr (.inr ⟨d, r, .tail _ waits, answer⟩)

end

/-- Settles O58: each input in each case of the levels that stand. -/
theorem powerInputs : Obligations.PowerInputs := by
  intro s
  refine ⟨fun rest awake calm => ?_, fun warns => ?_, fun calm held => ?_, rfl, fun awake => ?_, fun held => ?_⟩
  · have p := broughtUp_bringUpSpells s.hall
    have hall : (finish none (warned s.opened)).hall = (bringUpSpells s.hall).rested := by
      rw [finish_none_hall, warned_hall]
      exact rested_handed (bringUpSpells s.hall) _
    have written := warned_written s.opened
    have taken : exec .pfwnAssertion s = .next (finish none (warned s.opened)) :=
      congrArg Host.Outcome.next (assertPfw_taken (s := s.opened) calm awake)
    obtain ⟨pfw, out, port, desks, listening, resetn, pending⟩ := finish_none_around (warned s.opened)
    obtain ⟨pfw', out', port', desks', listening', resetn', pending'⟩ := warned_around s.opened
    refine ⟨_, bringUpSpells s.hall, taken, hall, pfw.trans pfw', written, out.trans out', port.trans port', desks.trans desks',
      listening.trans listening', resetn.trans (resetn'.trans awake), pending.trans pending', ?_⟩
    clear taken hall pfw pfw' written out out' port port' desks desks' listening listening' resetn resetn' pending pending'
    generalize bringUpSpells s.hall = k at p
    have frame := p.eq
    refine ⟨?_, ?_, ?_, ?_, ?_, ?_, ?_, p.account, p.channel, p.console, p.booth⟩ <;> rw [frame]
  · exact congrArg Host.Outcome.next (if_pos warns)
  · exact congrArg Host.Outcome.next (assertPfw_level (s := s.opened) calm held)
  · cases writing : s.store.current with
    | none => 
      exact ⟨_, congrArg Host.Outcome.next (assertReset_idle (s := s.opened) awake writing), rfl, rfl, writing, rfl, rfl, rfl, rfl⟩
    | some w =>
      refine ⟨_, congrArg Host.Outcome.next (assertReset_writing (s := s.opened) awake writing), resetTaken_resetn .., resetTaken_hall .., rfl, rfl, ?_, ?_,
        resetStore_held w s.opened, resetStore_failed w s.opened, fun tag r waits => ?_, fun d tag r waits => ?_, fun x sent => ?_⟩
      · show (w.waiters.foldl serveWaiter _).pfw = s.pfw
        rw [serveWaiters_frame]
        rfl
      · show (w.waiters.foldl serveWaiter _).pending = s.pending
        rw [serveWaiters_frame]
        rfl
      · exact served_host (s := { s.opened with resetn := true, store := { s.store with writes := [] } }) waits
      · exact served_desk (s := { s.opened with resetn := true, store := { s.store with writes := [] } }) waits
      · rcases served_only sent with none | answered
        · cases none
        · exact answered
  · exact congrArg Host.Outcome.next (if_pos held)

end Sys2Proof.StepProofs
end

-- ==== Proofs: Delivery ====
section
/-! PROOFS. Delivery of a notice (R162, R163), FETCH NOTICES, CLEAR FAULTS and ACK CONDITION (R164, R165, R167). -/

namespace Sys2Proof.StepProofs

open Machine

/-! ### Delivery -/

/-- The last that meets the predicate is taken out. -/
theorem eraseLast_splits {α : Type} {p : α → Bool} {l : List α} (some_ : ∃ x ∈ l, p x = true) :
    ∃ front x back, l = front ++ x :: back ∧ p x = true ∧ (∀ y ∈ back, p y = false) ∧ eraseLast p l = front ++ back := by
  obtain ⟨x, mem, meets⟩ := some_
  obtain ⟨y, front, back, before, own, split, erased⟩ :=
    List.exists_of_eraseP (List.mem_reverse.mpr mem) meets
  refine ⟨back.reverse, y, front.reverse, ?_, own, fun z m => ?_, ?_⟩
  · rw [← List.reverse_reverse l, split]
    simp
  · exact Bool.eq_false_iff.mpr (before z (List.mem_reverse.mp m))
  · unfold eraseLast
    rw [erased]
    simp

section
variable {q : List Notice} {n m x : Notice}

/-- The notices of `n`'s subject, while it is of class BOOTH (R163). -/
def subjects (n : Notice) (q : List Notice) : List Notice := q.filter fun x => n.sameSubject x

/-- Two notices of one subject have the same notices of their subject. -/
theorem sameSubject_eq (same : m.sameSubject n = true) (x : Notice) : m.sameSubject x = n.sameSubject x := by
  unfold Notice.sameSubject at same ⊢
  simp only [Bool.and_eq_true, beq_iff_eq] at same
  obtain ⟨⟨⟨own, other⟩, subject⟩, kind⟩ := same
  rw [own, other, subject, kind]

theorem subjects_eq (same : m.sameSubject n = true) : subjects m q = subjects n q :=
  congrArg (fun p => q.filter p) (funext (sameSubject_eq same))

theorem subjects_append_single (v : Bool) :
    (subjects m (q ++ [{ n with several := v }])).length = (subjects m q).length + if m.sameSubject n then 1 else 0 := by
  unfold subjects
  rw [List.filter_append, List.length_append]
  have own : m.sameSubject { n with several := v } = m.sameSubject n := rfl
  cases same : m.sameSubject n <;> simp [own, same]

theorem subjects_le {l : List Notice} (part : l.Sublist q) : (subjects m l).length ≤ (subjects m q).length :=
  (part.filter _).length_le

/-- A queue of at most two of each subject takes a posting where, its own subject aside, it loses or keeps what it had. -/
theorem subjects_two {l : List Notice} (part : l.Sublist q) (few : (subjects m q).length ≤ 2)
    (own : (subjects n l).length ≤ 1) (v : Bool) : (subjects m (l ++ [{ n with several := v }])).length ≤ 2 := by
  rw [subjects_append_single]
  by_cases same : m.sameSubject n = true
  · rw [if_pos same, subjects_eq same]
    exact Nat.succ_le_succ own
  · rw [if_neg same]
    exact (subjects_le part).trans few

theorem deliver_crowded (crowded : 2 ≤ (subjects n q).length) :
    deliver q n = eraseLast n.sameSubject q ++ [{ n with several := true }] := if_pos crowded

theorem deliver_room (free : (subjects n q).length < 2) (room : q.length < 32) : deliver q n = q ++ [n] :=
  (if_neg (Nat.not_le.mpr free)).trans (if_pos room)

theorem deliver_full (free : (subjects n q).length < 2) (full : 32 ≤ q.length) :
    deliver q n = q.dropLast ++ [{ n with several := true }] :=
  (if_neg (Nat.not_le.mpr free)).trans (if_neg (Nat.not_lt.mpr full))

/-- What a posting does to a queue that holds two of its subject. -/
theorem deliver_replaces (crowded : 2 ≤ (subjects n q).length) : ∃ front x back, q = front ++ x :: back ∧
    n.sameSubject x = true ∧ (∀ y ∈ back, n.sameSubject y = false) ∧
    deliver q n = front ++ back ++ [{ n with several := true }] := by
  obtain ⟨y, mem⟩ := List.exists_mem_of_length_pos (Nat.lt_of_lt_of_le Nat.zero_lt_two crowded)
  obtain ⟨held, same⟩ := List.mem_filter.mp mem
  obtain ⟨front, x, back, split, own, later, erased⟩ := eraseLast_splits ⟨y, held, same⟩
  exact ⟨front, x, back, split, own, later, by rw [deliver_crowded crowded, erased]⟩

/-- The queue keeps to two notices of each BOOTH subject (R163). -/
theorem deliver_two (few : ∀ m : Notice, (subjects m q).length ≤ 2) (m : Notice) : (subjects m (deliver q n)).length ≤ 2 := by
  by_cases crowded : 2 ≤ (subjects n q).length
  · obtain ⟨front, x, back, rfl, own, -, delivered⟩ := deliver_replaces crowded
    rw [delivered]
    refine subjects_two (List.Sublist.append_left (List.sublist_cons_self x back) front) (few m) ?_ true
    have total := few n
    unfold subjects at total ⊢
    rw [List.filter_append, List.length_append, List.filter_cons, if_pos own, List.length_cons] at total
    rw [List.filter_append, List.length_append]
    omega
  · have free := Nat.lt_of_not_le crowded
    by_cases full : 32 ≤ q.length
    · rw [deliver_full free full]
      exact subjects_two (List.dropLast_sublist q) (few m)
        (Nat.le_of_lt_succ (Nat.lt_of_le_of_lt (subjects_le (List.dropLast_sublist q)) free)) true
    · rw [deliver_room free (Nat.lt_of_not_le full)]
      exact subjects_two (List.Sublist.refl q) (few m) (Nat.le_of_lt_succ free) n.several

end

/-! ### FETCH NOTICES -/

section
variable {masked : List NoticeClass}

theorem unfetched_sublist (k : Nat) (q : List Notice) : (unfetched masked k q).Sublist q := by
  induction q generalizing k with
  | nil => rw [unfetched]
  | cons n q ih =>
    cases k with
    | zero => exact List.Sublist.refl _
    | succ k =>
      unfold unfetched
      split
      · exact (ih k).cons n
      · exact (ih (k + 1)).cons_cons n

/-- Of the unmasked notices the first are taken. -/
theorem unfetched_open (k : Nat) (q : List Notice) :
    (unfetched masked k q).filter (unmasked masked) = (q.filter (unmasked masked)).drop k := by
  induction q generalizing k with
  | nil => simp [unfetched]
  | cons n q ih =>
    cases k with
    | zero => rfl
    | succ k =>
      unfold unfetched
      cases shown : unmasked masked n with
      | true => simp [shown, ih k]
      | false => simp [shown, ih (k + 1)]

/-- The masked notices all stay. -/
theorem unfetched_masked (k : Nat) (q : List Notice) :
    (unfetched masked k q).filter (fun n => !unmasked masked n) = q.filter fun n => !unmasked masked n := by
  induction q generalizing k with
  | nil => simp [unfetched]
  | cons n q ih =>
    cases k with
    | zero => rfl
    | succ k =>
      unfold unfetched
      cases shown : unmasked masked n with
      | true => simp [shown, ih k]
      | false => simp [shown, ih (k + 1)]

end

/-! ### ACK CONDITION -/

theorem conditions_ext {c d : Conditions} (same : ∀ n a, c.get n a = d.get n a) : c = d := by
  have quarantine : c.quarantine = d.quarantine := table_ext fun a => same .quarantine a
  have dark : c.hallDark = d.hallDark := same .hallDark 0
  have overflow : c.settleOverflow = d.settleOverflow := same .settleOverflow 0
  have fault : c.storeFault = d.storeFault := same .storeFault 0
  have stale : c.clockStale = d.clockStale := same .clockStale 0
  obtain ⟨_, _, _, _, _⟩ := c
  obtain ⟨_, _, _, _, _⟩ := d
  cases quarantine
  cases dark
  cases overflow
  cases fault
  cases stale
  rfl

/-- A condition after a removal: as it was, or the one removed. -/
theorem remove_is (h : Hall) (failed : AreaSet) (c : Conditions) (n m : ConditionName) (a b : ConsoleId) :
    (c.remove n a).get m b = c.get m b ∨
      (c.remove n a).get m b = .clear ∧ causeHeld h failed m b = causeHeld h failed n a := by
  cases n <;> cases m <;> simp only [Conditions.remove, Conditions.get, causeHeld, true_or, and_true, or_true]
  rw [vset_get]
  by_cases e : a = b
  · rw [if_pos e, e]
    exact .inr ⟨rfl, rfl⟩
  · rw [if_neg e]
    exact .inl rfl

/-- A condition acknowledged stays away while its cause is gone. -/
theorem sync_removed {h : Hall} {failed : AreaSet} {c : Conditions} {n : ConditionName} {a : ConsoleId}
    (met : c = syncConditions h failed c) (ended : c.get n a = .ended) :
    syncConditions h failed (c.remove n a) = c.remove n a := by
  have meets (m : ConditionName) (b : ConsoleId) : (c.get m b).meet (causeHeld h failed m b) = c.get m b := by
    rw [← syncConditions_get, ← met]
  have gone : causeHeld h failed n a = false := by
    have own := meets n a
    rw [ended] at own
    cases cause : causeHeld h failed n a with
    | true => rw [cause] at own; cases own
    | false => rfl
  refine conditions_ext fun m b => ?_
  rw [syncConditions_get]
  rcases remove_is h failed c n m a b with same | ⟨removed, cause⟩
  · rw [same, meets]
  · rw [removed, cause, gone]
    rfl

/-! ### The orders -/

section
variable {s : State} {tag : Tag}

/-- An order on the notice unit is answered, and leaves the unit as `v` for its event's end. -/
theorem noted_of {i : Instr} {f : State → Verdict} {r : Result} {v : NoticeUnit} (p : s.takesOrders)
    (means : exec i s = .next (hostLine tag f s)) (verdict : f s.opened = .now r { s.opened with notice := v }) :
    ∃ t, (exec i s = .next t ∧ State.endsWith { s with notice := v } s.hall t ∧ s.asks none s.hall t ∧ t.desks = s.desks ∧
      t.port = s.port.answered ∧ t.out = [⟨.host t.noticesWaiting t.conditionRaised, tag, r, s.port.overrun⟩]) ∧
      t.notice = noticeEnd s.hall s.store.failed v := by
  have ends := endsWith_finish (s := { s with notice := v }) none s.hall
  refine ⟨_, ⟨means, ?_⟩, ?_⟩
  · rw [hostLine_taken tag f p, verdict]
    exact ⟨ends, rfl, rfl, rfl, rfl⟩
  · rw [hostLine_taken tag f p, verdict]
    rfl

/-- With nothing handed over the unit keeps its queue and its log at the event's end. -/
theorem noticeEnd_rest {h : Hall} (rest : h.work = EventWork.empty) (failed : AreaSet) (u : NoticeUnit) :
    (noticeEnd h failed u).queue = u.queue ∧ (noticeEnd h failed u).log = u.log ∧
      (noticeEnd h failed u).conds = syncConditions h failed u.conds := by
  unfold noticeEnd
  rw [rest]
  exact ⟨rfl, rfl, rfl⟩

theorem ackCondition_malformed {name : Arg ConditionName} {addr : Arg Nat} (bad : name = .absent ∨ name = .bad ∨
      (name = .val .quarantine ∧ (addr = .absent ∨ addr = .bad)) ∨ ∃ x, name = .val x ∧ x ≠ .quarantine ∧ addr ≠ .absent) :
    ackCondition name addr s = refuse .syntaxError s := by
  refine if_pos ?_
  rcases bad with rfl | rfl | ⟨rfl, rfl | rfl⟩ | ⟨x, rfl, other, given⟩
  · rfl
  · rfl
  · rfl
  · rfl
  · have present : addr.isAbsent = false := by
      cases addr with
      | absent => exact absurd rfl given
      | bad | val => rfl
    cases x with
    | quarantine => exact absurd rfl other
    | hallDark | settleOverflow | storeFault | clockStale => exact congrArg not present

theorem ackCondition_range {n : Nat} (out : n = 0 ∨ 48 < n) :
    ackCondition (.val .quarantine) (.val n) s = refuse .range s := by
  have none : idFrom1 48 n = none := idFrom1_none (by omega)
  unfold ackCondition
  rw [if_neg (by nofun)]
  dsimp only
  rw [none]

/-- The condition named, with its console where it is QUARANTINE. -/
theorem ackCondition_named (name : ConditionName) (a : ConsoleId) :
    ackCondition (.val name) (if name = .quarantine then .val (numOf a) else .absent) s = acknowledge name a s := by
  cases name with
  | quarantine =>
    have known : idFrom1 48 (numOf a) = some a := idFrom1_numOf a
    unfold ackCondition
    rw [if_pos rfl, if_neg (by nofun)]
    dsimp only
    rw [known]
  | hallDark | settleOverflow | storeFault | clockStale => rfl

end

/-- Settles O56: where a posting goes, and each order on the notice unit. -/
theorem noticesDeliveredAndFetched : Obligations.NoticesDeliveredAndFetched := by
  refine ⟨fun q n => ⟨deliver_replaces, deliver_room, fun free full => ?_, deliver_length n, deliver_two⟩, fun s tag p rest => ?_⟩
  · have nonempty : q ≠ [] := by
      rintro rfl
      exact absurd full (by decide)
    exact ⟨q.dropLast, q.getLast nonempty, (List.dropLast_append_getLast nonempty).symm, deliver_full free full⟩
  intro u does open_ masked
  refine ⟨?_, ?_, fun name addr => ?_, fun name a => ?_⟩
  · obtain ⟨t, fetches, unit⟩ := noted_of (i := .fetchNotices tag) (f := fetchNotices) p rfl rfl
    have hidden : (fun n : Notice => s.hall.settings.hall.masked.contains n.cls) =
        fun n => !unmasked s.hall.settings.hall.masked n := funext fun n => (Bool.not_not _).symm
    refine ⟨_, t, fetches, ?_, unfetched_sublist 8 u.queue, unfetched_open 8 u.queue, ?_⟩
    · rw [unit]
      exact (noticeEnd_rest rest _ _).1
    · exact (congrArg (List.filter · _) hidden).trans ((unfetched_masked 8 u.queue).trans
        (congrArg (List.filter · u.queue) hidden.symm))
  · obtain ⟨t, clears, unit⟩ := noted_of (i := .clearFaults tag) (f := clearFaults) p rfl rfl
    refine ⟨t, clears, ?_⟩
    rw [unit]
    exact (noticeEnd_rest rest _ _).2.1
  · intro refused
    refine ⟨fun bad => refused_of p rfl (ackCondition_malformed bad), fun n named given out => refused_of p rfl ?_⟩
    rw [named, given]
    exact ackCondition_range out
  · intro i
    have named := ackCondition_named (s := s.opened) name a
    cases cell : u.conds.get name a with
    | clear =>
      refine refused_of p rfl (named.trans ?_)
      unfold acknowledge
      rw [show s.opened.notice.conds.get name a = .clear from cell]
    | active =>
      refine refused_of p rfl (named.trans ?_)
      unfold acknowledge
      rw [show s.opened.notice.conds.get name a = .active from cell]
    | ended =>
      intro met
      have verdict : acknowledge name a s.opened =
          .now (.ok .plain []) { s.opened with notice := { u with conds := u.conds.remove name a } } := by
        unfold acknowledge
        rw [show s.opened.notice.conds.get name a = .ended from cell] <;> rfl
      obtain ⟨t, acknowledges, unit⟩ := noted_of (i := i) p rfl (named.trans verdict)
      refine ⟨t, acknowledges, ?_⟩
      rw [unit, (noticeEnd_rest rest _ _).2.2]
      exact sync_removed met cell

end Sys2Proof.StepProofs
end

-- ==== Proofs: Lines ====
section
/-! PROOFS. The tests of a completed line, and of a desk request's values (R105, R157, R158). -/

namespace Sys2Proof.StepProofs

open Machine

/-! ### Words -/

/-- A quote is left open exactly where their number, with the one open before, is odd. -/
theorem splitWords_open (t : Text) (q : Bool) (w : Text) :
    (splitWords t q w).2 = (q != decide (t.count '"' % 2 = 1)) := by
  induction t, q, w using splitWords.induct with
  | case1 q w => simp [splitWords]
  | case2 cs q w ih =>
    rw [splitWords, if_pos rfl, ih, List.count_cons_self]
    have odd : (cs.count '"' + 1) % 2 = 1 ↔ ¬ cs.count '"' % 2 = 1 := by omega
    simp only [odd, decide_not, Bool.bne_not, Bool.not_bne]
  | case3 c cs q w quote space ih =>
    rw [splitWords, if_neg quote, if_pos space, List.count_cons_of_ne quote, space.2]
    exact ih
  | case4 c cs q w quote space ih =>
    rw [splitWords, if_neg quote, if_neg space, ih, List.count_cons_of_ne quote]

/-- Without a space there is one word at most. -/
theorem splitWords_single (t : Text) (q : Bool) (w : Text) (none : ' ' ∉ t) : (splitWords t q w).1.length ≤ 1 := by
  induction t, q, w using splitWords.induct with
  | case1 q w => rw [splitWords]; dsimp only; split <;> simp
  | case2 cs q w ih => rw [splitWords, if_pos rfl]; exact ih fun m => none (.tail _ m)
  | case3 c cs q w quote space ih => exact absurd (space.1 ▸ .head _) none
  | case4 c cs q w quote space ih => rw [splitWords, if_neg quote, if_neg space]; exact ih fun m => none (.tail _ m)

/-! ### Fields -/

/-- A word of capital letters alone (R157). -/
def Plain (w : Text) : Prop := w ≠ [] ∧ ∀ c ∈ w, isCapital c = true

/-- A value that is quoted whole or not at all (R157). -/
def Quoted (v : Text) : Prop := '"' ∉ v ∨ ∃ t, v = '"' :: t ++ ['"'] ∧ '"' ∉ t

/-- A word that gives an argument a value (R157). -/
def Valued (w : Text) : Prop := ∃ n v, w = n ++ '=' :: v ∧ isName n = true ∧ Quoted v

/-- The part of a word before its value. -/
def nameOf (w : Text) : Text := w.takeWhile fun c => c != '='

theorem plain_iff (w : Text) : Plain w ↔ isVerbWord w = true := by
  simp [Plain, isVerbWord]

theorem plain_bare (h : Plain w) : '=' ∉ w := fun m => absurd (h.2 _ m) (by decide)

theorem isName_bare (h : isName n = true) : '=' ∉ n := by
  intro m
  cases n with
  | nil => cases m
  | cons c cs =>
    obtain ⟨first, rest⟩ : isCapital c = true ∧ ∀ d ∈ cs, isCapital d = true ∨ isDigit d = true := by
      simpa [isName] using h
    rcases List.mem_cons.1 m with rfl | m
    · exact absurd first (by decide)
    · exact (rest _ m).elim (fun h => absurd h (by decide)) fun h => absurd h (by decide)

theorem takeWhile_until {x : Char} {n : Text} (bare : x ∉ n) (v : Text) :
    (n ++ x :: v).takeWhile (fun c => c != x) = n := by
  rw [List.takeWhile_append_of_pos fun c m => by simpa using ne_of_mem_of_not_mem m bare]
  simp

theorem takeWhile_all {x : Char} {n : Text} (bare : x ∉ n) : n.takeWhile (fun c => c != x) = n :=
  List.takeWhile_eq_self_iff.2 fun c m => by simpa using ne_of_mem_of_not_mem m bare

theorem fieldOf_bare (bare : '=' ∉ w) : fieldOf w = if isVerbWord w then some ⟨w, none⟩ else none := by
  unfold fieldOf
  simp [takeWhile_all bare]

theorem fieldOf_equation (bare : '=' ∉ n) (v : Text) :
    fieldOf (n ++ '=' :: v) = if isName n then (valueText v).map fun t => ⟨n, some t⟩ else none := by
  unfold fieldOf
  simp [takeWhile_until bare]

/-- A word either holds no "=" or is a name, "=" and a value. -/
theorem word_cases (w : Text) : '=' ∉ w ∨ ∃ n v, w = n ++ '=' :: v ∧ '=' ∉ n := by
  by_cases m : '=' ∈ w
  · obtain ⟨n, v, rfl, bare⟩ := List.eq_append_cons_of_mem m
    exact .inr ⟨n, v, rfl, bare⟩
  · exact .inl m

theorem valueText_isSome (v : Text) : (valueText v).isSome = true ↔ Quoted v := by
  unfold valueText Quoted
  split
  · next rest =>
    simp only [List.mem_cons, true_or, not_true_eq_false, false_or, List.cons_append, List.cons.injEq, true_and]
    rcases List.eq_nil_or_concat rest with rfl | ⟨t, c, rfl⟩
    · simp
    · simp only [List.concat_eq_append, List.reverse_append, List.reverse_cons, List.reverse_nil, List.nil_append,
        List.singleton_append]
      by_cases q : c = '"'
      · subst q
        simp
      · split
        · next h => exact absurd (List.cons.inj h).1 q
        · simp [q]
  · next other =>
    have not : ¬ ∃ t, v = '"' :: t ++ ['"'] ∧ '"' ∉ t := fun ⟨t, e, _⟩ => other _ e
    rw [or_iff_left not]
    split <;> simp_all

theorem fieldOf_plain (h : Plain w) : fieldOf w = some ⟨w, none⟩ := by
  rw [fieldOf_bare (plain_bare h), if_pos ((plain_iff w).1 h)]

theorem fieldOf_alone {n : Text} : fieldOf w = some ⟨n, none⟩ ↔ w = n ∧ Plain w := by
  refine ⟨fun h => ?_, fun ⟨e, p⟩ => e ▸ fieldOf_plain p⟩
  rcases word_cases w with bare | ⟨m, v, rfl, bare⟩
  · rw [fieldOf_bare bare] at h
    split at h
    · next verb => exact ⟨(Field.mk.inj (Option.some.inj h)).1, (plain_iff w).2 verb⟩
    · cases h
  · rw [fieldOf_equation bare] at h
    split at h
    · cases e : valueText v <;> simp [e] at h
    · cases h

/-- A word is a field exactly in one of its two forms. -/
theorem fieldOf_isSome (w : Text) : (fieldOf w).isSome = true ↔ Plain w ∨ Valued w := by
  rcases word_cases w with bare | ⟨n, v, rfl, bare⟩
  · have not : ¬ Valued w := fun ⟨n, v, e, _, _⟩ => bare (by simp [e])
    rw [fieldOf_bare bare, plain_iff]
    split <;> simp_all
  · have not : ¬ Plain (n ++ '=' :: v) := fun p => plain_bare p (by simp)
    rw [fieldOf_equation bare]
    constructor
    · intro h
      split at h
      · next named => exact .inr ⟨n, v, rfl, named, (valueText_isSome v).1 (by simpa using h)⟩
      · cases h
    · rintro (p | ⟨m, u, e, named, quoted⟩)
      · exact absurd p not
      · have same : n = m := by rw [← takeWhile_until bare v, e, takeWhile_until (isName_bare named)]
        subst same
        obtain rfl : v = u := by simpa using e
        rw [if_pos named, Option.isSome_map]
        exact (valueText_isSome v).2 quoted

theorem fieldOf_name (h : fieldOf w = some f) : f.name = nameOf w := by
  unfold nameOf
  rcases word_cases w with bare | ⟨n, v, rfl, bare⟩
  · rw [fieldOf_bare bare] at h
    rw [takeWhile_all bare]
    split at h <;> cases h
    rfl
  · rw [fieldOf_equation bare] at h
    rw [takeWhile_until bare]
    split at h
    · cases e : valueText v <;> simp [e] at h
      rw [← h]
    · cases h

/-- The words as fields, where all are. -/
def AllFields (ws : List Text) : Prop := ∀ w ∈ ws, (fieldOf w).isSome = true

theorem allFields_append (a b : List Text) : AllFields (a ++ b) ↔ AllFields a ∧ AllFields b := by
  simp [AllFields, or_imp, forall_and]

/-- A word's field, read with a default. -/
def asField (w : Text) : Field := (fieldOf w).getD ⟨[], none⟩

theorem fields_eq (h : AllFields ws) : ws.filterMap fieldOf = ws.map asField := by
  induction ws with
  | nil => rfl
  | cons w ws ih =>
    obtain ⟨f, e⟩ := Option.isSome_iff_exists.1 (h w (.head _))
    rw [List.filterMap_cons_some e, List.map_cons, ih fun x m => h x (.tail _ m), asField, e, Option.getD_some]

/-- Of words that are fields, a name alone is a plain word. -/
theorem asField_alone (h : (fieldOf w).isSome = true) : (asField w).value.isNone = true ↔ Plain w := by
  obtain ⟨⟨n, v⟩, e⟩ := Option.isSome_iff_exists.1 h
  rw [asField, e, Option.getD_some]
  constructor
  · intro bare
    obtain rfl : v = none := by simpa using bare
    exact (fieldOf_alone.1 e).2
  · intro p
    rw [fieldOf_plain p] at e
    rw [← Option.some.inj e]
    rfl

theorem asField_name (h : (fieldOf w).isSome = true) : (asField w).name = nameOf w := by
  obtain ⟨f, e⟩ := Option.isSome_iff_exists.1 h
  rw [asField, e, Option.getD_some]
  exact fieldOf_name e

theorem nameOf_plain (p : Plain w) : nameOf w = w := takeWhile_all (plain_bare p)

/-! ### Verbs -/

/-- The words begin with the verb, and these are the ones behind it. -/
def Takes (words : List Text) (v : List String × List String) (args : List Text) : Prop :=
  words = v.1.map String.toList ++ args

/-- Each verb is made of plain words, and none begins another. -/
def Separated (cat : Catalogue) : Prop :=
  (∀ v ∈ cat, ∀ w ∈ v.1, isVerbWord w.toList = true) ∧
    ∀ v ∈ cat, ∀ u ∈ cat, v.1.map String.toList <+: u.1.map String.toList → v = u

theorem separated_orders : Separated orderCatalogue := by
  unfold Separated
  decide

theorem separated_requests : Separated deskCatalogue := by
  unfold Separated
  decide

/-- The fields begin with a verb exactly where the words do. -/
theorem fields_begin (vs : List String) (verb : ∀ v ∈ vs, isVerbWord v.toList = true) (ws : List Text)
    (fields : AllFields ws) :
    ((ws.map asField).take vs.length == vs.map fun v => ⟨v.toList, none⟩) = true ↔ vs.map String.toList <+: ws := by
  rw [beq_iff_eq]
  induction vs generalizing ws with
  | nil => simp
  | cons v vs ih =>
    cases ws with
    | nil => simp
    | cons w ws =>
      have tail := ih (fun u m => verb u (.tail _ m)) ws fun x m => fields x (.tail _ m)
      have head : asField w = ⟨v.toList, none⟩ ↔ v.toList = w := by
        obtain ⟨f, e⟩ := Option.isSome_iff_exists.1 (fields w (.head _))
        have alone := fieldOf_alone (w := w) (n := v.toList)
        have plain := (plain_iff _).2 (verb v (.head _))
        rw [e, Option.some.injEq] at alone
        rw [asField, e, Option.getD_some, alone]
        exact ⟨fun h => h.1.symm, fun h => ⟨h.symm, h ▸ plain⟩⟩
      rw [List.map_cons, List.length_cons, List.take_succ_cons, List.map_cons, List.cons.injEq, List.map_cons,
        List.cons_prefix_cons, head, tail]

theorem findVerb_some {cat : Catalogue} (sep : Separated cat) (fields : AllFields ws) (m : v ∈ cat)
    (takes : Takes ws v args) : findVerb cat (ws.map asField) = some (v, args.map asField) := by
  have found : cat.find? (fun v => ((ws.map asField).take v.1.length) == v.1.map fun w => ⟨w.toList, none⟩) = some v := by
    have some : (cat.find? fun v => (ws.map asField).take v.1.length == v.1.map fun w => ⟨w.toList, none⟩).isSome = true :=
      List.find?_isSome.2 ⟨v, m, (fields_begin v.1 (sep.1 v m) ws fields).2 ⟨args, takes.symm⟩⟩
    obtain ⟨u, e⟩ := Option.isSome_iff_exists.1 some
    have mu := List.mem_of_find?_eq_some e
    have meets := List.find?_some e
    have begins := (fields_begin u.1 (sep.1 u mu) ws fields).1 meets
    rcases List.prefix_or_prefix_of_prefix begins ⟨args, takes.symm⟩ with p | p
    · rw [e, sep.2 u mu v m p]
    · rw [e, sep.2 v m u mu p]
  unfold findVerb
  rw [found, takes, Option.map_some, List.map_append, List.drop_left' (by simp)]

theorem findVerb_none {cat : Catalogue} (sep : Separated cat) (fields : AllFields ws)
    (no : ∀ v ∈ cat, ∀ args, ¬ Takes ws v args) : findVerb cat (ws.map asField) = none := by
  unfold findVerb
  rw [List.find?_eq_none.2, Option.map_none]
  intro v m h
  obtain ⟨args, e⟩ := (fields_begin v.1 (sep.1 v m) ws fields).1 h
  exact no v m args e.symm

/-! ### Names alone -/

/-- The argument of the verb that its order takes without a value (R2, R176). -/
def Alone (verb : List String) (w : Text) : Prop :=
  (verb = ["SET", "CHANNEL"] ∧ w = "FORCE".toList) ∨ (verb = ["RESTART"] ∧ w = "HOLD".toList)

theorem alone_iff (verb : List String) (w : Text) :
    ((takenAlone verb).map String.toList).contains w = true ↔ Alone verb w := by
  unfold takenAlone Alone
  split
  · next e => subst e; simp
  · split
    · next e => subst e; simp
    · simp_all

/-- Behind the first run of those that meet `p`, or behind three, one more meets it. -/
theorem run_broken (p : α → Bool) (l : List α) :
    (l.drop (min 3 (l.takeWhile p).length)).any p = true ↔
      ∃ front w back, l = front ++ w :: back ∧ p w = true ∧ (3 ≤ front.length ∨ ∃ x ∈ front, ¬ p x = true) := by
  constructor
  · intro h
    obtain ⟨w, m, pw⟩ := List.any_eq_true.1 h
    obtain ⟨a, b, e⟩ := List.append_of_mem m
    have whole := (List.take_append_drop (min 3 (l.takeWhile p).length) l).symm
    refine ⟨l.take (min 3 (l.takeWhile p).length) ++ a, w, b, by rw [List.append_assoc, ← e]; exact whole, pw, ?_⟩
    rcases Nat.le_total 3 (l.takeWhile p).length with three | fewer
    · have shorter := (List.takeWhile_prefix p (l := l)).length_le
      exact .inl (by simp; omega)
    · rw [Nat.min_eq_right fewer] at e ⊢
      have rest : l.drop (l.takeWhile p).length = l.dropWhile p := by
        conv_lhs => rw [← List.takeWhile_append_dropWhile (p := p) (l := l)]
        exact List.drop_left' (by simp)
      rw [rest] at e
      cases a with
      | nil =>
        have first := List.head?_dropWhile_not p l
        rw [e] at first
        simp [pw] at first
      | cons x a =>
        have first := List.head?_dropWhile_not p l
        rw [e] at first
        exact .inr ⟨x, by simp, by simpa using first⟩
  · rintro ⟨front, w, back, rfl, pw, far⟩
    refine List.any_eq_true.2 ⟨w, ?_, pw⟩
    have short : min 3 ((front ++ w :: back).takeWhile p).length ≤ front.length := by
      rcases far with three | ⟨x, m, px⟩
      · omega
      · rw [List.takeWhile_append, if_neg fun e => px (by
          have all := List.takeWhile_eq_self_iff.1 ((List.takeWhile_prefix p (l := front)).eq_of_length e)
          exact all x m)]
        exact (Nat.min_le_right _ _).trans (List.takeWhile_prefix p (l := front)).length_le
    rw [List.drop_append_of_le_length short]
    simp

/-- A name alone where its order takes none, or behind words that begin with no verb (log entry 9). -/
def StandsAlone (cat : Catalogue) (words : List Text) : Prop :=
  (∃ v ∈ cat, ∃ args, Takes words v args ∧ ∃ w ∈ args, Plain w ∧ ¬ Alone v.1 w) ∨
    ((∀ v ∈ cat, ∀ args, ¬ Takes words v args) ∧
      ∃ front w back, words = front ++ w :: back ∧ Plain w ∧ (3 ≤ front.length ∨ ∃ x ∈ front, ¬ Plain x))

theorem any_fields {p : Field → Bool} {q : Text → Prop} (ws : List Text) (h : ∀ w ∈ ws, p (asField w) = true ↔ q w) :
    (ws.map asField).any p = true ↔ ∃ w ∈ ws, q w := by
  rw [List.any_map, List.any_eq_true]
  exact exists_congr fun w => and_congr_right fun m => h w m

theorem nameAlone_iff {cat : Catalogue} (sep : Separated cat) (fields : AllFields ws) :
    nameAlone cat (ws.map asField) = true ↔ StandsAlone cat ws := by
  unfold nameAlone StandsAlone
  by_cases known : ∃ v ∈ cat, ∃ args, Takes ws v args
  · obtain ⟨v, m, args, takes⟩ := known
    have behind : AllFields args := ((allFields_append _ _).1 (takes ▸ fields)).2
    rw [findVerb_some sep fields m takes]
    have any : (args.map asField).any
        (fun f => f.value.isNone && !((takenAlone v.1).map String.toList).contains f.name) = true ↔
        ∃ w ∈ args, Plain w ∧ ¬ Alone v.1 w := by
      refine any_fields args fun w mw => ?_
      rw [Bool.and_eq_true, Bool.not_eq_true', ← Bool.not_eq_true, asField_alone (behind w mw), alone_iff,
        asField_name (behind w mw)]
      exact and_congr_right fun p => by rw [nameOf_plain p]
    rw [any]
    constructor
    · exact fun h => .inl ⟨v, m, args, takes, h⟩
    · rintro (⟨u, mu, args', takes', h⟩ | ⟨no, _⟩)
      · have same := (findVerb_some sep fields m takes).symm.trans (findVerb_some sep fields mu takes')
        obtain rfl : v = u := (Prod.mk.inj (Option.some.inj same)).1
        obtain rfl : args = args' := List.append_cancel_left (takes.symm.trans takes')
        exact h
      · exact absurd takes (no v m args)
  · have no : ∀ v ∈ cat, ∀ args, ¬ Takes ws v args := fun v m args t => known ⟨v, m, args, t⟩
    rw [findVerb_none sep fields no]
    dsimp only
    rw [List.takeWhile_map, List.length_map, ← List.map_drop, List.any_map]
    refine (run_broken ((fun f => f.value.isNone) ∘ asField) ws).trans ⟨?_, ?_⟩
    · rintro ⟨front, w, back, e, pw, far⟩
      obtain ⟨ff, fb⟩ := (allFields_append _ _).1 (e ▸ fields)
      refine .inr ⟨no, front, w, back, e, (asField_alone (fb w (.head _))).1 pw, far.imp_right ?_⟩
      rintro ⟨x, m, px⟩
      exact ⟨x, m, fun p => px ((asField_alone (ff x m)).2 p)⟩
    · rintro (⟨v, m, args, takes, _⟩ | ⟨_, front, w, back, e, pw, far⟩)
      · exact absurd takes (no v m args)
      · obtain ⟨ff, fb⟩ := (allFields_append _ _).1 (e ▸ fields)
        refine ⟨front, w, back, e, (asField_alone (fb w (.head _))).2 pw, far.imp_right ?_⟩
        rintro ⟨x, m, px⟩
        exact ⟨x, m, fun p => px ((asField_alone (ff x m)).1 p)⟩

/-- What is wrong with the words behind the tag (R157, R158). -/
theorem wordsWrong_iff {cat : Catalogue} (sep : Separated cat) (ws : List Text) :
    wordsWrong cat ws = true ↔
      (∃ w ∈ ws, ¬ Plain w ∧ ¬ Valued w) ∨ (∃ w, ws.head? = some w ∧ ¬ Plain w) ∨ StandsAlone cat ws := by
  have isNone (w : Text) : (fieldOf w).isNone = true ↔ ¬ Plain w ∧ ¬ Valued w := by
    rw [← not_or, ← fieldOf_isSome, Bool.not_eq_true, Option.isSome_eq_false_iff]
  unfold wordsWrong
  rw [Bool.or_eq_true, Bool.or_eq_true, List.any_eq_true, or_assoc]
  by_cases fields : AllFields ws
  · have none : ¬ ∃ w ∈ ws, ¬ Plain w ∧ ¬ Valued w := fun ⟨w, m, h⟩ => by
      have some := fields w m
      rw [Option.isSome_iff_ne_none] at some
      exact some (Option.isNone_iff_eq_none.1 ((isNone w).2 h))
    have none' : ¬ ∃ w ∈ ws, (fieldOf w).isNone = true := fun ⟨w, m, h⟩ => none ⟨w, m, (isNone w).1 h⟩
    have head : (ws.head?.any fun w => (fieldOf w).any fun f => f.value.isSome) = true ↔
        ∃ w, ws.head? = some w ∧ ¬ Plain w := by
      rw [Option.any_eq_true]
      refine exists_congr fun w => and_congr_right fun m => ?_
      have some := fields w (List.mem_of_mem_head? m)
      obtain ⟨f, e⟩ := Option.isSome_iff_exists.1 some
      rw [← asField_alone some, asField, e, Option.getD_some, Option.any_some, Option.isSome_iff_ne_none,
        Option.isNone_iff_eq_none]
    rw [or_iff_right none, or_iff_right none', head, fields_eq fields, nameAlone_iff sep fields]
  · obtain ⟨w, m, h⟩ : ∃ w ∈ ws, (fieldOf w).isNone = true := by
      unfold AllFields at fields
      push Not at fields
      obtain ⟨w, m, h⟩ := fields
      exact ⟨w, m, by simpa using h⟩
    exact iff_of_true (.inl ⟨w, m, h⟩) (.inl ⟨w, m, (isNone w).1 h⟩)

theorem allFields_of {ws : List Text} (h : ¬ ∃ w ∈ ws, ¬ Plain w ∧ ¬ Valued w) : AllFields ws := fun w m => by
  rw [fieldOf_isSome]
  by_contra n
  exact h ⟨w, m, not_or.1 n⟩

/-! ### The checksum -/

/-- What follows the text gives a checksum: a star and two hexadecimal digits (R157). -/
def Given (sum : Text) (n : Nat) : Prop :=
  ∃ x y a b, sum = ['*', x, y] ∧ hexValue x = some a ∧ hexValue y = some b ∧ n = 16 * a + b

/-- What stands behind the text, from the star on. -/
def sumOf (text : Text) : Text := text.dropWhile fun c => c != '*'

theorem givenSum_none {text : Text} (h : sumOf text = []) : givenSum text = none := by
  unfold sumOf at h
  unfold givenSum
  rw [h]

theorem givenSum_given {text : Text} (h : Given (sumOf text) n) : givenSum text = some (some n) := by
  obtain ⟨x, y, a, b, e, hx, hy, rfl⟩ := h
  unfold sumOf at e
  unfold givenSum
  simp only [e, hx, hy]

theorem givenSum_wrong {text : Text} (ne : sumOf text ≠ []) (h : ∀ n, ¬ Given (sumOf text) n) :
    givenSum text = some none := by
  unfold sumOf at ne h
  have starred : ∀ c cs, text.dropWhile (fun c => c != '*') = c :: cs → c = '*' := fun c cs e => by
    have first := List.head?_dropWhile_not (fun c => c != '*') text
    rw [e] at first
    simpa using first
  unfold givenSum
  split
  · next e => exact absurd e ne
  · next c x y e =>
    obtain rfl := starred _ _ e
    split
    · next a b hx hy => exact absurd ⟨x, y, a, b, e, hx, hy, rfl⟩ (h _)
    · rfl
  · rfl

theorem checksum_eq (t : Text) : checksum t = (t.map Char.toNat).sum % 256 := by
  unfold checksum
  rw [List.sum_eq_foldl, List.foldl_map]

/-! ### The tests of R158 -/

/-- The text before the star. -/
def bodyOf (text : Text) : Text := text.takeWhile fun c => c != '*'

/-- The tag of a line, or what stands in its place. -/
def tagOf (text : Text) : Text := (bodyOf text).takeWhile fun c => c != ' '

/-- The words behind the tag. -/
def wordsOf (text : Text) : List Text := (splitWords (bodyOf text) false []).1.drop 1

/-- The tests of R158 on a line without its LFs, in their order. -/
def LineTests (cat : Catalogue) (required : Bool) (text : Text) (refused : Tag → AnswerCode → Prop)
    (passed : List String → List Text → Prop) : Prop :=
  ifElse (¬(1 ≤ (tagOf text).length ∧ (tagOf text).length ≤ 4 ∧ ∀ c ∈ tagOf text, isDigit c = true))
    (refused ['0'] .syntaxError) <|
  ifElse (120 < text.length ∨ (sumOf text ≠ [] ∧ ∀ n, ¬ Given (sumOf text) n) ∨ (bodyOf text).count '"' % 2 = 1 ∨
      (∃ w ∈ wordsOf text, ¬ Plain w ∧ ¬ Valued w) ∨ (∃ w, (wordsOf text).head? = some w ∧ ¬ Plain w) ∨
      StandsAlone cat (wordsOf text))
    (refused (tagOf text) .syntaxError) <|
  ifElse (∃ n, Given (sumOf text) n ∧ n ≠ ((bodyOf text).map Char.toNat).sum % 256) (refused (tagOf text) .check) <|
  ifElse (sumOf text = [] ∧ required = true) (refused (tagOf text) .check) <|
  ifElse (∀ v ∈ cat, ∀ args, ¬ Takes (wordsOf text) v args) (refused (tagOf text) .unknown) <|
  ∀ v ∈ cat, ∀ args, Takes (wordsOf text) v args →
    ifElse ((∃ w ∈ args, ∀ n ∈ v.2, nameOf w ≠ n.toList) ∨ ¬ (args.map nameOf).Nodup)
      (refused (tagOf text) .syntaxError) (passed v.1 args)

/-- The line's form is wrong: the second test of R158. -/
def Formless (cat : Catalogue) (text : Text) : Prop :=
  120 < text.length ∨ givenSum text = some none ∨ (splitWords (bodyOf text) false []).2 = true ∨
    wordsWrong cat (wordsOf text) = true

theorem formless_iff {cat : Catalogue} (sep : Separated cat) (text : Text) :
    Formless cat text ↔ 120 < text.length ∨ (sumOf text ≠ [] ∧ ∀ n, ¬ Given (sumOf text) n) ∨
      (bodyOf text).count '"' % 2 = 1 ∨ (∃ w ∈ wordsOf text, ¬ Plain w ∧ ¬ Valued w) ∨
      (∃ w, (wordsOf text).head? = some w ∧ ¬ Plain w) ∨ StandsAlone cat (wordsOf text) := by
  unfold Formless
  refine or_congr Iff.rfl (or_congr ⟨fun h => ⟨fun none => ?_, fun n g => ?_⟩, fun h => givenSum_wrong h.1 h.2⟩
    (or_congr ?_ (wordsWrong_iff sep _)))
  · rw [givenSum_none none] at h
    cases h
  · rw [givenSum_given g] at h
    cases h
  · rw [splitWords_open, Bool.false_bne, decide_eq_true_eq]

/-- A tag of 1 to 4 digits (R158). -/
def Tagged (text : Text) : Prop := 1 ≤ (tagOf text).length ∧ (tagOf text).length ≤ 4 ∧ ∀ c ∈ tagOf text, isDigit c = true

theorem untagged_iff (text : Text) :
    ((tagOf text).isEmpty || 4 < (tagOf text).length || !(tagOf text).all isDigit) = true ↔ ¬ Tagged text := by
  unfold Tagged
  rw [Bool.or_eq_true, Bool.or_eq_true, List.isEmpty_iff_length_eq_zero, decide_eq_true_eq, Bool.not_eq_true',
    ← Bool.not_eq_true, List.all_eq_true, Classical.not_and_iff_not_or_not, Classical.not_and_iff_not_or_not, or_assoc]
  exact or_congr (by omega) (or_congr (by omega) Iff.rfl)

section
variable {cat : Catalogue} {required : Bool} {text : Text} (filled : text ≠ [])
include filled

theorem judge_untagged (bad : ¬ Tagged text) : judge cat required text = .refused ['0'] .syntaxError := by
  unfold judge
  rw [if_neg (by simpa using filled)]
  exact if_pos ((untagged_iff text).2 bad)

variable (tagged : Tagged text)
include tagged

theorem judge_tagged : judge cat required text =
    if 120 < text.length || givenSum text == some none || (splitWords (bodyOf text) false []).2 ||
      wordsWrong cat (wordsOf text) then .refused (tagOf text) .syntaxError
    else if (givenSum text).any fun v => v != some (checksum (bodyOf text)) then .refused (tagOf text) .check
    else if (givenSum text).isNone && required then .refused (tagOf text) .check
    else judgeFields cat (tagOf text) ((wordsOf text).filterMap fieldOf) := by
  unfold judge
  rw [if_neg (by simpa using filled)]
  exact if_neg fun h => (untagged_iff text).1 h tagged

theorem judge_formless (bad : Formless cat text) : judge cat required text = .refused (tagOf text) .syntaxError := by
  rw [judge_tagged filled tagged, if_pos]
  simpa [Formless, or_assoc] using bad

variable (formed : ¬ Formless cat text)
include formed

theorem judge_formed : judge cat required text =
    if (givenSum text).any fun v => v != some (checksum (bodyOf text)) then .refused (tagOf text) .check
    else if (givenSum text).isNone && required then .refused (tagOf text) .check
    else judgeFields cat (tagOf text) ((wordsOf text).filterMap fieldOf) := by
  rw [judge_tagged filled tagged, if_neg]
  simpa [Formless, or_assoc] using formed

theorem judge_sum_differs (g : Given (sumOf text) n) (differs : n ≠ ((bodyOf text).map Char.toNat).sum % 256) :
    judge cat required text = .refused (tagOf text) .check := by
  rw [judge_formed filled tagged formed, givenSum_given g, checksum_eq]
  exact if_pos (by simpa using differs)

theorem judge_sum_lacks (bare : sumOf text = []) (needed : required = true) :
    judge cat required text = .refused (tagOf text) .check := by
  rw [judge_formed filled tagged formed, givenSum_none bare, needed]
  rfl

variable (agrees : ¬ ∃ n, Given (sumOf text) n ∧ n ≠ ((bodyOf text).map Char.toNat).sum % 256)
  (enough : ¬ (sumOf text = [] ∧ required = true))
include agrees enough

theorem judge_summed : judge cat required text = judgeFields cat (tagOf text) ((wordsOf text).filterMap fieldOf) := by
  rw [judge_formed filled tagged formed]
  by_cases bare : sumOf text = []
  · have free : required = false := by simpa [bare] using enough
    rw [givenSum_none bare, free]
    rfl
  · by_cases g : ∃ n, Given (sumOf text) n
    · obtain ⟨n, g⟩ := g
      have same : n = ((bodyOf text).map Char.toNat).sum % 256 := by
        by_contra differs
        exact agrees ⟨n, g, differs⟩
      rw [givenSum_given g, checksum_eq, same]
      simp
    · exact absurd (.inr (.inl (givenSum_wrong bare fun n h => g ⟨n, h⟩))) formed

end

/-- Each argument is one that the verb takes, and none is given twice. -/
def Fits (v : List String × List String) (args : List Text) : Prop :=
  (∀ w ∈ args, ∃ n ∈ v.2, nameOf w = n.toList) ∧ (args.map nameOf).Nodup

theorem judgeFields_known {cat : Catalogue} (sep : Separated cat) (fields : AllFields ws) (m : v ∈ cat)
    (takes : Takes ws v args) (tag : Tag) [Decidable (Fits v args)] :
    judgeFields cat tag (ws.filterMap fieldOf) =
      if Fits v args then .passed v.1 (args.map asField) else .refused tag .syntaxError := by
  have behind : AllFields args := ((allFields_append _ _).1 (takes ▸ fields)).2
  have names : (args.map asField).map Field.name = args.map nameOf := by
    rw [List.map_map]
    exact List.map_congr_left fun w mw => asField_name (behind w mw)
  unfold judgeFields
  rw [fields_eq fields, findVerb_some sep fields m takes]
  dsimp only
  rw [names]
  refine if_congr ?_ rfl rfl
  rw [Bool.and_eq_true, decide_eq_true_eq, List.all_map, List.all_eq_true]
  refine and_congr_left' (forall₂_congr fun w mw => ?_)
  simp [eq_comm]

/-- The tests of R158 give what the line is judged to be. -/
theorem lineTests_judge {cat : Catalogue} {required : Bool} {text : Text} {refused : Tag → AnswerCode → Prop}
    {passed : List String → List Text → Prop} (sep : Separated cat) (filled : text ≠ [])
    (refusal : ∀ tag c, judge cat required text = .refused tag c → refused tag c)
    (pass : ∀ v ∈ cat, ∀ args, Takes (wordsOf text) v args → judge cat required text = .passed v.1 (args.map asField) →
      AllFields args → Fits v args → passed v.1 args) :
    LineTests cat required text refused passed := by
  refine ⟨fun bad => refusal _ _ (judge_untagged filled bad), fun good => ?_⟩
  have tagged : Tagged text := not_not.1 good
  refine ⟨fun bad => refusal _ _ (judge_formless filled tagged ((formless_iff sep text).2 bad)), fun good => ?_⟩
  have formed : ¬ Formless cat text := fun bad => good ((formless_iff sep text).1 bad)
  have fields : AllFields (wordsOf text) := allFields_of fun bad => good (.inr (.inr (.inr (.inl bad))))
  refine ⟨fun ⟨n, g, d⟩ => refusal _ _ (judge_sum_differs filled tagged formed g d), fun agrees =>
    ⟨fun h => refusal _ _ (judge_sum_lacks filled tagged formed h.1 h.2), fun enough => ?_⟩⟩
  have summed := judge_summed (cat := cat) filled tagged formed agrees enough
  refine ⟨fun no => refusal _ _ ?_, fun _ v m args takes => ?_⟩
  · rw [summed, judgeFields, fields_eq fields, findVerb_none sep fields no]
  · classical
    have known := summed.trans (judgeFields_known sep fields m takes (tagOf text))
    have behind : AllFields args := ((allFields_append _ _).1 (takes ▸ fields)).2
    have fits_iff : Fits v args ↔ ¬ ((∃ w ∈ args, ∀ n ∈ v.2, nameOf w ≠ n.toList) ∨ ¬ (args.map nameOf).Nodup) := by
      simp [Fits]
    refine ⟨fun bad => refusal _ _ ?_, fun good => ?_⟩
    · rw [known, if_neg fun f => fits_iff.1 f bad]
    · have fits := fits_iff.2 good
      exact pass v m args takes (by rw [known, if_pos fits]) behind fits

/-! ### The values of a desk request (R105) -/

/-- The argument is given this value. -/
def Value (args : List Text) (n : String) (v : Text) : Prop := ∃ w ∈ args, fieldOf w = some ⟨n.toList, some v⟩

/-- The argument is given this number. -/
def Number (args : List Text) (n : String) (k : Nat) : Prop := ∃ v, Value args n v ∧ natOf v = some k

/-- The argument is given no number. -/
def Lacks (args : List Text) (n : String) : Prop := ∀ k, ¬ Number args n k

/-- The argument is given a number above the bound. -/
def Above (args : List Text) (n : String) (hi : Nat) : Prop := ∃ k, Number args n k ∧ hi < k

/-- A condition is given. -/
def Conditioned (args : List Text) : Prop := Value args "COND" "OK".toList ∨ Value args "COND" "DAMAGED".toList

/-- A required value is missing or malformed. -/
def Lacking (verb : List String) (args : List Text) : Prop :=
  Lacks args "SER" ∨
    (verb = ["ISSUE"] ∧ (Lacks args "BADGE" ∨ Lacks args "TAR" ∨ Lacks args "CH" ∨ Lacks args "BAT")) ∨
    (verb = ["LANGUAGE"] ∧ Lacks args "CH") ∨ (verb = ["RETURN"] ∧ (¬ Conditioned args ∨ Lacks args "BAT"))

/-- A number is out of its range. -/
def Ranged (args : List Text) : Prop :=
  Above args "SER" 4294967295 ∨ Above args "BADGE" 4294967295 ∨ Above args "TAR" 8 ∨ Number args "TAR" 0 ∨
    Above args "CH" 31

section
variable {args : List Text} (fields : AllFields args) (once : (args.map nameOf).Nodup)
include fields once

theorem givenValue_iff (n : String) (v : Text) : givenValue (args.map asField) n = some v ↔ Value args n v := by
  unfold givenValue
  constructor
  · intro h
    obtain ⟨f, found, value⟩ := Option.bind_eq_some_iff.1 h
    obtain ⟨w, m, e⟩ := List.mem_map.1 (List.mem_of_find?_eq_some found)
    have name : f.name = n.toList := by simpa using List.find?_some found
    obtain ⟨g, eg⟩ := Option.isSome_iff_exists.1 (fields w m)
    obtain rfl : g = f := by rw [← e, asField, eg, Option.getD_some]
    exact ⟨w, m, by rw [eg, ← name, ← value]⟩
  · rintro ⟨w, m, e⟩
    have read : asField w = ⟨n.toList, some v⟩ := by rw [asField, e, Option.getD_some]
    have found : (args.map asField).find? (fun f => f.name == n.toList) = some (asField w) := by
      have some : ((args.map asField).find? fun f => f.name == n.toList).isSome = true :=
        List.find?_isSome.2 ⟨asField w, List.mem_map_of_mem m, by simp [read]⟩
      obtain ⟨g, eg⟩ := Option.isSome_iff_exists.1 some
      obtain ⟨x, mx, ex⟩ := List.mem_map.1 (List.mem_of_find?_eq_some eg)
      have name : g.name = n.toList := by simpa using List.find?_some eg
      have same : x = w := List.inj_on_of_nodup_map once mx m (by
        rw [← asField_name (fields x mx), ← asField_name (fields w m), ex, name, read])
      rw [eg, ← ex, same]
    rw [found, Option.bind_some, read]

theorem lacks_iff (n : String) : (givenValue (args.map asField) n).all (fun v => (natOf v).isNone) = true ↔ Lacks args n := by
  unfold Lacks Number
  cases e : givenValue (args.map asField) n with
  | none =>
    refine iff_of_true rfl fun k ⟨v, h, _⟩ => ?_
    rw [(givenValue_iff fields once n v).2 h] at e
    cases e
  | some u =>
    have only (v : Text) : Value args n v ↔ v = u := by
      rw [← givenValue_iff fields once n v, e, Option.some.injEq, eq_comm]
    simp [only, Option.eq_none_iff_forall_ne_some]

theorem malformed_iff {f : ArgForm} (number : f ≠ .cond) (n : String) :
    (givenValue (args.map asField) n).all f.malformed = true ↔ Lacks args n := by
  rw [← lacks_iff fields once]
  cases f
  case cond => exact absurd rfl number
  all_goals rfl

theorem given_number {p : Text → Bool} {q : Nat → Prop} (n : String)
    (h : ∀ v, p v = true ↔ ∃ k, natOf v = some k ∧ q k) :
    (givenValue (args.map asField) n).any p = true ↔ ∃ k, Number args n k ∧ q k := by
  rw [Option.any_eq_true]
  unfold Number
  constructor
  · rintro ⟨v, g, pv⟩
    obtain ⟨k, e, qk⟩ := (h v).1 pv
    exact ⟨k, ⟨v, (givenValue_iff fields once n v).1 g, e⟩, qk⟩
  · rintro ⟨k, ⟨v, g, e⟩, qk⟩
    exact ⟨v, (givenValue_iff fields once n v).2 g, (h v).2 ⟨k, e, qk⟩⟩

theorem above_iff (n : String) (hi : Nat) :
    (givenValue (args.map asField) n).any (ArgForm.upTo hi).outside = true ↔ Above args n hi :=
  given_number fields once n fun v => by simp [ArgForm.outside, Option.any_eq_true]

theorem outside_iff (n : String) (hi : Nat) :
    (givenValue (args.map asField) n).any (ArgForm.oneTo hi).outside = true ↔ Above args n hi ∨ Number args n 0 := by
  refine (given_number (q := fun k => k = 0 ∨ hi < k) fields once n fun v => ?_).trans ⟨?_, ?_⟩
  · simp [ArgForm.outside, Option.any_eq_true]
  · rintro ⟨k, h, rfl | b⟩
    · exact .inr h
    · exact .inl ⟨k, h, b⟩
  · rintro (⟨k, h, b⟩ | h)
    · exact ⟨k, h, .inr b⟩
    · exact ⟨0, h, .inl rfl⟩

theorem conditioned_iff :
    (givenValue (args.map asField) "COND").all ArgForm.cond.malformed = true ↔ ¬ Conditioned args := by
  unfold Conditioned
  rw [← givenValue_iff fields once, ← givenValue_iff fields once]
  cases givenValue (args.map asField) "COND" <;> simp [ArgForm.malformed]

end

/-- An argument that is given is one of the verb's. -/
theorem value_listed (fits : Fits v args) (h : Value args n t) : n ∈ v.2 := by
  obtain ⟨w, m, e⟩ := h
  obtain ⟨k, mk, same⟩ := fits.1 w m
  have name : n.toList = k.toList := (fieldOf_name e).trans same
  rwa [String.toList_injective name]

theorem not_above (fits : Fits v args) (no : n ∉ v.2) (hi : Nat) : ¬ Above args n hi := fun ⟨_, ⟨_, h, _⟩, _⟩ =>
  no (value_listed fits h)

theorem not_number (fits : Fits v args) (no : n ∉ v.2) (k : Nat) : ¬ Number args n k := fun ⟨_, h, _⟩ =>
  no (value_listed fits h)

/-- A number without a range, and a condition, are nowhere out of it. -/
theorem no_range {f : ArgForm} (free : f = .number ∨ f = .cond) (o : Option Text) : o.any f.outside = false := by
  rcases free with rfl | rfl <;> cases o <;> rfl

/-- The tests of a request's values, the first that fails first. -/
theorem judgeRequest_eq {v : List String × List String} (m : v ∈ deskCatalogue) (fields : AllFields args)
    (fits : Fits v args) [Decidable (Lacking v.1 args)] [Decidable (Ranged args)] :
    judgeRequest v.1 (args.map asField) =
      if Lacking v.1 args then some .syntaxError else if Ranged args then some .range else none := by
  unfold judgeRequest
  refine if_congr ?_ rfl (if_congr ?_ rfl rfl)
  · simp only [deskCatalogue, List.mem_cons, List.not_mem_nil, or_false] at m
    rcases m with rfl | rfl | rfl | rfl
    all_goals simp [requestForms, Lacking, malformed_iff fields fits.2, conditioned_iff fields fits.2]
  · simp only [deskCatalogue, List.mem_cons, List.not_mem_nil, or_false] at m
    unfold Ranged
    rcases m with rfl | rfl | rfl | rfl
    all_goals simp [requestForms, maxCount, above_iff fields fits.2, outside_iff fields fits.2, not_above fits,
      not_number fits, no_range, or_assoc]

/-- Where words stand behind the tag, the first space of the line ends it. -/
theorem tag_of_words {text : Text} (h : wordsOf text ≠ []) : text.takeWhile (fun c => c != ' ') = tagOf text := by
  have space : ' ' ∈ bodyOf text := by
    by_contra no
    refine h (List.drop_eq_nil_iff.2 (splitWords_single _ _ _ no))
  obtain ⟨a, b, e, bare⟩ := List.eq_append_cons_of_mem space
  have whole : text = a ++ ' ' :: (b ++ sumOf text) := by
    conv_lhs => rw [← List.takeWhile_append_dropWhile (p := fun c => c != '*') (l := text)]
    show bodyOf text ++ sumOf text = _
    rw [e, List.append_assoc, List.cons_append]
  unfold tagOf
  rw [e, takeWhile_until bare]
  conv_lhs => rw [whole]
  exact takeWhile_until bare _

theorem takes_words {v : List String × List String} (verb : v.1 ≠ []) (h : Takes ws v args) : ws ≠ [] := by
  rintro rfl
  exact verb (List.map_eq_nil_iff.1 (List.append_eq_nil_iff.1 h.symm).1)

/-! ### What becomes of the line -/

theorem refuseLine_refused {line : Text}
    (h : judge orderCatalogue s.hall.settings.hall.checksum (withoutLF line) = .refused tag c) :
    refuseLine line s = hostLine tag (refuse c) s := by
  unfold refuseLine
  rw [h]

theorem refuseLine_passed {line : Text}
    (h : judge orderCatalogue s.hall.settings.hall.checksum (withoutLF line) = .passed verb args) :
    refuseLine line s = s.opened := by
  unfold refuseLine
  rw [h]

theorem refuseDeskLine_refused {line : Text}
    (h : judge deskCatalogue s.hall.settings.hall.checksum (withoutLF line) = .refused tag c) :
    refuseDeskLine d line s = deskLine d tag (refuse c) s := by
  unfold refuseDeskLine
  rw [h]

theorem refuseDeskLine_passed {line : Text}
    (h : judge deskCatalogue s.hall.settings.hall.checksum (withoutLF line) = .passed verb args) :
    refuseDeskLine d line s =
      match judgeRequest verb args with
      | some c => deskLine d ((withoutLF line).takeWhile fun x => x != ' ') (refuse c) s
      | none => s.opened := by
  unfold refuseDeskLine
  rw [h] <;> rfl

/-- The tests of a line of the control port. -/
theorem lineTests_host {s : State} (p : s.takesOrders) (line : Text) (filled : withoutLF line ≠ []) :
    LineTests orderCatalogue s.hall.settings.hall.checksum (withoutLF line)
      (fun tag c => s.answersNow (.lineRefused line) tag (.er c) s.hall) fun _ _ => s.ignores (.lineRefused line) :=
  lineTests_judge separated_orders filled
    (fun _ _ h => refused_of p (congrArg Host.Outcome.next (refuseLine_refused h)) rfl)
    fun _ _ _ _ h _ _ => congrArg Host.Outcome.next (refuseLine_passed h)

/-- The tests of a line of a desk link, and of its request's values. -/
theorem lineTests_desk {s : State} {d : DeskId} (p : s.takesRequests d) (line : Text) (filled : withoutLF line ≠ []) :
    LineTests deskCatalogue s.hall.settings.hall.checksum (withoutLF line)
      (fun tag c => s.deskAnswersNow d (.deskLineRefused d line) tag (.er c) s.hall) fun verb args =>
        ifElse (Lacking verb args)
          (s.deskAnswersNow d (.deskLineRefused d line) (tagOf (withoutLF line)) (.er .syntaxError) s.hall) <|
        ifElse (Ranged args)
          (s.deskAnswersNow d (.deskLineRefused d line) (tagOf (withoutLF line)) (.er .range) s.hall) <|
        s.ignores (.deskLineRefused d line) := by
  refine lineTests_judge separated_requests filled
    (fun _ _ h => deskAnswersNow_of p (congrArg Host.Outcome.next (refuseDeskLine_refused h)) rfl)
    fun v m args takes h fields fits => ?_
  classical
  have verb : v.1 ≠ [] := (by decide : ∀ v ∈ deskCatalogue, v.1 ≠ []) v m
  have judged := refuseDeskLine_passed (d := d) h
  rw [judgeRequest_eq m fields fits, tag_of_words (takes_words verb takes)] at judged
  refine ⟨fun lacking => ?_, fun whole => ⟨fun outside => ?_, fun inside => ?_⟩⟩
  · rw [if_pos lacking] at judged
    exact deskAnswersNow_of p (congrArg Host.Outcome.next judged) rfl
  · rw [if_neg whole, if_pos outside] at judged
    exact deskAnswersNow_of p (congrArg Host.Outcome.next judged) rfl
  · rw [if_neg whole, if_neg inside] at judged
    exact congrArg Host.Outcome.next judged

/-- Settles O13: the tests of R158 in their order, and on a desk link those of R105 behind them. -/
theorem refusedLines : Obligations.RefusedLines := by
  refine fun s line => ⟨fun p => ⟨fun blank => ?_, fun filled => lineTests_host p line filled⟩,
    fun d p => ⟨fun blank => ?_, fun filled => lineTests_desk p line filled⟩⟩
  · have ignored : judge orderCatalogue s.hall.settings.hall.checksum (withoutLF line) = .ignored := by
      rw [show withoutLF line = [] from blank]
      rfl
    refine congrArg Host.Outcome.next ?_
    unfold refuseLine
    rw [ignored]
  · have ignored : judge deskCatalogue s.hall.settings.hall.checksum (withoutLF line) = .ignored := by
      rw [show withoutLF line = [] from blank]
      rfl
    refine congrArg Host.Outcome.next ?_
    unfold refuseDeskLine
    rw [ignored]

end Sys2Proof.StepProofs
end

-- ==== Proofs: Built ====
section
/-! PROOFS. The carriers built from empty while no channel but 0 is LIVE, and the spells that begin behind the build
(R18, R76, R94). -/

namespace Sys2Proof.StepProofs

open Machine

/-! ### Carriers filled in ascending order -/

/-- The pinned channels, in ascending order (R94). -/
def pinnedOf (h : Hall) : List ChannelId :=
  (ids 32).filter fun c => c != 0 && h.settings.channels[c].enabled && h.settings.channels[c].pinned

/-- Carrier 0 for channel 0, those from 1 upwards for the channels of the list, the others FREE. -/
def filledWith (l : List ChannelId) (now : Nat) (k : CarrierId) : Carrier :=
  if k = 0 then .onAir 0 now else (l[k.val - 1]?).elim .free fun c => .onAir c now

theorem filledWith_other (l : List ChannelId) (now : Nat) {k : CarrierId} (ne : k ≠ 0) : filledWith l now k =
    match l[k.val - 1]? with
    | some c => .onAir c now
    | none => .free := by
  unfold filledWith
  rw [if_neg ne]
  cases l[k.val - 1]? <;> rfl

/-- `k` is `h` with its carriers filled with the channels of the list, and none waiting. -/
structure Filled (l : List ChannelId) (h k : Hall) : Prop where
  eq : k = { h with air := k.air }
  waiting : k.air.waiting = []
  carriers : ∀ j : CarrierId, k.air.carriers[j] = filledWith l h.now j

theorem Filled.now (p : Filled l h k) : k.now = h.now := by rw [p.eq]; rfl

theorem filled_emptyAir (h : Hall) : Filled [] h (emptyAir h) where
  eq := foldl_keeps (R := fun h k : Hall => k = { h with air := k.air }) (fun _ => rfl) (fun p q => by rw [q, p])
    (fun _ _ => rfl) (ids 16) (h.setWaiting [])
  waiting := emptyAir_waiting h
  carriers j := by
    rw [emptyAir_get]
    rfl

theorem filledWith_free (l : List ChannelId) (now : Nat) {j : CarrierId} (ne : j ≠ 0) :
    filledWith l now j = .free ↔ l.length < j.val := by
  have pos : j.val ≠ 0 := fun e => ne (Fin.ext e)
  unfold filledWith
  rw [if_neg ne]
  cases e : l[j.val - 1]? with
  | none =>
    have := List.getElem?_eq_none_iff.1 e
    exact iff_of_true rfl (by omega)
  | some c =>
    have := (List.getElem?_eq_some_iff.1 e).1
    exact iff_of_false nofun (by omega)

/-- The next channel takes the next carrier, while there is one. -/
theorem Filled.request (p : Filled l h k) (room : l.length < 15) (c : ChannelId) :
    Filled (l ++ [c]) h (requestCarrier c k) := by
  have ne : (⟨l.length + 1, by omega⟩ : CarrierId) ≠ 0 := fun e => absurd (congrArg Fin.val e) (Nat.succ_ne_zero _)
  have free : freeCarrier k = some ⟨l.length + 1, by omega⟩ := by
    refine freeCarrier_some ne ?_ fun i alloc e => ?_
    · rw [p.carriers, filledWith_free _ _ ne]
      exact Nat.lt_succ_self _
    · rw [p.carriers, filledWith_free _ _ alloc] at e
      exact e
  rw [requestCarrier_of (offer_free free)]
  refine ⟨?_, p.waiting, fun j => ?_⟩
  · have frame := p.eq
    unfold giveCarrier Hall.setCarrier
    rw [frame]
  · rw [giveCarrier_carriers, vset_get, p.carriers, p.now]
    unfold filledWith
    by_cases e : (⟨l.length + 1, by omega⟩ : CarrierId) = j
    · rw [if_pos e, if_neg (e ▸ ne), ← e]
      simp
    · rw [if_neg e]
      by_cases zero : j = 0
      · rw [if_pos zero, if_pos zero]
      · have pos : j.val ≠ 0 := fun e => zero (Fin.ext e)
        have apart : j.val ≠ l.length + 1 := fun same => e (Fin.ext same.symm)
        rw [if_neg zero, if_neg zero, List.getElem?_append]
        split
        · rfl
        · rw [List.getElem?_eq_none (by omega), List.getElem?_eq_none (by simp; omega)]

theorem Filled.requests (p : Filled l h k) (cs : List ChannelId) (room : l.length + cs.length ≤ 15) :
    Filled (l ++ cs) h (cs.foldl (fun h c => requestCarrier c h) k) := by
  induction cs generalizing l k with
  | nil => rwa [List.append_nil]
  | cons c cs ih =>
    have room : l.length + (cs.length + 1) ≤ 15 := room
    have next := ih (p.request (by omega) c) (by simp; omega)
    rwa [List.append_assoc] at next

theorem serveList_nobody (n : Nat) {h : Hall} (nobody : h.air.waiting = []) : serveList n h = h := by
  cases n with
  | zero => rfl
  | succ n =>
    unfold serveList
    rw [nobody]

/-- While no channel but 0 is LIVE, the pinned channels alone ask for carriers. -/
theorem buildCarriers_pinned (h : Hall) (quiet : ∀ c : ChannelId, c ≠ 0 → h.channels[c].service ≠ .live) :
    buildCarriers h = (pinnedOf h).foldl (fun h c => requestCarrier c h) (emptyAir h) := by
  rw [buildCarriers_eq]
  dsimp only
  have unpinned : ((ids 32).filter fun c : ChannelId => c != 0 && h.settings.channels[c].enabled &&
      h.settings.channels[c].pinned == false && (false || h.channels[c].service == .live)) = [] := by
    refine List.filter_eq_nil_iff.2 fun c _ wants => ?_
    simp only [Bool.and_eq_true, Bool.false_or, bne_iff_ne, beq_iff_eq] at wants
    exact quiet c wants.1.1.1 wants.2
  rw [unpinned]
  refine congrArg (List.foldl _ _) (List.filter_congr fun c _ => ?_)
  simp

theorem filled_buildCarriers (h : Hall) (quiet : ∀ c : ChannelId, c ≠ 0 → h.channels[c].service ≠ .live)
    (room : (pinnedOf h).length ≤ 15) : Filled (pinnedOf h) h (serveList 32 (buildCarriers h)) := by
  have filled := (filled_emptyAir h).requests (pinnedOf h) (by simpa using room)
  rw [buildCarriers_pinned h quiet, serveList_nobody 32 filled.waiting]
  exact filled

/-! ### No carrier HOLDING, and carrier 0 since now -/

/-- Carrier 0 is on the air for channel 0 since `now`, and none is HOLDING. -/
def Floored (now : Nat) (h : Hall) : Prop :=
  h.air.carriers[(0 : CarrierId)] = .onAir 0 now ∧ ∀ k : CarrierId, (h.air.carriers[k]).expiry? = none

theorem floored_emptyAir (h : Hall) : Floored h.now (emptyAir h) := by
  refine ⟨by rw [emptyAir_get, if_pos rfl], fun k => ?_⟩
  rw [emptyAir_get]
  split <;> rfl

theorem Floored.of_carriers (p : Floored now h) (same : k.air.carriers = h.air.carriers) : Floored now k := by
  unfold Floored
  rwa [same]

theorem Floored.give (p : Floored now h) {j : CarrierId} (ne : j ≠ 0) (c : ChannelId) : Floored now (giveCarrier j c h) := by
  refine ⟨?_, fun k => ?_⟩
  · rw [giveCarrier_carriers, vset_get, if_neg ne]
    exact p.1
  · rw [giveCarrier_carriers, vset_get]
    split
    · rfl
    · exact p.2 k

theorem Floored.offer (p : Floored now h) {c : ChannelId} (e : offer c h = some k) : Floored now k := by
  have evicted (j d) : Floored now (postEvict j d h) := p.of_carriers (by rw [postEvict_air])
  rcases offer_cases e with ⟨j, ne, e⟩ | ⟨j, d, m, e⟩ | ⟨j, d, m, e⟩ <;> rw [e]
  · exact p.give ne c
  · exact (evicted j d).give (holder_mem m).1 c
  · exact ((evicted j d).give (holder_mem m).1 c).of_carriers (by rw [joinWait_air]; rfl)

theorem Floored.request (p : Floored now h) (c : ChannelId) : Floored now (requestCarrier c h) := by
  unfold requestCarrier
  split
  · next e => exact p.offer e
  · exact p.of_carriers (by rw [joinWait_air]; rfl)

theorem Floored.serve (p : Floored now h) (n : Nat) : Floored now (serveList n h) := by
  induction n generalizing h with
  | zero => exact p
  | succ n ih =>
    unfold serveList
    split
    · exact p
    · next c rest _ =>
      split
      · next e => exact ih (Floored.offer (h := h.setWaiting rest) p e)
      · exact p

theorem floored_buildCarriers (h : Hall) : Floored h.now (serveList 32 (buildCarriers h)) := by
  have requests {k : Hall} (p : Floored h.now k) (l : List ChannelId) :
      Floored h.now (l.foldl (fun h c => requestCarrier c h) k) :=
    List.foldlRecOn (motive := Floored h.now) l _ p fun _ p c _ => p.request c
  rw [buildCarriers_eq]
  exact (requests (requests (floored_emptyAir h) _) _).serve 32

/-! ### The spells behind the build -/

/-- A channel reviewed with its carrier's change is reviewed again to no effect. -/
theorem spelled_twice {h k : Hall} {c : ChannelId} (p : Judged h k) (now : k.now = h.now)
    (run : k.channels[c] = spelledRun h c) (day : k.account.channels[c] = spelledDay h c) :
    spelledRun k c = spelledRun h c ∧ spelledDay k c = spelledDay h c := by
  unfold spelledRun spelledDay Hall.outage Hall.onAirMinutes Hall.fillMinutes
  rw [p.serves, p.lacks, p.fills, now, run, day]
  unfold spelledRun spelledDay
  cases h.lacks c <;> cases h.serves c <;> cases h.fills c <;> exact ⟨rfl, rfl⟩

/-- Behind an event of the allocator every channel's spells are those of the carriers as the event leaves them. -/
theorem spelled_allocated {act : Hall → Hall} {h k : Hall} (p : Judged (allocEvent act h) k)
    (now : k.now = (allocEvent act h).now) (channels : k.channels = (allocEvent act h).channels)
    (days : k.account.channels = (allocEvent act h).account.channels) (c : ChannelId) :
    spelledRun k c = spelledRun (serveList 32 (act h)) c ∧ spelledDay k c = spelledDay (serveList 32 (act h)) c := by
  have reported := allotted_allocReport (serveList 32 (act h)) h
  have spells := allocReport_spells (serveList 32 (act h)) h c
  have carriers := (allocReport_air h (serveList 32 (act h))).1
  unfold allocEvent at p now channels days
  generalize serveList 32 (act h) = b at *
  generalize allocReport h b = r at *
  have judged : Judged b k := Judged.trans
    ⟨reported.settings, reported.slots, by rw [reported.account], by rw [reported.account], reported.service, carriers⟩ p
  rw [← channels, ← days] at spells
  by_cases changed : h.carrierView c ≠ b.carrierView c
  · rw [if_pos changed, if_pos changed] at spells
    exact spelled_twice judged (now.trans reported.now) spells.1 spells.2
  · rw [if_neg changed, if_neg changed] at spells
    exact spelled_congr judged (now.trans reported.now) spells.1 spells.2

end Sys2Proof.StepProofs
end

-- ==== Proofs: Takedown ====
section
/-! PROOFS. The takedown of the interlock in a RESTART (R41, R63, R76, R176). -/

namespace Sys2Proof.StepProofs

open Machine

/-! ### Consoles -/

/-- A console that a RESTART leaves as it stands (R41). -/
def Passive (r : ConsoleRun) : Prop := r.state = .absent ∨ r.state = .quarantined

/-- A console's record taken down: a passive one stands, another stays none, and no live spell begins. -/
structure RunLowered (r x : ConsoleRun) : Prop where
  passive : Passive r → x = r
  active : ¬ Passive r → ¬ Passive x
  live : x.liveSince = r.liveSince ∨ x.liveSince = none

theorem RunLowered.refl (r : ConsoleRun) : RunLowered r r := ⟨fun _ => rfl, id, .inl rfl⟩

theorem RunLowered.trans {r x y : ConsoleRun} (p : RunLowered r x) (q : RunLowered x y) : RunLowered r y where
  passive h := by
    have same := p.passive h
    exact (q.passive (same ▸ h)).trans same
  active h := q.active (p.active h)
  live := q.live.imp_left id |>.elim (fun e => e ▸ p.live) .inr

/-- Every open live spell is open from now, and its totals lie in their range: what ends it adds nothing. -/
def LiveBrought (h : Hall) : Prop :=
  ∀ (a : ConsoleId) (m : Nat), h.consoles[a].liveSince = some m → m = h.now ∧ h.account.consoleLive[a] ≤ 4294967295 ∧
    ∀ b, h.settings.consoleBooth[a] = some b → h.account.booths[b].live ≤ 4294967295

/-- `k` is `h` but for the consoles taken down and what is asked for. -/
structure ConsolesLowered (h k : Hall) : Prop where
  eq : k = { h with consoles := k.consoles, work := { h.work with asks := k.work.asks } }
  run : ∀ a : ConsoleId, RunLowered h.consoles[a] k.consoles[a]

section
variable {h k l : Hall}

theorem ConsolesLowered.refl (h : Hall) : ConsolesLowered h h := ⟨rfl, fun _ => .refl _⟩

theorem ConsolesLowered.trans (p : ConsolesLowered h k) (q : ConsolesLowered k l) : ConsolesLowered h l :=
  ⟨by rw [q.eq, p.eq], fun a => (p.run a).trans (q.run a)⟩

theorem ConsolesLowered.account (p : ConsolesLowered h k) : k.account = h.account := by rw [p.eq]
theorem ConsolesLowered.settings (p : ConsolesLowered h k) : k.settings = h.settings := by rw [p.eq]
theorem ConsolesLowered.now (p : ConsolesLowered h k) : k.now = h.now := by rw [p.eq]; rfl

theorem ConsolesLowered.brought (p : ConsolesLowered h k) (q : LiveBrought h) : LiveBrought k := by
  intro a m live
  rw [p.account, p.settings, p.now]
  rcases (p.run a).live with same | none
  · exact q a m (same ▸ live)
  · rw [none] at live
    cases live

theorem satCount_in {n : Nat} (bounded : n ≤ 4294967295) (m : Nat) : satCount (n + (m - m)) = n := by
  rw [Nat.sub_self, Nat.add_zero]
  exact Nat.min_eq_left bounded

/-- A live spell open from now ends and adds nothing. -/
theorem endLiveSpell_brought (q : LiveBrought h) (a : ConsoleId) : ∃ asks, endLiveSpell a h = { h with
    consoles := vmod h.consoles a fun r => { r with liveSince := none }
    work := { h.work with asks := asks } } := by
  cases live : h.consoles[a].liveSince with
  | none =>
    refine ⟨h.work.asks, ?_⟩
    rw [vmod_same_eq (by rw [← live])]
    unfold endLiveSpell
    rw [live]
  | some m =>
    obtain ⟨rfl, total, booth⟩ := q a m live
    have own : vmod h.account.consoleLive a (fun n => satCount (n + (h.now - h.now))) = h.account.consoleLive :=
      vmod_same_eq (satCount_in total _)
    refine ⟨h.work.asks ++ [onlyAccount], ?_⟩
    unfold endLiveSpell
    rw [live]
    dsimp only
    unfold Hall.addConsoleLive Hall.modBoothDay Hall.ask Hall.modConsole
    cases place : h.boothOf a with
    | none =>
      dsimp only
      rw [own]
    | some b =>
      have day : vmod h.account.booths b (fun d => { d with live := satCount (d.live + (h.now - h.now)) }) = h.account.booths :=
        vmod_same_eq (by rw [satCount_in (booth b place)])
      dsimp only
      rw [own, day]

end

theorem lowered_modConsole (h : Hall) (a : ConsoleId) {f : ConsoleRun → ConsoleRun} (low : RunLowered h.consoles[a] (f h.consoles[a])) :
    ConsolesLowered h (h.modConsole a f) where
  eq := rfl
  run x := by
    show RunLowered _ (vmod h.consoles a f)[x]
    rw [vmod_get]
    split
    · next e => exact e ▸ low
    · exact .refl _

/-- One console taken down. -/
def lowerConsole (h : Hall) (a : ConsoleId) : Hall :=
  match h.consoles[a].state with
  | .requesting => h.modConsole a fun r => { r with state := .idle, handoverExpiry := none, engagedFlash := none }
  | .live | .muted => stepDown a .idle h
  | _ => h

theorem not_passive {r : ConsoleRun} (absent : r.state ≠ .absent) (quarantined : r.state ≠ .quarantined) : ¬ Passive r :=
  fun p => p.elim absent quarantined

theorem lowered_stepDown {h : Hall} {a : ConsoleId} (q : LiveBrought h) (active : ¬ Passive h.consoles[a]) :
    ConsolesLowered h (stepDown a .idle h) := by
  obtain ⟨asks, ended⟩ := endLiveSpell_brought q a
  have first : ConsolesLowered h (endLiveSpell a h) := by
    rw [ended]
    refine ⟨rfl, fun x => ?_⟩
    show RunLowered _ (vmod h.consoles a _)[x]
    rw [vmod_get]
    split
    · next e => exact ⟨fun p => absurd (e ▸ p) active, fun n => e ▸ n, .inr rfl⟩
    · exact .refl _
  unfold stepDown
  exact first.trans (lowered_modConsole _ a ⟨fun p => absurd p ((first.run a).active active),
    fun _ => not_passive nofun nofun, .inl rfl⟩)

theorem lowered_lowerConsole {h : Hall} (q : LiveBrought h) (a : ConsoleId) : ConsolesLowered h (lowerConsole h a) := by
  unfold lowerConsole
  split
  · next state =>
    exact lowered_modConsole h a ⟨fun p => absurd p (not_passive (by rw [state]; nofun) (by rw [state]; nofun)),
      fun _ => not_passive nofun nofun, .inl rfl⟩
  · next state => exact lowered_stepDown q (not_passive (by rw [state]; nofun) (by rw [state]; nofun))
  · next state => exact lowered_stepDown q (not_passive (by rw [state]; nofun) (by rw [state]; nofun))
  · exact .refl h

theorem lowered_consoles {h : Hall} (q : LiveBrought h) (l : List ConsoleId) : ConsolesLowered h (l.foldl lowerConsole h) := by
  induction l generalizing h with
  | nil => exact .refl h
  | cons a l ih =>
    have first := lowered_lowerConsole q a
    exact first.trans (ih (first.brought q))

/-! ### Booths and channels -/

/-- Every entry of a table modified in turn. -/
theorem foldl_vmod {n : Nat} {α : Type} (f : α → α) (v : Vector α n) :
    (ids n).foldl (fun v i => vmod v i f) v = vtab fun i => f v[i] := by
  have cells (l : List (Fin n)) (once : l.Nodup) (v : Vector α n) (j : Fin n) :
      (l.foldl (fun v i => vmod v i f) v)[j] = if j ∈ l then f v[j] else v[j] := by
    induction l generalizing v with
    | nil => rfl
    | cons i l ih =>
      obtain ⟨new, once⟩ := List.nodup_cons.1 once
      rw [List.foldl_cons, ih once, vmod_get]
      by_cases e : i = j
      · have out : j ∉ l := e ▸ new
        rw [if_neg out, if_pos e, if_pos (List.mem_cons.2 (.inl e.symm))]
      · have mem : j ∈ i :: l ↔ j ∈ l := ⟨fun m => (List.mem_cons.1 m).resolve_left (Ne.symm e), .tail _⟩
        rw [if_neg e, if_congr mem rfl rfl]
  refine table_ext fun j => ?_
  rw [cells _ ChargeProofs.nodup_ids, if_pos (mem_ids j), vtab_get]

/-- A booth without owner and queue. -/
def ownerless (r : BoothRun) : BoothRun := { r with owner := none, queue := [] }

/-- A channel without a feeder. -/
def unfed (r : ChannelRun) : ChannelRun := { r with feeder := none }

theorem foldl_unfed (h : Hall) (l : List ChannelId) :
    l.foldl (fun h c => (h.modChannel c unfed).modWaitList c fun _ => []) h = { h with
      channels := l.foldl (fun v c => vmod v c unfed) h.channels
      waitLists := l.foldl (fun v c => vmod v c fun _ => []) h.waitLists } := by
  induction l generalizing h with
  | nil => rfl
  | cons b l ih => rw [List.foldl_cons, ih]; rfl

/-! ### The takedown -/

/-- `k` is `h` with the interlock taken down. -/
structure TakenDown (h k : Hall) : Prop where
  eq : k = { h with
    consoles := k.consoles
    booths := k.booths
    channels := k.channels
    waitLists := k.waitLists
    work := { h.work with asks := k.work.asks } }
  console : ∀ a : ConsoleId, RunLowered h.consoles[a] k.consoles[a]
  booth : ∀ b : BoothId, k.booths[b] = ownerless h.booths[b]
  channel : ∀ c : ChannelId, k.channels[c] = unfed h.channels[c]
  waitList : ∀ c : ChannelId, k.waitLists[c] = []

theorem takenDown_takeDownInterlock {h : Hall} (q : LiveBrought h) : TakenDown h (takeDownInterlock h) := by
  have low := lowered_consoles q (ids 48)
  have parts : takeDownInterlock h = (ids 32).foldl (fun h c => (h.modChannel c unfed).modWaitList c fun _ => [])
      ((ids 16).foldl (fun h b => h.modBooth b ownerless) ((ids 48).foldl lowerConsole h)) := rfl
  rw [parts, foldl_unfed, foldl_modBooth, foldl_vmod, foldl_vmod]
  generalize (ids 48).foldl lowerConsole h = k at low
  have booths : k.booths = h.booths := by rw [low.eq]
  have channels : k.channels = h.channels := by rw [low.eq]
  refine ⟨by rw [low.eq], low.run, fun b => ?_, fun c => ?_, fun c => ?_⟩
  · show (vtab fun i => ownerless k.booths[i])[b] = _
    rw [vtab_get, booths]
  · show (vtab fun i => unfed k.channels[i])[c] = _
    rw [vtab_get, channels]
  · show (vtab fun _ => [])[c] = _
    rw [vtab_get]

theorem TakenDown.account (p : TakenDown h k) : k.account = h.account := by rw [p.eq]
theorem TakenDown.clock (p : TakenDown h k) : k.clock = h.clock := by rw [p.eq]
theorem TakenDown.now (p : TakenDown h k) : k.now = h.now := congrArg Clock.minute p.clock

/-- Behind the bringing up, every live spell that is open is open from now, its totals cut to their range. -/
theorem BroughtUp.brought {h k : Hall} (p : BroughtUp h k) : LiveBrought k := by
  intro a m live
  have settings : k.settings = h.settings := by rw [p.eq]
  have now : k.now = h.clock.minute := by rw [p.eq]; rfl
  rw [p.console] at live
  obtain ⟨x, open_, rfl⟩ := Option.map_eq_some_iff.1 live
  refine ⟨now.symm, ?_, fun b place => ?_⟩
  · rw [p.live]
    unfold Hall.consoleLiveMinutes
    rw [open_]
    exact Nat.min_le_right ..
  · rw [p.boothDay]
    rw [settings] at place
    exact foldl_asOf_cut (List.mem_filter.2 ⟨mem_ids a, by rw [place]; exact beq_self_eq_true _⟩) (by rw [open_]; nofun) _

/-! ### Booths without a source leave fallback -/

/-- No booth has a source, and every open fallback spell is open from now, its total in its range. -/
def Unheld (h : Hall) : Prop :=
  ∀ b : BoothId, h.booths[b].owner = none ∧ h.booths[b].unowned = none ∧
    ∀ m, h.booths[b].fallbackSince = some m → m = h.now ∧ h.account.booths[b].fallback ≤ 4294967295

/-- A booth out of fallback. -/
def relieved (r : BoothRun) : BoothRun := if r.fallback = none then r else { r with fallback := none, fallbackSince := none }

theorem relieved_fallback (r : BoothRun) : (relieved r).fallback = none := by
  unfold relieved
  split
  · next e => exact e
  · rfl

/-- `k` is `h` with the booths of the list out of fallback. -/
structure Relieved (l : List BoothId) (h k : Hall) : Prop where
  eq : k = { h with booths := k.booths, work := { h.work with posts := k.work.posts, asks := k.work.asks } }
  booth : ∀ b : BoothId, k.booths[b] = if b ∈ l then relieved h.booths[b] else h.booths[b]

theorem Relieved.unheld (p : Relieved l h k) (q : Unheld h) : Unheld k := by
  intro b
  have now : k.now = h.now := by rw [p.eq]; rfl
  have account : k.account = h.account := by rw [p.eq]
  obtain ⟨owner, unowned, brought⟩ := q b
  rw [now, account, p.booth]
  split
  · unfold relieved
    split
    · exact ⟨owner, unowned, brought⟩
    · exact ⟨owner, unowned, nofun⟩
  · exact ⟨owner, unowned, brought⟩

theorem relieved_resolveBooth {h : Hall} (q : Unheld h) (b : BoothId) : Relieved [b] h (resolveBooth h b) := by
  obtain ⟨owner, unowned, brought⟩ := q b
  have due : h.fallbackDue b = none := by
    unfold Hall.fallbackDue Hall.incoming
    rw [owner, unowned]
  have one (f : BoothRun → BoothRun) (same : f h.booths[b] = relieved h.booths[b]) (x : BoothId) :
      (vmod h.booths b f)[x] = if x ∈ [b] then relieved h.booths[x] else h.booths[x] := by
    rw [vmod_get, if_congr (List.mem_singleton.trans eq_comm) rfl rfl]
    by_cases e : b = x
    · rw [if_pos e, if_pos e, ← e, same]
    · rw [if_neg e, if_neg e]
  unfold resolveBooth
  rw [due]
  cases fallen : h.booths[b].fallback with
  | none =>
    refine ⟨rfl, fun x => ?_⟩
    rw [← one id (by unfold relieved; rw [if_pos fallen]; rfl) x]
    exact congrArg (fun v : Vector BoothRun 16 => v[x]) (vmod_same_eq rfl).symm
  | some c =>
    have ended : relieved h.booths[b] = { h.booths[b] with fallback := none, fallbackSince := none } := by
      unfold relieved
      rw [if_neg (by rw [fallen]; nofun)]
    dsimp only
    unfold endFallbackSpell
    have first : ((h.modBooth b fun r => { r with fallback := none }).post .booth .relayRestored (numOf b) c.val).booths[b] =
        { h.booths[b] with fallback := none } := vmod_same ..
    rw [first]
    dsimp only
    cases since : h.booths[b].fallbackSince with
    | none =>
      refine ⟨rfl, one _ ?_⟩
      rw [ended, ← since]
    | some m =>
      obtain ⟨rfl, total⟩ := brought m since
      dsimp only
      have day : vmod h.account.booths b (fun d => { d with fallback := satCount (d.fallback + (h.now - h.now)) }) = h.account.booths :=
        vmod_same_eq (by rw [satCount_in total])
      have twice : vmod (vmod h.booths b fun r => { r with fallback := none }) b (fun r => { r with fallbackSince := none }) =
          vmod h.booths b fun r => { r with fallback := none, fallbackSince := none } := by
        refine table_ext fun x => ?_
        rw [vmod_get, vmod_get, vmod_get]
        split <;> rfl
      refine ⟨?_, fun x => ?_⟩
      · unfold Hall.modBooth Hall.post Hall.modBoothDay Hall.ask Hall.now
        unfold Hall.now at day
        dsimp only
        rw [day]
      · rw [← one (fun r => { r with fallback := none, fallbackSince := none }) ended.symm x, ← twice]
        rfl

theorem relieved_resolveAll {h : Hall} (q : Unheld h) : Relieved (ids 16) h (resolveAll h) := by
  have folds (l : List BoothId) (once : l.Nodup) (h : Hall) (q : Unheld h) : Relieved l h (l.foldl resolveBooth h) := by
    induction l generalizing h with
    | nil => exact ⟨rfl, fun _ => rfl⟩
    | cons b l ih =>
      obtain ⟨new, once⟩ := List.nodup_cons.1 once
      have first := relieved_resolveBooth q b
      have rest := ih once _ (first.unheld q)
      refine ⟨by rw [List.foldl_cons, rest.eq, first.eq], fun x => ?_⟩
      rw [List.foldl_cons, rest.booth, first.booth]
      by_cases e : x = b
      · have out : x ∉ l := e ▸ new
        rw [if_neg out, if_pos (List.mem_singleton.2 e), if_pos (List.mem_cons.2 (.inl e))]
      · have mem : x ∈ b :: l ↔ x ∈ l := ⟨fun m => (List.mem_cons.1 m).resolve_left e, .tail _⟩
        rw [if_neg fun m => e (List.mem_singleton.1 m), if_congr mem rfl rfl]
  exact folds _ ChargeProofs.nodup_ids h q

/-! ### Meters cleared -/

/-- A meter's running state cleared (R155). -/
def meterCleared (h : Hall) (m : MeterId) (r : MeterRun) : MeterRun :=
  { r with count := 0, tally := freshTally h m, prev := false, latch := false, full := false, next := freshClose h m }

theorem clearRunning_get (h : Hall) (a x : MeterId) : (clearRunning h a).meters[x] =
    if x ∈ [a] then meterCleared h x h.meters[x] else h.meters[x] := by
  unfold clearRunning clearResults Hall.modMeter
  rw [vmod_get, vmod_get, if_congr (List.mem_singleton.trans eq_comm) rfl rfl]
  by_cases e : a = x
  · rw [if_pos e, if_pos e, if_pos e, ← e]
    rfl
  · rw [if_neg e, if_neg e, if_neg e]

theorem clearAllRunning_meter (h : Hall) (m : MeterId) : (clearAllRunning h).meters[m] = meterCleared h m h.meters[m] := by
  have cells := foldl_cells (f := clearRunning) (cell := fun h m => h.meters[m]) (new := fun h m => meterCleared h m h.meters[m])
    clearRunning_get (fun h a x ne => by
      rw [clearRunning_get, if_neg fun m => ne (List.mem_singleton.1 m)]
      rfl) (ChargeProofs.nodup_ids (n := 8)) h m
  rw [if_pos (mem_ids m)] at cells
  exact cells

/-- Clearing the meters posts nothing and moves no level. -/
theorem clearAllRunning_rest (h : Hall) : clearAllRunning h = { h with meters := (clearAllRunning h).meters } :=
  foldl_keeps (R := fun h k : Hall => k = { h with meters := k.meters }) (fun _ => rfl) (fun p q => by rw [q, p])
    (fun _ _ => rfl) _ h

end Sys2Proof.StepProofs
end

-- ==== Proofs: Restart ====
section
/-! PROOFS. RESTART, without and with HOLD (R18, R41, R63, R76, R94, R155, R169, R176). -/

namespace Sys2Proof.StepProofs

open Machine

/-! ### The carriers and the spells built anew -/

/-- `k` is `h` with its services derived, its carriers built from empty, and every channel's spells begun anew. -/
structure Rebuilt (h k : Hall) : Prop where
  eq : k = { h with
    account := { h.account with channels := k.account.channels }
    channels := k.channels
    air := k.air
    link := { h.link with content := k.link.content, generation := k.link.generation }
    meters := k.meters
    levels := k.levels
    free := k.free
    work := { h.work with posts := k.work.posts, asks := k.work.asks } }
  run : ∀ c : ChannelId, k.channels[c] = { h.channels[c] with
    service := h.serviceOf c
    outageSince := k.channels[c].outageSince
    servedSince := k.channels[c].servedSince
    fillSince := k.channels[c].fillSince }
  floored : Floored h.now k
  filled : (∀ c : ChannelId, c ≠ 0 → h.channels[c].feeder = none) → (pinnedOf h).length ≤ 15 →
    k.air.waiting = [] ∧ ∀ j : CarrierId, k.air.carriers[j] = filledWith (pinnedOf h) h.now j
  figures : (∀ c : ChannelId, h.account.channels[c] = ⟨h.outage c, h.onAirMinutes c, h.fillMinutes c⟩) →
    k.account.channels = h.account.channels

theorem deriveServices_channel (h : Hall) (c : ChannelId) :
    (deriveServices h).channels[c] = { h.channels[c] with service := h.serviceOf c } := vtab_get _ c

theorem deriveServices_account (h : Hall) : (deriveServices h).account = h.account := by simp only [deriveServices]

theorem deriveServices_now (h : Hall) : (deriveServices h).now = h.now := by simp only [deriveServices, Hall.now]

theorem deriveServices_pinned (h : Hall) : pinnedOf (deriveServices h) = pinnedOf h := by
  simp only [deriveServices, pinnedOf]

/-- Of channels without a feeder channel 0 alone is LIVE (R10). -/
theorem serviceOf_unfed {h : Hall} {c : ChannelId} (ne : c ≠ 0) (unfed : h.channels[c].feeder = none) :
    h.serviceOf c ≠ .live := by
  unfold Hall.serviceOf
  rw [if_neg ne, unfed]
  split
  · nofun
  · rw [if_neg (by decide)]
    split <;> nofun

section
variable {h s a k : Hall}

theorem rebuilt_figures (served : Aired (deriveServices h) s) (days : ∀ c, k.account.channels[c] = spelledDay s c)
    (brought : ∀ c : ChannelId, h.account.channels[c] = ⟨h.outage c, h.onAirMinutes c, h.fillMinutes c⟩) :
    k.account.channels = h.account.channels := by
  refine table_ext fun c => ?_
  have figures : SpellsStand c (deriveServices h) s := spellsStand_aired served
  have first : SpellsStand c h (deriveServices h) := ⟨by rw [deriveServices_channel], by rw [deriveServices_channel],
    by rw [deriveServices_channel], by rw [deriveServices_account], deriveServices_now h⟩
  have day := figures.day.trans first.day
  rw [days]
  unfold spelledDay
  rw [figures.outageMinutes, figures.onAirMinutes, figures.fillMinutes, first.outageMinutes, first.onAirMinutes,
    first.fillMinutes, day, brought c]
  simp only [ite_self]

theorem rebuilt_eq (event : Allotted (deriveServices h) a) (spelled : Spelled a k) : k = { h with
    account := { h.account with channels := k.account.channels }
    channels := k.channels
    air := k.air
    link := { h.link with content := k.link.content, generation := k.link.generation }
    meters := k.meters
    levels := k.levels
    free := k.free
    work := { h.work with posts := k.work.posts, asks := k.work.asks } } := by
  have first := event.eq
  have last := spelled.eq
  unfold deriveServices at first
  rw [last, first]

theorem spelledDay_built (h : Hall) (c : ChannelId) : spelledDay (allocEvent buildCarriers h) c =
    spelledDay (serveList 32 (buildCarriers h)) c :=
  (spelled_allocated (judged_spelled (.refl (allocEvent buildCarriers h))) rfl rfl rfl c).2

end

theorem rebuilt_spellsAll (h : Hall) : Rebuilt h (allocEvent buildCarriers (deriveServices h)).spellsAll := by
  have built := aired_buildCarriers (deriveServices h)
  have served := built.trans (aired_serveList 32 _)
  have event := allotted_allocEvent (deriveServices h) (allotted_aired _ built)
  have spelled := spelled_spellsAll (allocEvent buildCarriers (deriveServices h))
  have air := allocReport_air (deriveServices h) (serveList 32 (buildCarriers (deriveServices h)))
  have carriers := (congrArg Allocator.carriers spelled.air).trans air.1
  have waiting := (congrArg Allocator.waiting spelled.air).trans air.2
  have floored := floored_buildCarriers (deriveServices h)
  rw [deriveServices_now] at floored
  refine ⟨rebuilt_eq event spelled, fun c => ?_, floored.of_carriers carriers, fun feeders room => ?_,
    rebuilt_figures served fun c => (spellsAll_day _ c).trans (spelledDay_built _ c)⟩
  · rw [spelled.run c, event.run c, deriveServices_channel]
  · have filled := filled_buildCarriers (deriveServices h) (fun c ne => by
      rw [deriveServices_channel]
      exact serviceOf_unfed ne (feeders c ne)) (by rwa [deriveServices_pinned])
    exact ⟨waiting.trans filled.waiting, fun j => by rw [carriers, filled.carriers, deriveServices_pinned, deriveServices_now]⟩

/-! ### The takedown and rebuild of a RESTART -/

/-- A console as a RESTART leaves it (R41). -/
def restartedRun (now : Nat) (r : ConsoleRun) : ConsoleRun :=
  if r.state = .absent ∨ r.state = .quarantined then liveFrom now r else { ConsoleRun.blank with state := .idle }

/-- `k` is `h` taken down and rebuilt: every figure as of now stands in the account, and no interlock is left. -/
structure TookDown (h k : Hall) : Prop where
  settings : k.settings = h.settings
  fleet : k.fleet = h.fleet
  clock : k.clock = h.clock
  faults : k.work.faults = h.work.faults
  books : k.account.log = h.account.log ∧ k.account.queue = h.account.queue ∧ k.account.session = h.account.session
  channelDays : k.account.channels = vtab fun c => ⟨h.outage c, h.onAirMinutes c, h.fillMinutes c⟩
  boothDays : k.account.booths = vtab fun b => ⟨h.account.booths[b].handovers, h.boothLiveMinutes b, h.fallbackMinutes b⟩
  consoleDays : k.account.consoleLive = vtab fun a => h.consoleLiveMinutes a
  floored : Floored h.now k
  filled : (pinnedOf h).length ≤ 15 →
    k.air.waiting = [] ∧ ∀ j : CarrierId, k.air.carriers[j] = filledWith (pinnedOf h) h.now j
  booth : ∀ b : BoothId, k.booths[b].owner = none ∧ k.booths[b].queue = [] ∧ k.booths[b].unowned = none ∧ k.booths[b].fallback = none
  channel : ∀ c : ChannelId, k.channels[c].feeder = none ∧ k.channels[c].demand = h.channels[c].demand
  waitList : ∀ c : ChannelId, k.waitLists[c] = []
  console : ∀ a : ConsoleId, k.consoles[a] = restartedRun h.now h.consoles[a]
  meter : ∀ m : MeterId, k.meters[m].count = 0 ∧ k.meters[m].latch = false ∧ k.meters[m].next = freshClose h m

theorem restarted_run {r x : ConsoleRun} {now : Nat} (low : RunLowered (liveFrom now r) x) : x.restarted = restartedRun now r := by
  unfold ConsoleRun.restarted restartedRun
  by_cases p : r.state = .absent ∨ r.state = .quarantined
  · have same := low.passive p
    rw [if_pos p, same]
    rcases p with e | e
    · rw [show (liveFrom now r).state = .absent from e]
    · rw [show (liveFrom now r).state = .quarantined from e]
  · have active := low.active p
    rw [if_neg p]
    split
    · next e => exact absurd (.inl e) active
    · next e => exact absurd (.inr e) active
    · rfl

section
variable {h b t s r v k : Hall}

theorem TakenDown.figures (p : BroughtUp h b) (q : TakenDown b t) (c : ChannelId) :
    t.account.channels[c] = ⟨t.outage c, t.onAirMinutes c, t.fillMinutes c⟩ ∧
      t.account.channels[c] = ⟨h.outage c, h.onAirMinutes c, h.fillMinutes c⟩ := by
  have stand : SpellsStand c b t := ⟨by rw [q.channel]; rfl, by rw [q.channel]; rfl, by rw [q.channel]; rfl, by rw [q.account], q.now⟩
  rw [stand.outageMinutes, stand.onAirMinutes, stand.fillMinutes, p.figures.outage, p.figures.onAir, p.figures.fill, q.account,
    p.day]
  exact ⟨rfl, rfl⟩

theorem restartConsoles_booth (s : Hall) (b : BoothId) : (restartConsoles s).booths[b] = { s.booths[b] with unowned := none } :=
  vtab_get _ b

theorem restartConsoles_console (s : Hall) (a : ConsoleId) : (restartConsoles s).consoles[a] = s.consoles[a].restarted :=
  vtab_get _ a

theorem restartConsoles_rest (s : Hall) : restartConsoles s = { s with
    consoles := (restartConsoles s).consoles, booths := (restartConsoles s).booths } := by
  simp only [restartConsoles]

theorem rebuilt_booths (p : BroughtUp h b) (q : TakenDown b t) (w : Rebuilt t s) (x : BoothId) :
    (restartConsoles s).booths[x] = { ownerless (fallbackFrom h.clock.minute h.booths[x]) with unowned := none } := by
  have booths : s.booths = t.booths := by rw [w.eq]
  rw [restartConsoles_booth, booths, q.booth, p.booth]

theorem rebuilt_boothDays (p : BroughtUp h b) (q : TakenDown b t) (w : Rebuilt t s) (x : BoothId) :
    (restartConsoles s).account.booths[x] = ⟨h.account.booths[x].handovers, h.boothLiveMinutes x, h.fallbackMinutes x⟩ := by
  have account : (restartConsoles s).account.booths = t.account.booths := by rw [restartConsoles_rest, w.eq]
  rw [account, q.account, p.boothDay]

theorem rebuilt_unheld (p : BroughtUp h b) (q : TakenDown b t) (w : Rebuilt t s) : Unheld (restartConsoles s) := by
  intro x
  have now : (restartConsoles s).now = h.clock.minute := by
    rw [restartConsoles_rest, w.eq]
    show t.now = _
    rw [q.now, p.eq]
    rfl
  rw [rebuilt_booths p q w, rebuilt_boothDays p q w, now]
  refine ⟨rfl, rfl, fun m since => ?_⟩
  obtain ⟨y, open_, rfl⟩ := Option.map_eq_some_iff.1 (since : (h.booths[x].fallbackSince.map fun _ => h.clock.minute) = some m)
  refine ⟨rfl, ?_⟩
  show h.fallbackMinutes x ≤ _
  unfold Hall.fallbackMinutes
  rw [open_]
  exact Nat.min_le_right ..

theorem tookDown_of (p : BroughtUp h b) (q : TakenDown b t) (w : Rebuilt t s) (x : Relieved (ids 16) (restartConsoles s) r)
    (y : Metered r v) (z : k = { v with meters := k.meters }) (cleared : ∀ m, k.meters[m] = meterCleared v m v.meters[m]) :
    TookDown h k := by
  have tail : k = { restartConsoles s with
      booths := k.booths, meters := k.meters, levels := k.levels, free := k.free, work := k.work } := by
    unfold Metered at y
    rw [z, y, x.eq]
  have rest := restartConsoles_rest s
  have settings : v.settings = h.settings := by
    unfold Metered at y
    rw [y, x.eq, rest, w.eq, q.eq, p.eq]
  have now : v.now = h.now := by
    unfold Metered at y
    rw [y, x.eq, rest, w.eq, q.eq, p.eq]
    rfl
  have booths : k.booths = r.booths := by
    unfold Metered at y
    rw [z, y]
  have air : k.air = s.air := by rw [tail, rest]
  have channels : k.channels = s.channels := by rw [tail, rest]
  have pinned : pinnedOf t = pinnedOf h := by
    unfold pinnedOf
    rw [q.eq, p.eq]
  have tnow : t.now = h.now := by rw [q.now, p.eq]; rfl
  have filled := w.filled fun c _ => by rw [q.channel]; rfl
  rw [pinned, tnow] at filled
  have floored := w.floored
  rw [tnow] at floored
  refine ⟨?_, ?_, ?_, ?_, ?_, table_ext fun c => ?_, table_ext fun c => ?_, table_ext fun c => ?_,
    floored.of_carriers (by rw [air]), fun room => by rw [air]; exact filled room, fun x' => ?_, fun c => ?_, fun c => ?_,
    fun a => ?_, fun m => ?_⟩
  · rw [tail, rest, w.eq, q.eq, p.eq]
  · rw [tail, rest, w.eq, q.eq, p.eq]
  · rw [tail, rest, w.eq, q.eq, p.eq]
  · unfold Metered at y
    rw [z, y, x.eq, rest, w.eq, q.eq, p.eq]
  · rw [tail, rest, w.eq, q.eq, p.eq]
    exact ⟨rfl, rfl, rfl⟩
  · have days : k.account.channels = s.account.channels := by rw [tail, rest]
    rw [days, w.figures fun c => (q.figures p c).1, (q.figures p c).2, vtab_get]
  · have days : k.account.booths = (restartConsoles s).account.booths := by rw [tail]
    rw [days, rebuilt_boothDays p q w, vtab_get]
  · have days : k.account.consoleLive = b.account.consoleLive := by rw [tail, rest, w.eq, q.eq]
    rw [days, p.live, vtab_get]
  · have own := (x.unheld (rebuilt_unheld p q w)) x'
    have queue := x.booth x'
    rw [if_pos (mem_ids x'), rebuilt_booths p q w] at queue
    rw [booths]
    refine ⟨own.1, ?_, own.2.1, ?_⟩
    · rw [queue]
      unfold relieved
      split <;> rfl
    · rw [queue]
      exact relieved_fallback _
  · rw [channels, w.run, q.channel, p.channel]
    exact ⟨rfl, rfl⟩
  · have lists : k.waitLists = t.waitLists := by rw [tail, rest, w.eq]
    rw [lists, q.waitList]
  · have consoles : k.consoles = (restartConsoles s).consoles := by rw [tail]
    have before : s.consoles = t.consoles := by rw [w.eq]
    have low := q.console a
    rw [p.console] at low
    rw [consoles, restartConsoles_console, before]
    exact restarted_run low
  · rw [cleared]
    refine ⟨rfl, rfl, ?_⟩
    show freshClose v m = _
    unfold freshClose
    rw [settings, now]

end

theorem tookDown_takeDown (h : Hall) : TookDown h (takeDown h) := by
  have brought := broughtUp_bringUpSpells h
  have taken := takenDown_takeDownInterlock brought.brought
  have rebuilt := rebuilt_spellsAll (takeDownInterlock (bringUpSpells h))
  unfold takeDown
  exact tookDown_of brought taken rebuilt (relieved_resolveAll (rebuilt_unheld brought taken rebuilt))
    (metered_meterLevelChange _ _ _) (clearAllRunning_rest _) (clearAllRunning_meter _)

/-! ### No expiry stands due -/

theorem TookDown.handed (p : TookDown h k) (posts : List Notice) :
    TookDown h { k with work := { k.work with posts := posts } } :=
  ⟨p.settings, p.fleet, p.clock, p.faults, p.books, p.channelDays, p.boothDays, p.consoleDays, p.floored, p.filled, p.booth,
    p.channel, p.waitList, p.console, p.meter⟩

theorem dueTenth_none (h : Hall) (e : Expiry) : h.dueTenth e none = [] := rfl

theorem dueMinute_later {h : Hall} {m : Option Nat} (later : ∀ x, m = some x → h.now < x) (e : Expiry) : h.dueMinute e m = [] := by
  cases m with
  | none => rfl
  | some x => exact if_neg (Nat.not_le.2 (later x rfl))

theorem consoleExpiries_none {h : Hall} {a : ConsoleId} (state : h.consoles[a].state.onChannel = false)
    (handover : h.consoles[a].handoverExpiry = none) (probe : h.consoles[a].probeTimer = none)
    (flash : h.consoles[a].engagedFlash = none) (good : h.consoles[a].goodExpiry = none) : h.consoleExpiries a = [] := by
  unfold Hall.consoleExpiries
  dsimp only
  rw [handover, probe, flash, good, state, dueTenth_none, dueTenth_none, dueTenth_none, if_neg Bool.false_ne_true]
  split <;> rfl

/-- Without due expiries there are none to take. -/
theorem takeDueExpiries_none {h : Hall} (none : h.dueExpiries = []) : takeDueExpiries h = h := by
  unfold takeDueExpiries
  rw [none]
  rfl

/-- What a RESTART leaves has no expiry that stands due, where no hire is due, no window is empty and no console that it
leaves has a timer. -/
theorem TookDown.rests {h k : Hall} (p : TookDown h k)
    (hires : ∀ x ∈ h.fleet.hires, x.overdue = false → ∀ d, x.due = some d → h.now < d)
    (windows : ∀ m : MeterId, 1 ≤ h.settings.meters[m].window)
    (timers : ∀ a : ConsoleId, h.consoles[a].state = .absent ∨ h.consoles[a].state = .quarantined →
      h.consoles[a].handoverExpiry = none ∧ h.consoles[a].probeTimer = none ∧ h.consoles[a].engagedFlash = none ∧
        h.consoles[a].goodExpiry = none) : k.dueExpiries = [] := by
  have now : k.now = h.now := congrArg Clock.minute p.clock
  have consoles : (ids 48).flatMap k.consoleExpiries = [] := List.flatMap_eq_nil_iff.2 fun a _ => by
    have run := p.console a
    unfold restartedRun at run
    split at run
    · next passive =>
      obtain ⟨handover, probe, flash, good⟩ := timers a passive
      refine consoleExpiries_none ?_ (by rw [run]; exact handover) (by rw [run]; exact probe) (by rw [run]; exact flash)
        (by rw [run]; exact good)
      rw [run]
      show h.consoles[a].state.onChannel = false
      rcases passive with e | e <;> rw [e] <;> rfl
    · refine consoleExpiries_none ?_ ?_ ?_ ?_ ?_ <;> rw [run] <;> rfl
  have carriers : ((ids 16).flatMap fun j => k.dueTenth (.hold j) (k.air.carriers[j]).expiry?) = [] :=
    List.flatMap_eq_nil_iff.2 fun j _ => by rw [p.floored.2 j, dueTenth_none]
  have dues : k.dueHires = [] := by
    unfold Hall.dueHires
    rw [p.fleet, now, List.filter_eq_nil_iff.2 fun x m due => ?_]
    · rfl
    · simp only [Bool.and_eq_true, Bool.not_eq_true', Option.any_eq_true, decide_eq_true_eq] at due
      obtain ⟨fresh, d, due, reached⟩ := due
      exact absurd (hires x m fresh d due) (Nat.not_lt.2 reached)
  have meters : ((ids 8).flatMap fun m => k.dueMinute (.window m) k.meters[m].next) = [] :=
    List.flatMap_eq_nil_iff.2 fun m _ => dueMinute_later (fun x next => by
      rw [(p.meter m).2.2] at next
      unfold freshClose at next
      dsimp only at next
      split at next
      · rw [now, ← Option.some.inj next]
        have := windows m
        omega
      · cases next) _
  unfold Hall.dueExpiries
  rw [consoles, carriers, dues, meters]
  rfl

/-! ### The order -/

/-- The conditions behind a RESTART, none of them ENDED (R169). -/
theorem restarted_conditions (h : Hall) (failed : AreaSet) (c : Conditions) (name : ConditionName) (a : ConsoleId) :
    (syncConditions h failed (dropEndedConditions (syncConditions h failed c))).get name a ≠ .ended := by
  rw [syncConditions_get, dropEndedConditions_get, syncConditions_get]
  exact meet_dropEnded_meet _ _

/-- What an event with a RESTART's end leaves around the blocks. -/
structure Restarting (s t : State) : Prop where
  queue : t.notice.queue = []
  log : t.notice.log = s.notice.log
  desks : t.desks = vtab fun d => s.desks[d].cleared
  conds : ∀ name a, t.notice.conds.get name a ≠ .ended
  listening : t.listening = s.listening
  pending : t.pending = s.pending
  held : t.store.held = s.store.held

theorem restarted_eq {k : Hall} (s : State) (none : Hall.dueExpiries { k with work := { k.work with posts := [] } } = []) :
    restarted k s = { s with
      hall := { k with work := { k.work with posts := [] } }
      port := s.port.cleared
      desks := vtab fun d => s.desks[d].cleared
      notice := { s.notice with
        queue := []
        conds := dropEndedConditions (syncConditions { k with work := { k.work with posts := [] } } s.store.failed s.notice.conds) } } := by
  unfold restarted
  dsimp only
  rw [takeDueExpiries_none none]

/-- The end of a RESTART's event, with the answer given or waiting on the host's own write. -/
theorem restarting_finish {k : Hall} {s : State} (none : Hall.dueExpiries { k with work := { k.work with posts := [] } } = [])
    (quiet : k.work.faults = []) (own : Option (AreaSet × Waiter))
    (desks : (finish own (restarted k s)).desks = (restarted k s).desks) : Restarting s (finish own (restarted k s)) := by
  have notice := finish_notice own (restarted k s)
  have store := finish_store (s := restarted k s) own
  have frame := storeEnd_frame own (restarted k s).hall.work.asks (restarted k s).hall (restarted k s).store
  have around : (finish own (restarted k s)).listening = (restarted k s).listening ∧
      (finish own (restarted k s)).pending = (restarted k s).pending := by
    unfold finish
    rw [markOwn_frame]
    exact ⟨rfl, rfl⟩
  have shape := restarted_eq s none
  generalize finish own (restarted k s) = t at notice store around desks ⊢
  rw [shape] at notice store around desks frame
  have ends : t.notice = noticeEnd { k with work := { k.work with posts := [] } } s.store.failed
      { s.notice with
        queue := []
        conds := dropEndedConditions (syncConditions { k with work := { k.work with posts := [] } } s.store.failed s.notice.conds) } :=
    notice
  refine ⟨?_, ?_, desks, fun name a => ?_, around.1, around.2, ?_⟩
  · rw [ends]
    rfl
  · rw [ends]
    show k.work.faults.foldl logEntry s.notice.log = _
    rw [quiet]
    rfl
  · rw [ends]
    exact restarted_conditions _ _ _ name a
  · rw [store]
    exact frame.1

/-- Sending the host's answer moves none of that. -/
theorem Restarting.sent {s t : State} (p : Restarting s t) (tag : Tag) (r : Result) : Restarting s (sendHost tag r t) :=
  ⟨p.queue, p.log, p.desks, p.conds, p.listening, p.pending, p.held⟩

theorem Restarting.of_opened {s t : State} (p : Restarting s.opened t) : Restarting s t :=
  ⟨p.queue, p.log, p.desks, p.conds, p.listening, p.pending, p.held⟩

theorem finish_host_port (s : State) (areas : AreaSet) (tag : Tag) (r : Result) :
    (finish (some (areas, .host tag r)) s).desks = s.desks ∧ (finish (some (areas, .host tag r)) s).port.busy = true := ⟨rfl, rfl⟩

theorem restart_takes {s : State} (power : s.pfw = false) : restart s =
    if (takeDown s.hall).work.asks = [] then .now (.ok .plain []) (restarted (takeDown s.hall) s)
    else .wait onlyAccount (.ok .plain []) (restarted (takeDown s.hall) s) := by
  unfold restart
  rw [if_neg (by rw [power]; decide)]

/-- The hall behind a RESTART's event. -/
theorem restarted_rested {k : Hall} (s : State) (none : Hall.dueExpiries { k with work := { k.work with posts := [] } } = [])
    (own : Option (AreaSet × Waiter)) : (finish own (restarted k s)).hall = k.rested := by
  rw [finish_hall, restarted_eq s none]
  exact rested_handed k _

/-- The answer sent behind a RESTART, its port's overrun mark cleared. -/
theorem restarted_answered {k : Hall} {s : State} (none : Hall.dueExpiries { k with work := { k.work with posts := [] } } = [])
    (silent : s.out = []) (tag : Tag) (r : Result) :
    let t := sendHost tag r (finish .none (restarted k s))
    t.out = [⟨.host t.noticesWaiting t.conditionRaised, tag, r, false⟩] ∧ t.port.busy = false := by
  rw [restarted_eq s none]
  refine ⟨?_, rfl⟩
  show s.out ++ [_] = _
  rw [silent]
  rfl

theorem restartOrders_taken {s : State} {tag : Tag} (ready : s.ready)
    (none : Hall.dueExpiries { takeDown s.hall with work := { (takeDown s.hall).work with posts := [] } } = []) :
    ∃ t, exec (.restart tag) s = .next t ∧ Restarting s t ∧ t.hall = (takeDown s.hall).rested ∧
      ((t.out = [⟨.host t.noticesWaiting t.conditionRaised, tag, .ok .plain [], false⟩] ∧ t.port.busy = false) ∨
        t.out = [] ∧ t.port.busy = true ∧ t.store.awaits onlyAccount (.host tag (.ok .plain []))) := by
  obtain ⟨takes, power, rest⟩ := ready
  have quiet : (takeDown s.hall).work.faults = [] := by
    rw [(tookDown_takeDown s.hall).faults, (rest : s.hall.work = EventWork.empty)]
    rfl
  have taken : exec (.restart tag) s = .next (concludeHost tag (restart s.opened)) :=
    congrArg Host.Outcome.next (hostLine_taken tag restart takes)
  have verdict := restart_takes (s := s.opened) power
  rw [show s.opened.hall = s.hall from rfl] at verdict
  rw [verdict] at taken
  generalize takeDown s.hall = k at *
  split at taken
  · have ends := restarting_finish (s := s.opened) none quiet .none rfl
    have answers := restarted_answered (s := s.opened) none rfl tag (.ok .plain [])
    have hall := restarted_rested s.opened none .none
    generalize restarted k s.opened = u at *
    exact ⟨_, taken, (ends.sent _ _).of_opened, hall, .inl answers⟩
  · have ends := restarting_finish (s := s.opened) none quiet (some (onlyAccount, .host tag (.ok .plain [])))
      (finish_host_port _ _ _ _).1
    have hall := restarted_rested s.opened none (some (onlyAccount, .host tag (.ok .plain [])))
    have silent := restarted_out (s := s.opened) k
    generalize restarted k s.opened = u at *
    exact ⟨_, taken, ends.of_opened, hall, .inr ⟨(finish_out u _).trans silent, (finish_host_port _ _ _ _).2,
      placeWrites_awaits _ _ _ _ _⟩⟩

/-- Settles O60: the blocks are taken down and rebuilt, or stand with HOLD, and no expiry is left to take. -/
theorem restartOrders : Obligations.RestartOrders := by
  intro s tag ready
  refine ⟨fun hires windows timers => ?_, fun none => ?_, ?_⟩
  · have p := tookDown_takeDown s.hall
    have none := (p.handed []).rests hires windows timers
    obtain ⟨t, e, around, hall, answer⟩ := restartOrders_taken ready none
    refine ⟨t, e, ⟨around.queue, around.log, around.desks, around.conds, around.listening, around.pending, around.held⟩,
      answer, ?_⟩
    generalize takeDown s.hall = k at p hall
    have frame := rested_frame k
    have state := rested_state k
    rw [hall]
    generalize k.rested = l at frame state ⊢
    refine ⟨by rw [frame]; exact p.settings, by rw [frame]; exact p.fleet, by rw [frame]; exact p.clock,
      by rw [frame]; exact p.books.1, by rw [frame]; exact p.books.2.1, by rw [frame]; exact p.books.2.2,
      by rw [frame]; exact p.floored.1, fun room => ?_, by rw [frame]; exact p.consoleDays, by rw [frame]; exact p.boothDays,
      by rw [frame]; exact p.channelDays, fun b => ?_, fun b => ?_, fun c => ?_, fun a => ?_, fun m => ?_⟩
    · have filled := p.filled room
      have air : l.air = k.air := by rw [frame]
      rw [air]
      refine ⟨filled.1, fun j ne => ?_⟩
      rw [filled.2]
      exact filledWith_other _ _ ne
    · have booths : l.booths = k.booths := by rw [frame]
      rw [booths]
      exact (p.booth b).2.2.2
    · have booths : l.booths = k.booths := by rw [frame]
      obtain ⟨owner, queue, unowned, -⟩ := p.booth b
      rw [booths]
      exact ⟨owner, queue, unowned⟩
    · have channels : l.channels = k.channels := by rw [frame]
      have lists : l.waitLists = k.waitLists := by rw [frame]
      rw [channels, lists]
      exact ⟨(p.channel c).1, p.waitList c, (p.channel c).2⟩
    · rw [state, p.console]
      unfold restartedRun
      split
      · rfl
      · rfl
    · have meters : l.meters = k.meters := by rw [frame]
      obtain ⟨count, latch, -⟩ := p.meter m
      rw [meters]
      exact ⟨count, latch⟩
  · obtain ⟨takes, power, rest⟩ := ready
    have quiet : s.hall.work.faults = [] := by
      rw [(rest : s.hall.work = EventWork.empty)]
      rfl
    have handed : Hall.dueExpiries { s.hall with work := { s.hall.work with posts := [] } } = [] := none
    have taken : exec (.restartHold tag false) s = .next (concludeHost tag (restartHold false s.opened)) :=
      congrArg Host.Outcome.next (hostLine_taken tag (restartHold false) takes)
    have verdict : restartHold false s.opened = .now (.ok .plain []) (restarted s.hall s.opened) := by
      unfold restartHold
      rw [tested_passes rfl, tested_passes (show s.opened.pfw = false from power)]
      rfl
    rw [verdict] at taken
    have ends := (restarting_finish (s := s.opened) handed quiet .none rfl).sent tag (.ok .plain [])
    have answers := restarted_answered (s := s.opened) handed rfl tag (.ok .plain [])
    have hall := restarted_rested s.opened handed .none
    generalize restarted s.hall s.opened = u at *
    exact ⟨_, taken, ⟨ends.queue, ends.log, ends.desks, ends.conds, ends.listening, ends.pending, ends.held⟩, answers, hall⟩
  · refine refused_of ready.1 rfl ?_
    unfold restartHold
    rw [tested_fails rfl]

end Sys2Proof.StepProofs
end

-- ==== Proofs: FleetStart ====
section
/-! PROOFS. The hires and receivers behind a start-up: hires moved off lost channels, snapshots of a lost account, and
those that become OVERDUE at once (R18, R112, R174). -/

namespace Sys2Proof.StepProofs

open Machine

/-! ### Tables of one record to a key -/

/-- Of two tables in rising order, with the same keys meeting `p`, equally many records meet it. -/
theorem keyed_length {α κ : Type} [DecidableEq κ] {key : α → κ} {lt : κ → κ → Prop} (irrefl : ∀ k, ¬ lt k k) {p : α → Bool}
    {l m : List α} (rl : l.Pairwise fun x y => lt (key x) (key y)) (rm : m.Pairwise fun x y => lt (key x) (key y))
    (same : ∀ q, (l.find? fun x => key x == q).any p = (m.find? fun x => key x == q).any p) :
    (l.filter p).length = (m.filter p).length := by
  have nodup {l : List α} (r : l.Pairwise fun x y => lt (key x) (key y)) : ((l.filter p).map key).Nodup :=
    List.pairwise_map.2 ((r.filter p).imp (S := fun x y => key x ≠ key y) fun {x y} b e =>
      irrefl (key y) (by rw [e] at b; exact b))
  have found {l : List α} (r : l.Pairwise fun x y => lt (key x) (key y)) (q : κ) :
      q ∈ (l.filter p).map key ↔ (l.find? fun x => key x == q).any p = true := by
    rw [List.mem_map, Option.any_eq_true]
    constructor
    · rintro ⟨x, mem, rfl⟩
      obtain ⟨mem, px⟩ := List.mem_filter.1 mem
      cases f : l.find? fun y => key y == key x with
      | none => exact absurd (List.find?_eq_none.1 f x mem) (by simp)
      | some y =>
        have number : key y = key x := by simpa using List.find?_some f
        obtain rfl := unique_of_rising irrefl r (List.mem_of_find?_eq_some f) mem number
        exact ⟨y, rfl, px⟩
    · rintro ⟨x, f, px⟩
      exact ⟨x, List.mem_filter.2 ⟨List.mem_of_find?_eq_some f, px⟩, by simpa using List.find?_some f⟩
  have perm : ((l.filter p).map key).Perm ((m.filter p).map key) :=
    (List.perm_ext_iff_of_nodup (nodup rl) (nodup rm)).2 fun q => by rw [found rl, found rm, same]
  simpa using perm.length_eq

/-- Tables that hold records of the same hire numbers are equally long. -/
theorem hires_length {h k : Hall} (oh : h.fleet.ordered) (ok : k.fleet.ordered)
    (same : ∀ n, (k.hire n).isSome = (h.hire n).isSome) : k.fleet.hires.length = h.fleet.hires.length := by
  have any (l : List Hire) (n : Nat) : (l.find? fun x => x.number == n).any (fun _ => true) = (l.find? fun x => x.number == n).isSome := by
    cases l.find? fun x => x.number == n <;> rfl
  have length := keyed_length (key := Hire.number) (lt := (· < ·)) (p := fun _ => true) Nat.lt_irrefl ok.2.1 oh.2.1
    fun n => by rw [any, any]; exact same n
  rwa [List.filter_eq_self.2 fun _ _ => rfl, List.filter_eq_self.2 fun _ _ => rfl] at length

/-- As many receivers meet `p` where the same serials' do. -/
theorem receivers_length {h k : Hall} (p : Receiver → Bool) (oh : h.fleet.ordered) (ok : k.fleet.ordered)
    (same : ∀ q, (k.receiver q).any p = (h.receiver q).any p) :
    (k.fleet.receivers.filter p).length = (h.fleet.receivers.filter p).length :=
  keyed_length (key := Receiver.serial) (lt := (· < ·)) (fun b => BitVec.lt_irrefl b) ok.1 oh.1 same

/-! ### Due minutes -/

/-- A hire whose due minute is reached and that is not yet OVERDUE (R112). -/
def isLate (now : Nat) (x : Hire) : Bool := !x.overdue && x.due.any fun d => d ≤ now

/-- A hire OVERDUE where its due minute is reached. -/
def dueMarked (now : Nat) (x : Hire) : Hire := { x with overdue := x.overdue || x.due.any fun d => d ≤ now }

theorem dueMarked_late (late : isLate now x = true) : dueMarked now x = { x with overdue := true } := by
  unfold isLate at late
  unfold dueMarked
  rw [(Bool.and_eq_true_iff.1 late).2, Bool.or_true]

theorem dueMarked_early (early : isLate now x = false) : dueMarked now x = x := by
  unfold isLate at early
  unfold dueMarked
  cases marked : x.overdue <;> cases reached : x.due.any fun d => decide (d ≤ now)
  · rw [Bool.or_false, ← marked]
  · rw [marked, reached] at early
    cases early
  · rw [Bool.or_false, ← marked]
  · rw [Bool.or_true, ← marked]

theorem dueMarked_twice (now : Nat) (x : Hire) : dueMarked now (dueMarked now x) = dueMarked now x := by
  unfold dueMarked
  cases x.overdue <;> cases x.due.any fun d => decide (d ≤ now) <;> rfl

theorem isLate_marked (now : Nat) (x : Hire) : isLate now (dueMarked now x) = false := by
  unfold isLate dueMarked
  cases x.overdue <;> cases x.due.any fun d => decide (d ≤ now) <;> simp

theorem isLate_iff (now : Nat) (x : Hire) : isLate now x = true ↔ x.overdue = false ∧ x.due.any (fun d => d ≤ now) = true := by
  unfold isLate
  rw [Bool.and_eq_true, Bool.not_eq_true']

theorem takeDue_now (n : Nat) (h : Hall) : (takeDue n h).now = h.now := by rw [refleeted_takeDue h n]; rfl

section
variable (h : Hall)

theorem takeDue_hire (n q : Nat) :
    (takeDue n h).hire q = if n = q then (h.hire q).map (dueMarked h.now) else h.hire q := by
  by_cases e : n = q
  · rw [if_pos e, ← e]
    unfold takeDue
    cases found : h.hire n with
    | none => exact found
    | some x =>
      dsimp only
      split
      · next late =>
        rw [hire_makeOverdue, if_pos (hire_number found), Option.map_some, dueMarked_late ((isLate_iff _ _).2 late)]
      · next early =>
        rw [found, Option.map_some, dueMarked_early (Bool.eq_false_iff.2 fun late => early ((isLate_iff _ _).1 late))]
  · rw [if_neg e]
    unfold takeDue
    split
    · next x found =>
      split
      · rw [hire_makeOverdue, if_neg (by rw [hire_number found]; exact e)]
      · rfl
    · rfl

theorem takeDues_hire (l : List Hire) (h : Hall) (q : Nat) : (l.foldl (fun h x => takeDue x.number h) h).hire q =
    if l.any (fun x => x.number == q) then (h.hire q).map (dueMarked h.now) else h.hire q := by
  induction l generalizing h with
  | nil => rfl
  | cons x l ih =>
    rw [List.foldl_cons, ih, takeDue_hire, takeDue_now, List.any_cons]
    by_cases e : x.number = q
    · rw [if_pos e, beq_iff_eq.2 e, Bool.true_or, if_pos rfl]
      split
      · cases h.hire q with
        | none => rfl
        | some y => rw [Option.map_some, Option.map_some, dueMarked_twice]
      · rfl
    · rw [if_neg e, beq_eq_false_iff_ne.2 e, Bool.false_or]

/-- A late hire is among those that are taken. -/
theorem late_listed {x : Hire} {n : Nat} (found : h.hire n = some x) (late : isLate h.now x = true) :
    h.dueHires.any (fun x => x.number == n) = true :=
  List.any_eq_true.2 ⟨x, mem_sortBy.2 (List.mem_filter.2 ⟨hire_mem found, late⟩), beq_iff_eq.2 (hire_number found)⟩

/-- Every hire whose due minute is reached is OVERDUE, and no other moves. -/
theorem takeAllDue_hire (q : Nat) : (takeAllDue h).hire q = (h.hire q).map (dueMarked h.now) := by
  unfold takeAllDue
  rw [takeDues_hire]
  split
  · rfl
  · next out =>
    cases found : h.hire q with
    | none => rfl
    | some x =>
      rw [Option.map_some, dueMarked_early (Bool.eq_false_iff.2 fun late => out (late_listed h found late))]

/-- A receiver ISSUED on a late hire whose number meets `p` is OVERDUE. -/
def turned (h : Hall) (p : Nat → Bool) (r : Receiver) : Receiver :=
  match r.state with
  | .issued n => if p n && (h.hire n).any (isLate h.now) then { r with state := .overdue n } else r
  | _ => r

theorem turned_issued {r : Receiver} {n : Nat} (p : Nat → Bool) (state : r.state = .issued n) :
    turned h p r = if p n && (h.hire n).any (isLate h.now) then { r with state := .overdue n } else r := by
  unfold turned
  rw [state]

theorem turned_other {r : Receiver} (p : Nat → Bool) (state : ∀ n, r.state ≠ .issued n) : turned h p r = r := by
  unfold turned
  split
  · next e => exact absurd e (state _)
  · rfl

variable {h}

theorem takeDue_receiver (l : h.fleet.Lawful) (n : Nat) (q : Serial) :
    (takeDue n h).receiver q = (h.receiver q).map (turned h fun k => k == n) := by
  by_cases late : ∃ x, h.hire n = some x ∧ isLate h.now x = true
  · obtain ⟨x, found, late⟩ := late
    obtain ⟨fresh, reached⟩ := (isLate_iff _ _).1 late
    have taken : takeDue n h = makeOverdue x h := by
      unfold takeDue
      rw [found]
      exact if_pos ⟨fresh, reached⟩
    have number := hire_number found
    obtain ⟨-, -, r0, m0, serial, state⟩ := l.hires x (hire_mem found)
    rw [fresh, if_neg Bool.false_ne_true, number] at state
    rw [taken, receiver_makeOverdue]
    by_cases e : x.serial = q
    · have held : h.receiver q = some r0 := by rw [← e, ← serial]; exact receiver_find l.ordered m0
      rw [if_pos e, held, Option.map_some, Option.map_some, turned_issued h _ state, found, number]
      simp [late]
    · rw [if_neg e]
      cases held : h.receiver q with
      | none => rfl
      | some r =>
        rw [Option.map_some]
        by_cases issued : r.state = .issued n
        · obtain ⟨y, my, ny, sy⟩ := l.out r (receiver_mem held) n (by rw [issued]; rfl)
          obtain rfl := hire_unique l.ordered my (hire_mem found) (ny.trans number.symm)
          exact absurd (sy.trans (receiver_serial held)) e
        · refine congrArg some (Eq.symm ?_)
          by_cases other : ∃ k, r.state = .issued k
          · obtain ⟨k, other⟩ := other
            have ne : k ≠ n := fun same => issued (same ▸ other)
            rw [turned_issued h _ other, beq_eq_false_iff_ne.2 ne]
            rfl
          · exact turned_other h _ fun k e => other ⟨k, e⟩
  · have rests : takeDue n h = h := by
      unfold takeDue
      split
      · next x found => exact if_neg fun due => late ⟨x, found, (isLate_iff _ _).2 due⟩
      · rfl
    rw [rests]
    cases held : h.receiver q with
    | none => rfl
    | some r =>
      rw [Option.map_some]
      refine congrArg some (Eq.symm ?_)
      by_cases issued : ∃ k, r.state = .issued k
      · obtain ⟨k, issued⟩ := issued
        rw [turned_issued h _ issued, if_neg]
        intro both
        obtain ⟨same, any⟩ := Bool.and_eq_true_iff.1 both
        obtain ⟨x, found, due⟩ := (Option.any_eq_true _ _).1 any
        exact late ⟨x, (beq_iff_eq.1 same) ▸ found, due⟩
      · exact turned_other h _ fun k e => issued ⟨k, e⟩

theorem turned_turned (k : Nat) (p : Nat → Bool) (r : Receiver) :
    turned (takeDue k h) p (turned h (fun n => n == k) r) = turned h (fun n => k == n || p n) r := by
  by_cases issued : ∃ n, r.state = .issued n
  · obtain ⟨n, issued⟩ := issued
    rw [turned_issued h _ issued, turned_issued h _ issued]
    by_cases e : n = k
    · subst e
      cases late : (h.hire n).any (isLate h.now) with
      | true =>
        simp only [beq_self_eq_true, Bool.true_or, Bool.and_true, if_true]
        exact turned_other _ _ nofun
      | false =>
        have calm : ((takeDue n h).hire n).any (isLate (takeDue n h).now) = false := by
          rw [takeDue_hire, if_pos rfl, takeDue_now]
          cases h.hire n with
          | none => rfl
          | some x => exact isLate_marked _ x
        simp only [Bool.and_false, if_neg Bool.false_ne_true]
        rw [turned_issued _ _ issued, calm, Bool.and_false]
        rfl
    · have apart : ((takeDue k h).hire n).any (isLate (takeDue k h).now) = (h.hire n).any (isLate h.now) := by
        rw [takeDue_hire, if_neg (Ne.symm e), takeDue_now]
      rw [beq_eq_false_iff_ne.2 e, beq_eq_false_iff_ne.2 (Ne.symm e), Bool.false_and, if_neg Bool.false_ne_true,
        turned_issued _ _ issued, apart, Bool.false_or]
  · have other (n : Nat) : r.state ≠ .issued n := fun e => issued ⟨n, e⟩
    rw [turned_other h _ other, turned_other _ _ other, turned_other h _ other]

theorem takeDues_receiver (l : List Hire) {h : Hall} (i : FleetCounted h) (q : Serial) :
    (l.foldl (fun h x => takeDue x.number h) h).receiver q =
      (h.receiver q).map (turned h fun n => l.any fun x => x.number == n) := by
  induction l generalizing h with
  | nil =>
    cases held : h.receiver q with
    | none => exact held
    | some r =>
      refine held.trans (congrArg some (Eq.symm ?_))
      unfold turned
      split <;> rfl
  | cons x l ih =>
    rw [List.foldl_cons, ih (fleet_law.takeDue x.number i), takeDue_receiver i.1]
    cases h.receiver q with
    | none => rfl
    | some r => exact congrArg some (turned_turned _ _ r)

/-- Every receiver ISSUED on a hire that is due is OVERDUE, and no other moves. -/
theorem takeAllDue_receiver (i : FleetCounted h) (q : Serial) :
    (takeAllDue h).receiver q = (h.receiver q).map (turned h fun _ => true) := by
  unfold takeAllDue
  rw [takeDues_receiver _ i]
  cases h.receiver q with
  | none => rfl
  | some r =>
    refine congrArg some ?_
    unfold turned
    split
    · next n state =>
      refine if_congr ?_ rfl rfl
      rw [Bool.true_and, Bool.and_eq_true]
      refine ⟨And.right, fun late => ⟨?_, late⟩⟩
      obtain ⟨x, found, late⟩ := (Option.any_eq_true _ _).1 late
      exact late_listed h found late
    · rfl

end

/-! ### Hires moved off lost channels, and snapshots of a lost account (R18) -/

/-- The hire's channel is DISABLED. -/
def strays (h : Hall) (x : Hire) : Bool := !h.settings.channels[x.preset].enabled

/-- A hire as a start-up finds it behind the areas that are lost. -/
def recountedHire (bad : AreaSet) (h : Hall) (x : Hire) : Hire :=
  let y := if bad.settings && strays h x then h.moved x 0 else x
  if bad.account then { y with snapshot := 0 } else y

theorem moveStrays_hire {l : List Hire} (distinct : l.Pairwise fun x y => x.number < y.number) (h : Hall) (q : Nat) :
    (l.foldl moveStray h).hire q = ((l.find? fun x => x.number == q).map fun x => h.moved x 0).or (h.hire q) := by
  induction l generalizing h with
  | nil => rfl
  | cons x l ih =>
    obtain ⟨below, rest⟩ := List.pairwise_cons.1 distinct
    have moved (y : Hire) : (moveStray h x).moved y 0 = h.moved y 0 := rfl
    have put : (moveStray h x).hire q = if x.number = q then some (h.moved x 0) else h.hire q := hire_putHire (h := h) (h.moved x 0) q
    rw [List.foldl_cons, ih rest, put]
    simp only [moved]
    by_cases e : x.number = q
    · have none : (l.find? fun x => x.number == q) = none := List.find?_eq_none.2 fun y m => by
        have := below y m
        simp only [beq_iff_eq]
        omega
      rw [none, if_pos e, List.find?_cons_of_pos (p := fun x : Hire => x.number == q) (beq_iff_eq.2 e)]
      rfl
    · rw [if_neg e, List.find?_cons_of_neg (p := fun x : Hire => x.number == q) (by simpa using e)]

theorem strayHires_eq (h : Hall) : h.strayHires = h.fleet.hires.filter (strays h) := rfl

theorem strayHires_find {h : Hall} (o : h.fleet.ordered) (q : Nat) :
    (h.strayHires.find? fun x => x.number == q) = (h.hire q).filter (strays h) := by
  rw [strayHires_eq]
  cases found : h.hire q with
  | none =>
    refine List.find?_eq_none.2 fun x m => ?_
    exact List.find?_eq_none.1 found x (List.mem_of_mem_filter m)
  | some x =>
    cases stray : strays h x with
    | true =>
      rw [Option.filter_some_pos stray]
      cases f : (h.fleet.hires.filter (strays h)).find? fun x => x.number == q with
      | none =>
        have out := List.find?_eq_none.1 f x (List.mem_filter.2 ⟨hire_mem found, stray⟩)
        exact absurd (beq_iff_eq.2 (hire_number found)) out
      | some y =>
        have number : y.number = q := by simpa using List.find?_some f
        rw [hire_unique o (List.mem_of_mem_filter (List.mem_of_find?_eq_some f)) (hire_mem found)
          (number.trans (hire_number found).symm)]
    | false =>
      rw [Option.filter_some_neg stray]
      refine List.find?_eq_none.2 fun y m number => ?_
      obtain ⟨my, strayed⟩ := List.mem_filter.1 m
      obtain rfl := hire_unique o my (hire_mem found) ((by simpa using number : y.number = q).trans (hire_number found).symm)
      rw [stray] at strayed
      cases strayed

/-- The blocks behind the moves of a start-up with default settings. -/
def straysMoved (bad : AreaSet) (h : Hall) : Hall := if bad.settings then h.strayHires.foldl moveStray h else h

theorem straysMoved_hire {h : Hall} (bad : AreaSet) (o : h.fleet.ordered) (q : Nat) : (straysMoved bad h).hire q =
    (h.hire q).map fun x => if bad.settings && strays h x then h.moved x 0 else x := by
  unfold straysMoved
  cases bad.settings with
  | false =>
    simp only [if_neg Bool.false_ne_true, Bool.false_and]
    cases h.hire q <;> rfl
  | true =>
    rw [if_pos rfl, moveStrays_hire (strayHires_eq h ▸ o.2.1.filter _), strayHires_find o]
    cases h.hire q with
    | none => rfl
    | some x => cases stray : strays h x <;> simp [stray, Option.filter]

theorem zeroSnapshots_hire (h : Hall) (q : Nat) :
    (zeroSnapshots h).hire q = (h.hire q).map fun x => { x with snapshot := 0 } := by
  show (h.fleet.hires.map fun x => { x with snapshot := 0 }).find? _ = _
  rw [List.find?_map]
  rfl

theorem recounted_eq (bad : AreaSet) (h : Hall) : recounted bad h =
    recountDemand (if bad.account then defaultPeak (zeroSnapshots (straysMoved bad h)) else straysMoved bad h) := rfl

theorem recountDemand_fleet (h : Hall) : (recountDemand h).fleet = h.fleet := by simp only [recountDemand]

theorem defaultPeak_fleet (h : Hall) : (defaultPeak h).fleet = h.fleet := rfl

theorem hire_congr {h k : Hall} (fleet : k.fleet = h.fleet) (q : Nat) : k.hire q = h.hire q := by
  unfold Hall.hire
  rw [fleet]

/-- Each open hire stands behind the recount, moved off a lost channel, with its snapshot 0 where the account is lost. -/
theorem recounted_hire {h : Hall} (bad : AreaSet) (o : h.fleet.ordered) (q : Nat) :
    (recounted bad h).hire q = (h.hire q).map (recountedHire bad h) := by
  have moved := straysMoved_hire bad o q
  rw [recounted_eq, hire_congr (recountDemand_fleet _)]
  unfold recountedHire
  cases bad.account with
  | false => exact moved
  | true =>
    rw [if_pos rfl, hire_congr (defaultPeak_fleet _), zeroSnapshots_hire, moved, Option.map_map]
    rfl

theorem straysMoved_rest (bad : AreaSet) (h : Hall) : straysMoved bad h =
    { h with fleet := { h.fleet with hires := (straysMoved bad h).fleet.hires } } := by
  unfold straysMoved
  split
  · exact foldl_keeps (R := fun h k : Hall => k = { h with fleet := { h.fleet with hires := k.fleet.hires } }) (fun _ => rfl)
      (fun p q => by rw [q, p]) (fun _ _ => rfl) _ h
  · rfl

/-- The recount moves the hires, the demand and the peaks. -/
theorem recounted_frame (bad : AreaSet) (h : Hall) : recounted bad h = { h with
    fleet := { h.fleet with hires := (recounted bad h).fleet.hires }
    account := { h.account with
      peakHires := if bad.account then (recounted bad h).fleet.hires.length else h.account.peakHires }
    channels := vtab fun c => { h.channels[c] with
      demand := presetCount c (recounted bad h).fleet.hires, peak := presetCount c (recounted bad h).fleet.hires } } := by
  have rest := straysMoved_rest bad h
  rw [recounted_eq]
  generalize straysMoved bad h = k at rest
  cases bad.account with
  | false =>
    simp only [if_neg Bool.false_ne_true, recountDemand, presetCount]
    rw [rest]
  | true =>
    simp only [if_pos, recountDemand, presetCount, defaultPeak, zeroSnapshots, Hall.openHires]
    rw [rest]

/-- Every hire behind the recount has the due minute of one before it. -/
theorem recounted_due {bad : AreaSet} {h : Hall} {y : Hire} (m : y ∈ (recounted bad h).fleet.hires) :
    ∃ x ∈ h.fleet.hires, y.due = x.due ∧ y.overdue = x.overdue := by
  have strays (l : List Hire) (sub : ∀ x ∈ l, x ∈ h.fleet.hires) (k : Hall)
      (i : ∀ y ∈ k.fleet.hires, ∃ x ∈ h.fleet.hires, y.due = x.due ∧ y.overdue = x.overdue) :
      ∀ y ∈ (l.foldl moveStray k).fleet.hires, ∃ x ∈ h.fleet.hires, y.due = x.due ∧ y.overdue = x.overdue := by
    induction l generalizing k with
    | nil => exact i
    | cons x l ih =>
      refine ih (fun y m => sub y (.tail _ m)) _ fun y m => ?_
      rcases mem_putHire.1 m with rfl | ⟨m, -⟩
      · exact ⟨x, sub x (.head _), rfl, rfl⟩
      · exact i y m
  have moved : ∀ y ∈ (straysMoved bad h).fleet.hires, ∃ x ∈ h.fleet.hires, y.due = x.due ∧ y.overdue = x.overdue := by
    unfold straysMoved
    split
    · exact strays _ (fun x m => List.mem_of_mem_filter m) h fun y m => ⟨y, m, rfl, rfl⟩
    · exact fun y m => ⟨y, m, rfl, rfl⟩
  rw [recounted_eq, recountDemand_fleet] at m
  split at m
  · obtain ⟨x, mx, rfl⟩ := List.mem_map.1 (m : y ∈ (straysMoved bad h).fleet.hires.map fun x => { x with snapshot := 0 })
    exact moved x mx
  · exact moved y m

end Sys2Proof.StepProofs
end

-- ==== Proofs: Prepared ====
section
/-! PROOFS. The blocks that a start-up rebuilds: service states, carriers and spells from nothing, the badge limit, the
low-stock flags, the levels and the meters (R18, R94, R117, R155, R174). -/

namespace Sys2Proof.StepProofs

open Machine

/-! ### The limit, the flags and the levels -/

section
variable (h : Hall)

theorem relisted_frame : relisted h = { h with
    settings := { h.settings with hall := { h.settings.hall with
      badgeLimit := max h.settings.hall.badgeLimit h.fleet.longestList } }
    link := { h.link with sentGen := h.link.generation, sent := h.directory }
    lowFired := vtab fun w => decide (h.stockCount w < h.settings.windows[w].lowStock) } := by
  unfold relisted setLowFlags raiseLimit
  rfl

theorem setLevels_frame : setLevels h = { h with
    levels := ⟨h.liveCount, h.openHires, h.inUse, h.unservedCount⟩, meters := (setLevels h).meters } := by
  unfold setLevels
  exact clearAllRunning_rest _

theorem setLevels_link : (setLevels h).link = h.link := by rw [setLevels_frame]
theorem setLevels_posts : (setLevels h).work.posts = h.work.posts := by rw [setLevels_frame]
theorem relisted_generation : (relisted h).link.generation = h.link.generation := by rw [relisted_frame]
theorem relisted_posts : (relisted h).work.posts = h.work.posts := by rw [relisted_frame]

theorem setLevels_next (m : MeterId) : (setLevels h).meters[m].next = freshClose h m := by
  unfold setLevels
  rw [clearAllRunning_meter]
  rfl

theorem spelled_relisted (c : ChannelId) : spelledRun (relisted h) c = spelledRun h c ∧ spelledDay (relisted h) c = spelledDay h c := by
  rw [relisted_frame]
  exact ⟨rfl, rfl⟩

end

/-! ### The blocks rebuilt from nothing -/

/-- No slot is OK, no channel has a feeder, and none an open spell. -/
structure Cold (h : Hall) : Prop where
  dark : h.dark = true
  feeder : ∀ c : ChannelId, h.channels[c].feeder = none
  outage : ∀ c : ChannelId, h.channels[c].outageSince = none
  served : ∀ c : ChannelId, h.channels[c].servedSince = none
  fill : ∀ c : ChannelId, h.channels[c].fillSince = none

/-- The run of a channel behind a start-up: its spells begin now (R18). -/
def startedRun (h : Hall) (c : ChannelId) : ChannelRun :=
  { h.channels[c] with
    service := h.serviceOf c
    outageSince := if h.settings.channels[c].enabled && h.running then some h.now else none
    servedSince := none
    fillSince := if c != 0 && h.settings.channels[c].enabled && h.serviceOf c == .fill && h.dayOpen then some h.now else none }

/-- `k` is `h` with its services, carriers, spells, flags, levels and meters built anew. -/
structure Prepared (h k : Hall) : Prop where
  eq : k = { h with
    settings := k.settings
    channels := k.channels
    air := k.air
    link := { h.link with
      content := k.link.content, generation := k.link.generation, sentGen := k.link.sentGen, sent := k.link.sent }
    lowFired := k.lowFired
    meters := k.meters
    levels := k.levels
    free := k.free
    work := { h.work with posts := k.work.posts, asks := k.work.asks } }
  settings : k.settings = { h.settings with hall := { h.settings.hall with
    badgeLimit := max h.settings.hall.badgeLimit h.fleet.longestList } }
  low : ∀ w : WindowId, k.lowFired[w] = decide (h.stockCount w < h.settings.windows[w].lowStock)
  levels : k.levels = ⟨h.liveCount, h.openHires, k.inUse, k.unservedCount⟩
  run : ∀ c : ChannelId, k.channels[c] = startedRun h c
  filled : (pinnedOf h).length ≤ 15 →
    k.air.waiting = [] ∧ ∀ j : CarrierId, k.air.carriers[j] = filledWith (pinnedOf h) h.now j
  next : ∀ m : MeterId, k.meters[m].next = freshClose h m

section
variable {h s a k : Hall}

theorem startedRun_of (cold : Cold h) (served : Aired (deriveServices h) s) (c : ChannelId) : spelledRun s c = startedRun h c := by
  have run : s.channels[c] = { h.channels[c] with service := h.serviceOf c } := by
    unfold Aired at served
    rw [← deriveServices_channel, served]
  have settings : s.settings = h.settings := by
    unfold Aired at served
    rw [served]
    simp only [deriveServices]
  have slots : s.link.slots = h.link.slots := by
    unfold Aired at served
    rw [served]
    simp only [deriveServices]
  have account : s.account = h.account := by
    unfold Aired at served
    rw [served, deriveServices_account]
  have clock : s.clock = h.clock := by
    unfold Aired at served
    rw [served]
    simp only [deriveServices]
  have now : s.now = h.now := congrArg Clock.minute clock
  have dark : s.dark = true := by rw [dark_congr slots, cold.dark]
  have running : s.running = h.running := running_congr (by rw [account])
  have serves : s.serves c = false := by
    unfold Hall.serves
    rw [dark]
    simp
  have lacks : s.lacks c = (h.settings.channels[c].enabled && h.running) := by
    unfold Hall.lacks
    rw [serves, settings, running, Bool.not_false, Bool.and_true]
  have fills : s.fills c = (c != 0 && h.settings.channels[c].enabled && h.serviceOf c == .fill && h.dayOpen) := by
    unfold Hall.fills Hall.dayOpen
    rw [settings, run, account]
  unfold spelledRun startedRun
  rw [run, serves, lacks, fills, now, cold.outage, cold.served, cold.fill]
  rfl

theorem cold_days (cold : Cold h) (c : ChannelId) : h.account.channels[c] = ⟨h.outage c, h.onAirMinutes c, h.fillMinutes c⟩ := by
  unfold Hall.outage Hall.onAirMinutes Hall.fillMinutes
  rw [cold.outage, cold.served, cold.fill]
  rfl

theorem prepared_of (cold : Cold h) (served : Aired (deriveServices h) s) (event : Allotted (deriveServices h) a)
    (spelled : Spelled (relisted a) k)
    (runs : ∀ c, k.channels[c] = spelledRun s c) (days : ∀ c, k.account.channels[c] = spelledDay s c)
    (filled : (pinnedOf h).length ≤ 15 →
      a.air.waiting = [] ∧ ∀ j : CarrierId, a.air.carriers[j] = filledWith (pinnedOf h) h.now j) :
    Prepared h (setLevels k) := by
  have levels := setLevels_frame k
  have figures := rebuilt_figures served days (cold_days cold)
  have relist := relisted_frame a
  have first := event.eq
  unfold deriveServices at first
  have account : k.account = h.account := by
    rw [spelled.account, relist, first, figures]
  have consoles : k.consoles = h.consoles := by rw [spelled.consoles, relist, first]
  have live : k.liveCount = h.liveCount := by
    unfold Hall.liveCount
    rw [consoles]
  have fleet : k.fleet = h.fleet := by rw [spelled.fleet, relist, first]
  have hires : k.openHires = h.openHires := by
    unfold Hall.openHires
    rw [fleet]
  have air : k.air = a.air := by rw [spelled.air, relist]
  have settings : k.settings.meters = h.settings.meters := by rw [spelled.settings, relist, first]
  have now : k.now = h.now := by
    rw [spelled.now, relist, first]
    rfl
  have stock (w : WindowId) : a.stockCount w = h.stockCount w := by
    unfold Hall.stockCount
    rw [event.fleet]
    rfl
  have frame : k = { h with
      settings := k.settings
      channels := k.channels
      air := k.air
      link := { h.link with
        content := k.link.content, generation := k.link.generation, sentGen := k.link.sentGen, sent := k.link.sent }
      lowFired := k.lowFired
      meters := k.meters
      levels := k.levels
      free := k.free
      work := { h.work with posts := k.work.posts, asks := k.work.asks } } := by
    have last := spelled.eq
    have sent : relisted a = { a with
        settings := (relisted a).settings
        link := { a.link with sentGen := a.link.generation, sent := a.directory }
        lowFired := (relisted a).lowFired } := by rw [relist]
    rw [figures] at last
    generalize relisted a = l at last sent
    rw [last, sent, first]
  refine ⟨?_, ?_, fun w => ?_, ?_, fun c => ?_, fun room => ?_, fun m => ?_⟩
  · generalize setLevels k = v at levels
    rw [levels, frame]
  · rw [levels]
    show k.settings = _
    rw [spelled.settings, relist, first]
  · rw [levels]
    show k.lowFired[w] = _
    have windows : a.settings.windows = h.settings.windows := by rw [event.settings]; simp only [deriveServices]
    rw [spelled.lowFired, relist, ← stock, ← windows]
    exact vtab_get _ w
  · generalize setLevels k = v at levels
    rw [levels, live, hires]
    rfl
  · rw [levels]
    exact (runs c).trans (startedRun_of cold served c)
  · have f := filled room
    rw [levels]
    exact ⟨by rw [air, f.1], fun j => by rw [air, f.2]⟩
  · rw [setLevels_next]
    unfold freshClose
    rw [settings, now]

end

/-- What a start-up rebuilds of the blocks, but for the due minutes it finds reached. -/
def prepared (h : Hall) : Hall := setLevels (relisted (allocEvent buildCarriers (deriveServices h))).spellsAll

theorem rebuild_prepared (bad : AreaSet) (h : Hall) : rebuild bad h = takeAllDue (prepared (recounted bad h)) := rebuild_eq h bad

theorem prepared_prepared {h : Hall} (cold : Cold h) : Prepared h (prepared h) := by
  have built := aired_buildCarriers (deriveServices h)
  have served := built.trans (aired_serveList 32 _)
  have event := allotted_allocEvent (deriveServices h) (allotted_aired _ built)
  have spelled := spelled_spellsAll (relisted (allocEvent buildCarriers (deriveServices h)))
  have twice := spelled_allocated (judged_spelled (.refl (allocEvent buildCarriers (deriveServices h)))) rfl rfl rfl
  have air := allocReport_air (deriveServices h) (serveList 32 (buildCarriers (deriveServices h)))
  refine prepared_of cold served event spelled
    (fun c => (spellsAll_channel _ c).trans ((spelled_relisted _ c).1.trans (twice c).1))
    (fun c => (spellsAll_day _ c).trans ((spelled_relisted _ c).2.trans (twice c).2)) fun room => ?_
  have filled := filled_buildCarriers (deriveServices h) (fun c ne => by
    rw [deriveServices_channel]
    exact serviceOf_unfed ne (cold.feeder c)) (by rwa [deriveServices_pinned])
  have waiting := air.2.trans filled.waiting
  have carriers (j : CarrierId) := (congrArg (fun v : Vector Carrier 16 => v[j]) air.1).trans (filled.carriers j)
  rw [deriveServices_pinned, deriveServices_now] at carriers
  exact ⟨waiting, carriers⟩

/-! ### What it hands over and posts -/

theorem directory_nonempty {h : Hall} (floor : ∃ since, h.air.carriers[(0 : CarrierId)] = .onAir 0 since) : h.directory ≠ [] := by
  obtain ⟨since, floor⟩ := floor
  intro empty
  unfold Hall.directory at empty
  have out := List.filterMap_eq_nil_iff.1 empty 0 (mem_ids 0)
  rw [floor] at out
  cases out

/-- The first directory built from nothing is numbered 1 (R94). -/
theorem prepared_generation {h : Hall} (content : h.link.content = []) (zero : h.link.generation = 0) :
    (prepared h).link.generation = 1 := by
  have floored := floored_buildCarriers (deriveServices h)
  have served := (aired_buildCarriers (deriveServices h)).trans (aired_serveList 32 _)
  have report := allocReport_generation (serveList 32 (buildCarriers (deriveServices h))) (deriveServices h)
  have air := (allocReport_air (deriveServices h) (serveList 32 (buildCarriers (deriveServices h)))).1
  have link : (serveList 32 (buildCarriers (deriveServices h))).link = h.link := by
    unfold Aired at served
    rw [served]
    simp only [deriveServices]
  have spelled := spelled_spellsAll (relisted (allocEvent buildCarriers (deriveServices h)))
  unfold prepared
  rw [setLevels_link, spelled.link, relisted_generation]
  unfold allocEvent
  rw [report, link, content, zero, if_neg]
  exact directory_nonempty ⟨_, (congrArg (fun v : Vector Carrier 16 => v[(0 : CarrierId)]) air).trans floored.1⟩

section
variable (h : Hall)

theorem meterLevelChange_posts (kind : MeterSource) (v : Nat) : (meterLevelChange kind v h).work.posts = h.work.posts := by
  unfold meterLevelChange
  split
  · rfl
  · have only := meterLevel_eq kind v h
    unfold OnlyMeters at only
    rw [only]

theorem spells_posts (c : ChannelId) : (h.spells c).work.posts = h.work.posts := by
  unfold Hall.spells
  dsimp only
  split <;> rfl

theorem handUnserved_posts : h.handUnserved.work.posts = h.work.posts := meterLevelChange_posts h _ _

theorem reviewChannel_posts (c : ChannelId) : (reviewChannel h c).work.posts = h.work.posts :=
  (handUnserved_posts _).trans (spells_posts h c)

theorem raiseGeneration_posts : (raiseGeneration h).work.posts = h.work.posts := by
  unfold raiseGeneration
  split <;> rfl

theorem allocReport_posts (before : Hall) : (allocReport before h).work.posts = h.work.posts := by
  unfold allocReport handInUse
  refine (meterLevelChange_posts _ _ _).trans ((raiseGeneration_posts _).trans ?_)
  exact foldl_keeps (R := fun h k : Hall => k.work.posts = h.work.posts) (fun _ => rfl) (fun p q => q.trans p)
    reviewChannel_posts _ h

theorem spellsAll_posts : h.spellsAll.work.posts = h.work.posts := by
  unfold Hall.spellsAll
  exact (handUnserved_posts _).trans (foldl_keeps (R := fun h k : Hall => k.work.posts = h.work.posts) (fun _ => rfl)
    (fun p q => q.trans p) spells_posts _ h)

/-- While there is room for every pinned channel the build posts nothing. -/
theorem prepared_posts {h : Hall} (cold : Cold h) (room : (pinnedOf h).length ≤ 15) : (prepared h).work.posts = h.work.posts := by
  have filled := filled_buildCarriers (deriveServices h) (fun c ne => by
    rw [deriveServices_channel]
    exact serviceOf_unfed ne (cold.feeder c)) (by rwa [deriveServices_pinned])
  have built : (serveList 32 (buildCarriers (deriveServices h))).work.posts = h.work.posts := by
    rw [filled.eq]
    simp only [deriveServices]
  unfold prepared allocEvent
  rw [setLevels_posts, spellsAll_posts, relisted_posts, allocReport_posts, built]

end

end Sys2Proof.StepProofs
end

-- ==== Proofs: StartUp ====
section
/-! PROOFS. Start-up (R18, R40, R63, R76, R94, R99, R117, R155, R165, R174, R175, R177). -/

namespace Sys2Proof.StepProofs

open Machine

/-! ### The blocks as they are loaded -/

/-- The blocks with their retained fields loaded at minute `m`, and nothing else but fault entries handed over. -/
structure Fresh (set : Settings) (own : Fleet) (acc : Account) (m : Nat) (h : Hall) : Prop where
  settings : h.settings = set
  fleet : h.fleet = own
  account : h.account = acc
  clock : h.clock = ⟨m, true, 0, 0⟩
  channel : ∀ c : ChannelId, h.channels[c] = ChannelRun.blank
  waitList : ∀ c : ChannelId, h.waitLists[c] = []
  booth : ∀ b : BoothId, h.booths[b] = BoothRun.blank
  console : ∀ a : ConsoleId, h.consoles[a] = ConsoleRun.started set.consoleBooth[a]
  slot : ∀ e : EmitterId, h.link.slots[e] = ⟨.absent, 0, false⟩
  content : h.link.content = []
  generation : h.link.generation = 0
  windows : h.link.windows = 0
  posts : h.work.posts = []

theorem replicate_get {α : Type} {n : Nat} (x : α) (i : Fin n) : (Vector.replicate n x)[i] = x := by
  rw [Fin.getElem_fin, Vector.getElem_replicate]

theorem fresh_loaded (set : Settings) (own : Fleet) (acc : Account) (m free : Nat) (work : EventWork)
    (silent : work.posts = []) : Fresh set own acc m { loaded set own acc m free with work := work } where
  settings := rfl
  fleet := rfl
  account := rfl
  clock := rfl
  channel c := replicate_get _ c
  waitList c := replicate_get _ c
  booth b := replicate_get _ b
  console a := vtab_get _ a
  slot e := replicate_get _ e
  content := rfl
  generation := rfl
  windows := rfl
  posts := silent

section
variable {bad : AreaSet} {set : Settings} {own : Fleet} {acc : Account} {m : Nat} {h : Hall} (fresh : Fresh set own acc m h)
include fresh

theorem Fresh.now : h.now = m := by
  unfold Hall.now
  rw [fresh.clock]

theorem Fresh.dark : h.dark = true := by
  unfold Hall.dark
  refine List.all_eq_true.2 fun e _ => ?_
  rw [fresh.slot]
  rfl

theorem Fresh.recounted_run (c : ChannelId) : (recounted bad h).channels[c] = { ChannelRun.blank with
    demand := presetCount c (recounted bad h).fleet.hires, peak := presetCount c (recounted bad h).fleet.hires } := by
  have frame := recounted_frame bad h
  generalize recounted bad h = g at frame
  rw [← fresh.channel c, frame]
  exact vtab_get _ c

theorem Fresh.cold : Cold (recounted bad h) := by
  have slots : (recounted bad h).link.slots = h.link.slots := by rw [recounted_frame bad h]
  refine ⟨by rw [dark_congr slots, fresh.dark], fun c => ?_, fun c => ?_, fun c => ?_, fun c => ?_⟩
  all_goals
    rw [fresh.recounted_run]
    rfl

theorem Fresh.isPrepared : Prepared (recounted bad h) (prepared (recounted bad h)) := prepared_prepared fresh.cold

end

/-! ### The blocks as they are rebuilt -/

/-- Nothing moves behind the build but hires that become OVERDUE. -/
theorem rebuild_refleeted (bad : AreaSet) (h : Hall) : Refleeted (prepared (recounted bad h)) (rebuild bad h) := by
  rw [rebuild_prepared]
  exact refleeted_takeAllDue _

/-- `k` is `h` rebuilt, its hires recounted as in `g`. -/
structure Begun (bad : AreaSet) (h g k : Hall) : Prop where
  eq : k = { h with
    settings := k.settings
    fleet := k.fleet
    account := { h.account with
      peakHires := if bad.account then g.fleet.hires.length else h.account.peakHires }
    channels := k.channels
    air := k.air
    link := { h.link with
      content := k.link.content, generation := k.link.generation, sentGen := k.link.sentGen, sent := k.link.sent }
    lowFired := k.lowFired
    meters := k.meters
    levels := k.levels
    free := k.free
    work := { h.work with posts := k.work.posts, asks := k.work.asks } }
  settings : k.settings = { h.settings with hall := { h.settings.hall with
    badgeLimit := max h.settings.hall.badgeLimit h.fleet.longestList } }
  run : ∀ c : ChannelId, k.channels[c] = startedRun g c
  low : ∀ w : WindowId, k.lowFired[w] = decide (g.stockCount w < h.settings.windows[w].lowStock)
  levels : k.levels = ⟨h.liveCount, g.fleet.hires.length, k.inUse, k.unservedCount⟩
  filled : (pinnedOf h).length ≤ 15 →
    k.air.waiting = [] ∧ ∀ j : CarrierId, k.air.carriers[j] = filledWith (pinnedOf h) h.now j
  next : ∀ m : MeterId, k.meters[m].next = freshClose h m

/-- What the recount moves. -/
def Recounted (bad : AreaSet) (h g : Hall) : Prop := g = { h with
  fleet := { h.fleet with hires := g.fleet.hires }
  account := { h.account with peakHires := if bad.account then g.fleet.hires.length else h.account.peakHires }
  channels := g.channels }

theorem recounted_recounted (bad : AreaSet) (h : Hall) : Recounted bad h (recounted bad h) := by
  have frame := recounted_frame bad h
  unfold Recounted
  generalize recounted bad h = g at frame
  rw [frame]

section
variable {bad : AreaSet} {h g v k : Hall} (frame : Recounted bad h g) (p : Prepared g v) (moved : Refleeted v k)
include frame p moved

theorem begun_settings : k.settings = { h.settings with hall := { h.settings.hall with
    badgeLimit := max h.settings.hall.badgeLimit h.fleet.longestList } } := by
  have list : g.fleet.longestList = h.fleet.longestList := by
    unfold Recounted at frame
    unfold Fleet.longestList
    rw [frame]
  have settings : g.settings = h.settings := by
    unfold Recounted at frame
    rw [frame]
  unfold Refleeted at moved
  rw [moved]
  show v.settings = _
  rw [p.settings, list, settings]

theorem begun_eq : k = { h with
    settings := k.settings
    fleet := k.fleet
    account := { h.account with
      peakHires := if bad.account then g.fleet.hires.length else h.account.peakHires }
    channels := k.channels
    air := k.air
    link := { h.link with
      content := k.link.content, generation := k.link.generation, sentGen := k.link.sentGen, sent := k.link.sent }
    lowFired := k.lowFired
    meters := k.meters
    levels := k.levels
    free := k.free
    work := { h.work with posts := k.work.posts, asks := k.work.asks } } := by
  have built := p.eq
  unfold Refleeted at moved
  unfold Recounted at frame
  rw [moved, built, frame]

theorem begun_of (next : ∀ m : MeterId, k.meters[m].next = v.meters[m].next) : Begun bad h g k := by
  have eq := begun_eq frame p moved
  have set := begun_settings frame p moved
  unfold Refleeted at moved
  unfold Recounted at frame
  have settings : g.settings = h.settings := by rw [frame]
  have now : g.now = h.now := by
    rw [frame]
    rfl
  have pinned : pinnedOf g = pinnedOf h := by
    unfold pinnedOf
    rw [settings]
  have live : g.liveCount = h.liveCount := by
    unfold Hall.liveCount
    rw [frame]
  have filled := p.filled
  rw [pinned, now] at filled
  have air : k.air = v.air := by rw [moved]
  have channels : k.channels = v.channels := by rw [moved]
  refine ⟨eq, set, fun c => by rw [channels, p.run], fun w => ?_, ?_, fun room => by rw [air]; exact filled room, fun m => ?_⟩
  · have low : k.lowFired = v.lowFired := by rw [moved]
    rw [low, p.low, settings]
  · have levels : k.levels = v.levels := by rw [moved]
    have inUse : k.inUse = v.inUse := inUse_congr (by rw [air])
    have unserved : k.unservedCount = v.unservedCount := unservedCount_congr (by rw [moved]) channels
    rw [levels, p.levels, live, inUse, unserved]
    rfl
  · rw [next, p.next]
    unfold freshClose
    rw [settings, now]

end

theorem Fresh.begun {bad : AreaSet} {set : Settings} {own : Fleet} {acc : Account} {m : Nat} {h : Hall}
    (fresh : Fresh set own acc m h) : Begun bad h (recounted bad h) (rebuild bad h) :=
  begun_of (recounted_recounted bad h) fresh.isPrepared (rebuild_refleeted bad h) fun m => by
    rw [rebuild_prepared, takeAllDue_next]

/-! ### The hires and receivers behind a start-up -/

theorem receivers_total {h k : Hall} (oh : h.fleet.ordered) (ok : k.fleet.ordered)
    (same : ∀ q, (k.receiver q).isSome = (h.receiver q).isSome) : k.fleet.receivers.length = h.fleet.receivers.length := by
  have any (o : Option Receiver) : o.any (fun _ => true) = o.isSome := by cases o <;> rfl
  have length := receivers_length (fun _ => true) oh ok fun q => by rw [any, any]; exact same q
  rwa [List.filter_eq_self.2 fun _ _ => rfl, List.filter_eq_self.2 fun _ _ => rfl] at length

theorem prepared_housed (h : Hall) : Housed h (prepared h) :=
  ((((stays_deriveServices _).housed.trans (stays_build _).housed).trans (relisted_housed _)).trans
    (stays_spellsAll _).housed).trans (setLevels_housed _)

section
variable {bad : AreaSet} {set : Settings} {own : Fleet} {acc : Account} {m : Nat} {h : Hall} (fresh : Fresh set own acc m h)
  (lawful : own.Lawful)
include fresh

theorem Fresh.prepared_fleet : (prepared (recounted bad h)).fleet = (recounted bad h).fleet := by rw [fresh.isPrepared.eq]

theorem Fresh.prepared_now : (prepared (recounted bad h)).now = m := by
  have frame := recounted_recounted bad h
  have clock : (recounted bad h).clock = h.clock := by
    unfold Recounted at frame
    rw [frame]
  have kept : (prepared (recounted bad h)).clock = (recounted bad h).clock := by rw [fresh.isPrepared.eq]
  exact (congrArg Clock.minute (kept.trans clock)).trans fresh.now

theorem Fresh.recounted_receivers (q : Serial) : (recounted bad h).receiver q = own.receivers.find? fun r => r.serial == q := by
  have receivers : (recounted bad h).fleet.receivers = own.receivers := by
    have frame := recounted_recounted bad h
    unfold Recounted at frame
    generalize recounted bad h = g at frame ⊢
    rw [frame, ← fresh.fleet]
  exact congrArg (List.find? fun r => r.serial == q) receivers

include lawful

theorem Fresh.recounted_counted : FleetCounted (recounted bad h) := fleetCounted_recounted bad (by rw [fresh.fleet]; exact lawful)

theorem Fresh.prepared_counted : FleetCounted (prepared (recounted bad h)) :=
  fleet_law.same _ _ (prepared_housed _) (fresh.recounted_counted lawful)

theorem Fresh.rebuilt_counted : FleetCounted (rebuild bad h) := fleet_law.rebuilt (by rw [fresh.fleet]; exact lawful)

theorem Fresh.recounted_hires (n : Nat) :
    (recounted bad h).hire n = (own.hires.find? fun x => x.number == n).map (recountedHire bad h) := by
  rw [recounted_hire bad (by rw [fresh.fleet]; exact lawful.ordered), Hall.hire, fresh.fleet]

theorem Fresh.rebuilt_hire (n : Nat) : (rebuild bad h).hire n =
    (own.hires.find? fun x => x.number == n).map fun x => dueMarked m (recountedHire bad h x) := by
  rw [rebuild_prepared, takeAllDue_hire, fresh.prepared_now, hire_congr fresh.prepared_fleet, fresh.recounted_hires lawful,
    Option.map_map]
  rfl

theorem Fresh.rebuilt_receiver (q : Serial) : (rebuild bad h).receiver q =
    (own.receivers.find? fun r => r.serial == q).map (turned (prepared (recounted bad h)) fun _ => true) := by
  rw [rebuild_prepared, takeAllDue_receiver (fresh.prepared_counted lawful)]
  refine congrArg (Option.map _) ?_
  rw [← fresh.recounted_receivers (bad := bad) q]
  unfold Hall.receiver
  rw [fresh.prepared_fleet]

end

/-- A hire's channel is DISABLED by default settings. -/
def strayOf (bad : AreaSet) (set : Settings) (x : Hire) : Bool := bad.settings && !set.channels[x.preset].enabled

/-- A hire as a start-up at minute `m` leaves it. -/
def startedHire (bad : AreaSet) (set : Settings) (acc : Account) (m : Nat) (x : Hire) : Hire :=
  { x with
    unserved := if strayOf bad set x then
      min (x.unserved + (acc.channels[x.preset].outage - x.snapshot)) 4294967295 else x.unserved
    snapshot := if bad.account then 0 else if strayOf bad set x then acc.channels[(0 : ChannelId)].outage else x.snapshot
    preset := if strayOf bad set x then 0 else x.preset
    stale := strayOf bad set x || x.stale
    overdue := x.overdue || x.due.any fun d => d ≤ m }

/-- A receiver as a start-up at minute `m` leaves it. -/
def startedReceiver (own : Fleet) (m : Nat) (r : Receiver) : Receiver :=
  match r.state with
  | .issued n =>
    if (own.hires.any fun x => x.number == n && x.due.any fun d => d ≤ m) then { r with state := .overdue n } else r
  | _ => r

section
variable {bad : AreaSet} {set : Settings} {own : Fleet} {acc : Account} {m : Nat} {h : Hall} (fresh : Fresh set own acc m h)
include fresh

theorem Fresh.outage (c : ChannelId) : h.outage c = acc.channels[c].outage := by
  unfold Hall.outage
  rw [fresh.channel, fresh.account]
  rfl

theorem Fresh.hire_moved (x : Hire) : h.moved x 0 = { x with
    unserved := min (x.unserved + (acc.channels[x.preset].outage - x.snapshot)) 4294967295
    snapshot := acc.channels[(0 : ChannelId)].outage
    preset := 0
    stale := true } := by
  unfold Hall.moved Hall.unservedNow
  rw [fresh.outage, fresh.outage, fresh.clock, Bool.or_true]
  rfl

theorem Fresh.hire_started (x : Hire) : dueMarked m (recountedHire bad h x) = startedHire bad set acc m x := by
  have stray : strayOf bad set x = (bad.settings && strays h x) := by
    unfold strayOf strays
    rw [fresh.settings]
  unfold recountedHire startedHire
  rw [← stray, fresh.hire_moved]
  cases strayOf bad set x <;> cases bad.account <;> rfl

variable (lawful : own.Lawful)
include lawful

/-- A receiver ISSUED stands on an open hire that is not OVERDUE. -/
theorem issued_hire {r : Receiver} (mem : r ∈ own.receivers) {n : Nat} (state : r.state = .issued n) :
    ∃ x ∈ own.hires, x.number = n ∧ x.overdue = false ∧ (own.hires.find? fun x => x.number == n) = some x := by
  have ordered : h.fleet.ordered := by rw [fresh.fleet]; exact lawful.ordered
  obtain ⟨x, mx, number, serial⟩ := lawful.out r mem n (by rw [state]; rfl)
  obtain ⟨-, -, r', mr, serial', state'⟩ := lawful.hires x mx
  have same : r' = r := receiver_unique ordered (by rw [fresh.fleet]; exact mr) (by rw [fresh.fleet]; exact mem)
    (serial'.trans serial)
  refine ⟨x, mx, number, ?_, ?_⟩
  · cases overdue : x.overdue with
    | false => rfl
    | true =>
      rw [same, state, overdue, if_pos rfl] at state'
      cases state'
  · have found := hire_find ordered (by rw [fresh.fleet]; exact mx)
    rwa [number, Hall.hire, fresh.fleet] at found

theorem Fresh.receiver_started {r : Receiver} (mem : r ∈ own.receivers) :
    turned (prepared (recounted bad h)) (fun _ => true) r = startedReceiver own m r := by
  unfold startedReceiver
  split
  · next n state =>
    obtain ⟨x, mx, number, calm, found⟩ := issued_hire fresh lawful mem state
    have hire : (prepared (recounted bad h)).hire n = some (recountedHire bad h x) := by
      rw [hire_congr fresh.prepared_fleet, fresh.recounted_hires lawful, found]
      rfl
    have due : isLate m (recountedHire bad h x) = x.due.any fun d => d ≤ m := by
      unfold isLate recountedHire
      dsimp only
      have keeps : (h.moved x 0).overdue = x.overdue ∧ (h.moved x 0).due = x.due := ⟨rfl, rfl⟩
      split <;> split <;> simp [keeps, calm]
    have any : (own.hires.any fun x => x.number == n && x.due.any fun d => d ≤ m) = x.due.any fun d => d ≤ m := by
      rw [Bool.eq_iff_iff, List.any_eq_true]
      constructor
      · rintro ⟨y, my, both⟩
        obtain ⟨same, reached⟩ := Bool.and_eq_true_iff.1 both
        have ordered : h.fleet.ordered := by rw [fresh.fleet]; exact lawful.ordered
        obtain rfl : y = x := hire_unique ordered (by rw [fresh.fleet]; exact my) (by rw [fresh.fleet]; exact mx)
          ((beq_iff_eq.1 same).trans number.symm)
        exact reached
      · exact fun due => ⟨x, mx, Bool.and_eq_true_iff.2 ⟨beq_iff_eq.2 number, due⟩⟩
    rw [turned_issued _ _ state, hire, fresh.prepared_now, any, Option.any_some, due, Bool.true_and]
  · next other => exact turned_other _ _ fun n e => other n e

theorem Fresh.rebuilt_lengths : (rebuild bad h).fleet.receivers.length = own.receivers.length ∧
    (rebuild bad h).fleet.hires.length = own.hires.length ∧
    (recounted bad h).fleet.hires.length = own.hires.length := by
  have oh : h.fleet.ordered := by rw [fresh.fleet]; exact lawful.ordered
  have ok := (fresh.rebuilt_counted (bad := bad) lawful).1.ordered
  have og := (fresh.recounted_counted (bad := bad) lawful).1.ordered
  have receiver (q : Serial) : h.receiver q = own.receivers.find? fun r => r.serial == q := by rw [Hall.receiver, fresh.fleet]
  have hire (n : Nat) : h.hire n = own.hires.find? fun x => x.number == n := by rw [Hall.hire, fresh.fleet]
  have receivers := receivers_total oh ok fun q => by rw [fresh.rebuilt_receiver lawful, receiver, Option.isSome_map]
  have hires := hires_length oh ok fun n => by rw [fresh.rebuilt_hire lawful, hire, Option.isSome_map]
  have before := hires_length oh og fun n => by rw [fresh.recounted_hires lawful, hire, Option.isSome_map]
  rw [fresh.fleet] at receivers hires before
  exact ⟨receivers, hires, before⟩

/-- No receiver comes into or leaves STOCK behind the build. -/
theorem Fresh.rebuilt_stock (w : WindowId) : (rebuild bad h).stockCount w = (recounted bad h).stockCount w := by
  refine receivers_length (fun r => r.window == w && r.state == .stock) (fresh.recounted_counted lawful).1.ordered
    (fresh.rebuilt_counted lawful).1.ordered fun q => ?_
  rw [fresh.rebuilt_receiver lawful, fresh.recounted_receivers]
  cases own.receivers.find? fun r => r.serial == q with
  | none => rfl
  | some r =>
    rw [Option.map_some, Option.any_some, Option.any_some]
    unfold turned
    split
    · next n state =>
      split
      · rw [state]
        rfl
      · rfl
    · rfl

end

end Sys2Proof.StepProofs
end

-- ==== Proofs: Started ====
section
/-! PROOFS. The state that a start-up leaves: what it loads, finds bad, reports and writes, and the blocks behind its event
(R18, R40, R63, R76, R94, R99, R117, R155, R165, R174, R175, R177). -/

namespace Sys2Proof.StepProofs

open Machine

/-! ### What is loaded -/

section
variable (bad : AreaSet) (s : State)

theorem goodContent_settings : (goodContent bad s).settings.getD Settings.default =
    if bad.settings then Settings.default else s.store.held.settings.getD Settings.default := by
  show (if bad.settings then none else s.store.held.settings).getD _ = _
  split <;> rfl

theorem loadedFleet_eq : loadedFleet bad s = if bad.fleet then Fleet.default else s.store.held.fleet.getD Fleet.default := by
  show (if bad.fleet then none else s.store.held.fleet).getD _ = _
  split <;> rfl

theorem goodContent_account : (goodContent bad s).account.getD Account.default =
    if bad.account then Account.default else s.store.held.account.getD Account.default := by
  show (if bad.account then none else s.store.held.account).getD _ = _
  split <;> rfl

theorem goodContent_clock : (goodContent bad s).clock = if bad.clock then none else s.store.held.clock := rfl

theorem checkedHall_eq : checkedHall bad s = { loadedHall bad s with work := { EventWork.empty with
    faults := notTakenEntries .storeBad bad (loadedHall bad s).now } } :=
  (logNotTaken_eq .storeBad bad (loadedHall bad s)).trans rfl

theorem loadedHall_now : (loadedHall bad s).now = resumeMinute (goodContent bad s).clock (loadedStamps bad s) := rfl

theorem fresh_checked : Fresh ((goodContent bad s).settings.getD Settings.default) (loadedFleet bad s) (loadedAccount bad s)
    (resumeMinute (goodContent bad s).clock (loadedStamps bad s)) (checkedHall bad s) := by
  rw [checkedHall_eq]
  exact fresh_loaded _ _ _ _ _ _ rfl

theorem checkedHall_faults : (checkedHall bad s).work.faults =
    notTakenEntries .storeBad bad (resumeMinute (goodContent bad s).clock (loadedStamps bad s)) := by
  rw [checkedHall_eq, loadedHall_now]

end

/-- The areas found bad, as the statement gives them. -/
theorem badAt_eq (cause : StartCause) (damaged : AreaSet) (s : State) : badAt cause damaged s =
    (damaged.union (if cause = .powerUp then (s.store.current.map CurrentWrite.areas).getD AreaSet.none else AreaSet.none)).union
      ⟨s.store.held.settings.isNone, s.store.held.fleet.isNone, s.store.held.account.isNone, s.store.held.clock.isNone⟩ := by
  have cut : cutShort cause s.store =
      if cause = .powerUp then (s.store.current.map CurrentWrite.areas).getD AreaSet.none else AreaSet.none := by
    unfold cutShort
    cases cause with
    | powerUp => cases s.store.current <;> rfl
    | resetnRelease => rfl
  unfold badAt badAreas
  rw [cut]

/-! ### The resume minute -/

theorem foldl_max_mem (l : List Nat) (n : Nat) : l.foldl max n ∈ n :: l := by
  induction l generalizing n with
  | nil => exact .head _
  | cons a l ih =>
    rcases List.mem_cons.1 (ih (max n a)) with top | later
    · rw [List.foldl_cons, top]
      rcases max_choice n a with e | e
      · rw [e]
        exact .head _
      · rw [e]
        exact .tail _ (.head _)
    · exact .tail _ (.tail _ later)

theorem resumeMinute_mem (clock : Option Nat) (stamps : List Nat) : resumeMinute clock stamps ∈ clock.getD 0 :: stamps :=
  foldl_max_mem _ _

theorem le_resumeMinute {clock : Option Nat} {stamps : List Nat} {x : Nat} (mem : x ∈ clock.getD 0 :: stamps) :
    x ≤ resumeMinute clock stamps := by
  obtain ⟨first, later⟩ := le_foldl_max stamps (clock.getD 0)
  rcases List.mem_cons.1 mem with rfl | mem
  · exact first
  · exact later x mem

theorem resumeSource_eq (clock : Option Nat) (stamps : List Nat) : resumeSource clock stamps = match clock with
    | none => if stamps = [] then .zero else .stamps
    | some x => if resumeMinute clock stamps = x then .clock else .stamps := by
  cases clock with
  | none => cases stamps <;> rfl
  | some x => cases stamps <;> rfl

/-! ### The fault log and the conditions -/

theorem logged_all {log made : List FaultEntry} (room : log.length + made.length ≤ 16) :
    made.foldl logEntry log = log ++ made := by
  induction made generalizing log with
  | nil => exact (List.append_nil log).symm
  | cons e made ih =>
    rw [List.length_cons] at room
    have entry : logEntry log e = log ++ [e] := if_pos (by omega)
    rw [List.foldl_cons, entry, ih (by rw [List.length_append, List.length_singleton]; omega), List.append_assoc]
    rfl

theorem met_clear (cause : Bool) : Raised.clear.meet cause = if cause then .active else .clear := by
  cases cause <;> rfl

/-! ### The badge limit -/

theorem foldl_list_max (l : List Badge) (n : Nat) :
    n ≤ l.foldl (fun n b => max n b.hires.length) n ∧
      (∀ b ∈ l, b.hires.length ≤ l.foldl (fun n b => max n b.hires.length) n) ∧
      (l.foldl (fun n b => max n b.hires.length) n = n ∨
        ∃ b ∈ l, l.foldl (fun n b => max n b.hires.length) n = b.hires.length) := by
  have map : l.foldl (fun n b => max n b.hires.length) n = (l.map fun b => b.hires.length).foldl max n := by
    rw [List.foldl_map]
  obtain ⟨least, bound⟩ := le_foldl_max (l.map fun b => b.hires.length) n
  rw [map]
  refine ⟨least, fun b mem => bound _ (List.mem_map_of_mem mem), ?_⟩
  rcases List.mem_cons.1 (foldl_max_mem (l.map fun b => b.hires.length) n) with same | held
  · exact .inl same
  · obtain ⟨b, mem, e⟩ := List.mem_map.1 held
    exact .inr ⟨b, mem, e.symm⟩

theorem longestList_limit (own : Fleet) (n : Nat) : n ≤ max n own.longestList ∧
    (∀ b ∈ own.badges, b.hires.length ≤ max n own.longestList) ∧
    (max n own.longestList = n ∨ ∃ b ∈ own.badges, max n own.longestList = b.hires.length) := by
  obtain ⟨-, bound, attained⟩ := foldl_list_max own.badges 0
  refine ⟨Nat.le_max_left _ _, fun b mem => (bound b mem).trans (Nat.le_max_right _ _), ?_⟩
  rcases Nat.le_total own.longestList n with le | le
  · exact .inl (Nat.max_eq_left le)
  · rw [Nat.max_eq_right le]
    rcases attained with none | some
    · refine .inl (Nat.le_antisymm ?_ le)
      rw [show own.longestList = 0 from none]
      exact Nat.zero_le n
    · exact .inr some

/-! ### The badges -/

theorem receiverOverdue_badges (x : Hire) (h : Hall) : (receiverOverdue x h).fleet.badges = h.fleet.badges := by
  unfold receiverOverdue
  split <;> rfl

theorem takeDue_badges (h : Hall) (n : Nat) : (takeDue n h).fleet.badges = h.fleet.badges := by
  unfold takeDue
  split
  · split
    · rw [makeOverdue_fleet, receiverOverdue_badges]
      rfl
    · rfl
  · rfl

theorem takeAllDue_badges (h : Hall) : (takeAllDue h).fleet.badges = h.fleet.badges := by
  unfold takeAllDue
  have pass (l : List Hire) (k : Hall) : (l.foldl (fun h x => takeDue x.number h) k).fleet.badges = k.fleet.badges := by
    induction l generalizing k with
    | nil => rfl
    | cons x l ih => rw [List.foldl_cons, ih, takeDue_badges]
  exact pass _ h

/-! ### The bus chooses -/

/-- What of a console the bus does not set stands. -/
theorem rested_keeps {α : Type} (p : ConsoleRun → α) (same : ∀ r : ConsoleRun, p { r with probeDue := false } = p r) (h : Hall)
    (a : ConsoleId) : p h.rested.consoles[a] = p h.consoles[a] := by
  show p (chooseExchange h).consoles[a] = _
  unfold chooseExchange
  split
  · rfl
  · split
    · exact vmod_keeps p _ _ _ _ same
    · split <;> rfl

theorem rested_lists (h : Hall) : h.rested.waitLists = h.waitLists ∧ h.rested.booths = h.booths ∧ h.rested.lowFired = h.lowFired ∧
    h.rested.meters = h.meters ∧ h.rested.levels = h.levels := by
  have frame := rested_frame h
  generalize h.rested = k at frame
  rw [frame]
  exact ⟨rfl, rfl, rfl, rfl, rfl⟩

/-! ### The blocks as they stand rebuilt -/

theorem takeAllDue_none {h : Hall} (none : ∀ x ∈ h.fleet.hires, x.overdue = true ∨ ∀ d, x.due = some d → h.now < d) :
    takeAllDue h = h := by
  have nothing : (h.fleet.hires.filter fun x => !x.overdue && x.due.any fun d => d ≤ h.now) = [] := by
    refine List.filter_eq_nil_iff.2 fun x mem late => ?_
    obtain ⟨fresh, due⟩ := Bool.and_eq_true_iff.1 late
    rcases none x mem with done | early
    · rw [done] at fresh
      cases fresh
    · obtain ⟨d, at_, reached⟩ := (Option.any_eq_true _ _).1 due
      exact absurd (early d at_) (Nat.not_lt.2 (of_decide_eq_true reached))
  unfold takeAllDue Hall.dueHires
  rw [nothing]
  rfl

/-- The pinned ENABLED channels of the settings, in channel order. -/
def pinnedIn (set : Settings) : List ChannelId :=
  (ids 32).filter fun c => c != 0 && set.channels[c].enabled && set.channels[c].pinned

theorem pinnedOf_eq (h : Hall) : pinnedOf h = pinnedIn h.settings := rfl

theorem some_iff {b : Bool} {m : Nat} : (if b then some m else none) = some m ↔ b = true := by
  cases b <;> simp

theorem none_or_some (b : Bool) (m : Nat) : (if b then some m else none) = none ∨ (if b then some m else none) = some m := by
  cases b
  · exact .inl rfl
  · exact .inr rfl

section
variable {bad : AreaSet} {set : Settings} {own : Fleet} {acc : Account} {m : Nat} {h : Hall} (fresh : Fresh set own acc m h)
include fresh

theorem Fresh.rebuilt_badges : (rebuild bad h).fleet.badges = own.badges := by
  have frame := recounted_recounted bad h
  have kept : (recounted bad h).fleet.badges = h.fleet.badges := by
    unfold Recounted at frame
    rw [frame]
  rw [rebuild_prepared, takeAllDue_badges, fresh.prepared_fleet, kept, fresh.fleet]

theorem Fresh.rebuilt_settings : (rebuild bad h).settings =
    { set with hall := { set.hall with badgeLimit := max set.hall.badgeLimit own.longestList } } := by
  rw [fresh.begun.settings, fresh.settings, fresh.fleet]

theorem Fresh.rebuilt_account : (rebuild bad h).account = { acc with
    peakHires := if bad.account then (recounted bad h).fleet.hires.length else acc.peakHires } := by
  have eq := (fresh.begun (bad := bad)).eq
  generalize rebuild bad h = k at eq ⊢
  rw [eq, ← fresh.account]

theorem Fresh.rebuilt_clock : (rebuild bad h).clock = ⟨m, true, 0, 0⟩ := by
  have eq := (fresh.begun (bad := bad)).eq
  generalize rebuild bad h = k at eq ⊢
  rw [eq]
  exact fresh.clock

/-- What stands as it was loaded. -/
theorem Fresh.rebuilt_rest : (rebuild bad h).waitLists = h.waitLists ∧ (rebuild bad h).booths = h.booths ∧
    (rebuild bad h).consoles = h.consoles ∧ (rebuild bad h).link.slots = h.link.slots ∧
    (rebuild bad h).link.windows = h.link.windows ∧ (rebuild bad h).work.faults = h.work.faults := by
  have eq := (fresh.begun (bad := bad)).eq
  generalize rebuild bad h = k at eq ⊢
  rw [eq]
  exact ⟨rfl, rfl, rfl, rfl, rfl, rfl⟩

theorem Fresh.recounted_books : (recounted bad h).settings = set ∧ (recounted bad h).now = m ∧
    (recounted bad h).account.session = acc.session ∧ (recounted bad h).account.day = acc.day := by
  have frame := recounted_recounted bad h
  unfold Recounted at frame
  generalize recounted bad h = g at frame ⊢
  rw [frame, ← fresh.settings, ← fresh.account, ← fresh.now]
  exact ⟨rfl, rfl, rfl, rfl⟩

theorem Fresh.recounted_service (c : ChannelId) : (recounted bad h).serviceOf c =
    if c = 0 then .live else if set.channels[c].enabled = false then .off
    else if set.channels[c].fill then .fill else .silent := by
  unfold Hall.serviceOf
  rw [fresh.recounted_run, fresh.recounted_books.1]
  rfl

theorem Fresh.recounted_running : (recounted bad h).running = true ↔ ∃ n k, acc.session = .running n k := by
  unfold Hall.running
  rw [fresh.recounted_books.2.2.1]
  cases acc.session <;> simp

/-- What a channel's run says of its spells behind a start-up (R18). -/
theorem Fresh.rebuilt_channel (c : ChannelId) :
    (rebuild bad h).channels[c].feeder = none ∧
      (rebuild bad h).channels[c].peak = (rebuild bad h).channels[c].demand ∧
      (rebuild bad h).channels[c].service = (if c = 0 then .live else if set.channels[c].enabled = false then .off
        else if set.channels[c].fill then .fill else .silent) ∧
      (rebuild bad h).channels[c].servedSince = none ∧
      ((rebuild bad h).channels[c].outageSince = some m ↔
        set.channels[c].enabled = true ∧ ∃ n k, acc.session = .running n k) ∧
      ((rebuild bad h).channels[c].outageSince = none ∨ (rebuild bad h).channels[c].outageSince = some m) ∧
      ((rebuild bad h).channels[c].fillSince = some m ↔
        (rebuild bad h).channels[c].service = .fill ∧ acc.day.isOpen = true) ∧
      ((rebuild bad h).channels[c].fillSince = none ∨ (rebuild bad h).channels[c].fillSince = some m) := by
  obtain ⟨settings, now, -, day⟩ := fresh.recounted_books (bad := bad)
  have running := fresh.recounted_running (bad := bad)
  have service := fresh.recounted_service (bad := bad) c
  have isOpen : (recounted bad h).dayOpen = acc.day.isOpen := congrArg DayRecord.isOpen day
  rw [fresh.begun.run]
  unfold startedRun
  rw [settings, now, isOpen, fresh.recounted_run, service]
  refine ⟨rfl, rfl, rfl, rfl, ?_, none_or_some _ m, ?_, none_or_some _ m⟩
  · rw [some_iff, Bool.and_eq_true_iff, running]
  · constructor
    · intro begun
      obtain ⟨both, day⟩ := Bool.and_eq_true_iff.1 (some_iff.1 begun)
      exact ⟨beq_iff_eq.1 (Bool.and_eq_true_iff.1 both).2, day⟩
    · rintro ⟨filled, day⟩
      refine some_iff.2 (Bool.and_eq_true_iff.2 ⟨Bool.and_eq_true_iff.2 ⟨?_, beq_iff_eq.2 filled⟩, day⟩)
      dsimp only at filled
      by_cases zero : c = 0
      · rw [if_pos zero] at filled
        cases filled
      · rw [if_neg zero] at filled
        cases on : set.channels[c].enabled with
        | true => exact Bool.and_eq_true_iff.2 ⟨bne_iff_ne.2 zero, rfl⟩
        | false =>
          rw [on, if_pos rfl] at filled
          cases filled

theorem Fresh.rebuilt_air (room : (pinnedIn set).length ≤ 15) :
    (rebuild bad h).air.waiting = [] ∧ ∀ k : CarrierId, (rebuild bad h).air.carriers[k] =
      filledWith (pinnedIn set) m k := by
  have filled := (fresh.begun (bad := bad)).filled
  rw [pinnedOf_eq, fresh.settings, fresh.now] at filled
  exact filled room

theorem Fresh.rebuilt_posts (none : ∀ x ∈ own.hires, x.overdue = true ∨ ∀ d, x.due = some d → m < d)
    (room : (pinnedIn set).length ≤ 15) :
    (rebuild bad h).work.posts = [] := by
  have early : ∀ x ∈ (prepared (recounted bad h)).fleet.hires, x.overdue = true ∨
      ∀ d, x.due = some d → (prepared (recounted bad h)).now < d := by
    intro y mem
    rw [fresh.prepared_fleet] at mem
    obtain ⟨x, mx, due, done⟩ := recounted_due mem
    rw [fresh.fleet] at mx
    rw [due, done, fresh.prepared_now]
    exact none x mx
  have frame := recounted_frame bad h
  have pinned : (pinnedOf (recounted bad h)).length ≤ 15 := by
    rw [pinnedOf_eq, fresh.recounted_books.1]
    exact room
  have posts : (recounted bad h).work.posts = h.work.posts := by rw [frame]
  rw [rebuild_prepared, takeAllDue_none early, prepared_posts fresh.cold pinned, posts, fresh.posts]

theorem Fresh.liveCount : h.liveCount = 0 := by
  unfold Hall.liveCount
  rw [List.filter_eq_nil_iff.2]
  · rfl
  · intro a _
    rw [fresh.console]
    unfold ConsoleRun.started
    split <;> decide

theorem Fresh.rebuilt_levels : (rebuild bad h).levels =
    ⟨0, (recounted bad h).fleet.hires.length, (rebuild bad h).inUse, (rebuild bad h).unservedCount⟩ := by
  rw [fresh.begun.levels, fresh.liveCount]

theorem Fresh.rebuilt_next (i : MeterId) : (rebuild bad h).meters[i].next =
    if set.meters[i].enabled = true ∧ 0 < set.meters[i].threshold then some (m + set.meters[i].window) else none := by
  rw [fresh.begun.next]
  unfold freshClose
  rw [fresh.settings, fresh.now]

theorem Fresh.rebuilt_generation : (rebuild bad h).link.generation = 1 := by
  have moved := rebuild_refleeted bad h
  have kept : (rebuild bad h).link = (prepared (recounted bad h)).link := by
    unfold Refleeted at moved
    rw [moved]
  have frame := recounted_frame bad h
  have link : (recounted bad h).link = h.link := by rw [frame]
  rw [kept]
  exact prepared_generation (by rw [link, fresh.content]) (by rw [link, fresh.generation])

theorem Fresh.console_started (a : ConsoleId) :
    (rebuild bad h).rested.consoles[a].state = (if set.consoleBooth[a] = none then .absent else .idle) ∧
      (rebuild bad h).rested.consoles[a].output = .a ∧ (rebuild bad h).rested.consoles[a].relaySel = none ∧
      (rebuild bad h).rested.consoles[a].isolation = 0 := by
  obtain ⟨-, -, consoles, -⟩ := fresh.rebuilt_rest (bad := bad)
  rw [rested_keeps ConsoleRun.state (fun _ => rfl), rested_keeps ConsoleRun.output (fun _ => rfl),
    rested_keeps ConsoleRun.relaySel (fun _ => rfl), rested_keeps ConsoleRun.isolation (fun _ => rfl), consoles, fresh.console]
  refine ⟨?_, rfl, rfl, rfl⟩
  unfold ConsoleRun.started
  cases set.consoleBooth[a] <;> rfl

end

/-! ### The state behind the event -/

/-- `t` is what a start-up that finds the areas `bad` bad leaves of `s`. -/
structure Awoken (bad : AreaSet) (s t : State) : Prop where
  hall : t.hall = (rebuild bad (checkedHall bad s)).rested
  notice : t.notice = noticeEnd (rebuild bad (checkedHall bad s)) bad ⟨[], Conditions.none, [], false⟩
  failed : t.store.failed = bad
  rewrite : t.store.rewrite = ⟨none, none, none, none⟩
  awaits : t.store.awaits (bad.union (changedAreas bad (loadedHall bad s) (rebuild bad (checkedHall bad s)))) .startUp
  start : t.start = startReport bad (goodContent bad s).clock (loadedStamps bad s) (loadedHall bad s)
    (rebuild bad (checkedHall bad s))
  levels : t.resetn = false ∧ t.pfw = s.pfw ∧ t.pending = s.pending ∧ t.out = s.out
  ports : t.listening = false ∧ t.port = ⟨false, false, []⟩ ∧ t.desks = Vector.replicate 4 LinePort.idle

/-- A start-up's own write keeps no port busy. -/
theorem finish_startUp (s : State) (areas : AreaSet) :
    (finish (some (areas, .startUp)) s).port = s.port ∧ (finish (some (areas, .startUp)) s).desks = s.desks ∧
      (finish (some (areas, .startUp)) s).listening = s.listening ∧ (finish (some (areas, .startUp)) s).pfw = s.pfw ∧
      (finish (some (areas, .startUp)) s).pending = s.pending ∧ (finish (some (areas, .startUp)) s).start = s.start :=
  ⟨rfl, rfl, rfl, rfl, rfl, rfl⟩

theorem startState_rest (bad : AreaSet) (s : State) :
    (startState bad s).port = ⟨false, false, []⟩ ∧ (startState bad s).desks = Vector.replicate 4 LinePort.idle ∧
      (startState bad s).listening = false ∧ (startState bad s).pfw = s.pfw ∧ (startState bad s).pending = s.pending ∧
      (startState bad s).resetn = false ∧
      (startState bad s).start = startReport bad (goodContent bad s).clock (loadedStamps bad s) (loadedHall bad s)
        (rebuild bad (checkedHall bad s)) := by
  dsimp only [startState]
  exact ⟨rfl, rfl, rfl, rfl, rfl, rfl, rfl⟩

theorem awoken_startWith (bad : AreaSet) (s : State) : Awoken bad s (startWith bad s) := by
  rw [startWith_eq]
  have ended := ended_finish (startWrite bad s) (startState bad s)
  obtain ⟨port, desks, listening, pfw, pending, start⟩ := finish_startUp (startState bad s)
    (bad.union (changedAreas bad (loadedHall bad s) (rebuild bad (checkedHall bad s))))
  obtain ⟨port', desks', listening', pfw', pending', resetn', start'⟩ := startState_rest bad s
  have out := finish_out (s := startState bad s) (startWrite bad s)
  obtain ⟨-, failed, rewrite⟩ := storeEnd_frame (startWrite bad s) (startState bad s).hall.work.asks (startState bad s).hall
    (startState bad s).store
  have waits := placeWrites_awaits (bad.union (changedAreas bad (loadedHall bad s) (rebuild bad (checkedHall bad s)))) .startUp
    (startState bad s).hall.work.asks (startState bad s).hall (startState bad s).store
  refine ⟨ended.hall.trans ?_, ended.notice.trans ?_, ?_, ?_, ?_, start.trans start',
    ⟨ended.resetn.trans resetn', pfw.trans pfw', pending.trans pending', out.trans (startState_out s bad)⟩,
    ⟨listening.trans listening', port.trans port', desks.trans desks'⟩⟩
  · rw [startState_hall]
  · rw [startState_hall, startState_notice, startState_store]
  · rw [ended.store, failed, startState_store]
  · rw [ended.store, rewrite, startState_store]
  · rw [ended.store]
    exact waits

theorem startUp_taken {s : State} {cause : StartCause} (damaged : AreaSet) (live : cause = .resetnRelease → s.resetn = true) :
    exec (.startUp cause damaged) s = .next (startWith (badAt cause damaged s) s.opened) := by
  show execStartUp cause damaged s = _
  unfold execStartUp
  refine if_neg fun ⟨release, off⟩ => ?_
  rw [live release] at off
  cases off

section
variable {bad : AreaSet} {s t : State} (woken : Awoken bad s t)
include woken

theorem Awoken.holds (present : ∀ a, bad.has a = false → Present s a) (own : t = startWith bad s) (a : Area) (other : a ≠ .clock) :
    t.store.held.holds t.hall a ∨ t.written a := by
  have through := started_through present (own ▸ startWith_eq bad s ▸ ended_finish _ _ : Ended _ _ t) a
  rcases through with written | ⟨-, held | ⟨-, late⟩⟩ | ⟨clock, -⟩
  · exact .inr written
  · exact .inl held
  · rw [woken.rewrite] at late
    cases a <;> exact absurd rfl late
  · exact absurd clock other

theorem Awoken.own_write : ∃ areas, t.store.awaits areas .startUp ∧ areas.account = true ∧
    ∀ a : Area, bad.has a = true → areas.has a = true := by
  refine ⟨_, woken.awaits, ?_, fun a found => ?_⟩
  · exact (union_has _ _ .account).trans (Bool.or_eq_true_iff.2 (.inr (changedAreas_account _ _ _)))
  · rw [union_has, found, Bool.true_or]

end

theorem noticeEnd_first (k : Hall) (failed : AreaSet) :
    (noticeEnd k failed ⟨[], Conditions.none, [], false⟩).log = k.work.faults.foldl logEntry [] ∧
      (noticeEnd k failed ⟨[], Conditions.none, [], false⟩).queue = k.work.posts.foldl deliver [] ∧
      (noticeEnd k failed ⟨[], Conditions.none, [], false⟩).conds = syncConditions k failed Conditions.none :=
  ⟨rfl, rfl, rfl⟩

/-- Of the conditions none stands before. -/
theorem syncConditions_first (k : Hall) (failed : AreaSet) :
    (syncConditions k failed Conditions.none).hallDark = (if k.darkCause then .active else .clear) ∧
      (syncConditions k failed Conditions.none).storeFault = (if failed != AreaSet.none then .active else .clear) ∧
      (syncConditions k failed Conditions.none).clockStale = (if k.clock.stale then .active else .clear) :=
  ⟨met_clear _, met_clear _, met_clear _⟩

/-- The log and the conditions behind a start-up (R165, R174, log entry 53). -/
theorem Fresh.notices {bad : AreaSet} {set : Settings} {own : Fleet} {acc : Account} {m : Nat} {h : Hall}
    (fresh : Fresh set own acc m h) (faults : h.work.faults = notTakenEntries .storeBad bad m) {u : NoticeUnit}
    (ends : u = noticeEnd (rebuild bad h) bad ⟨[], Conditions.none, [], false⟩) :
    u.log = (allAreas.filter fun a => bad.has a).map (fun a => ⟨m, .storeBad, a.number⟩) ∧
      u.queue = (rebuild bad h).work.posts.foldl deliver [] ∧
      u.conds.clockStale = .active ∧ u.conds.storeFault = (if bad = AreaSet.none then .clear else .active) ∧
      u.conds.hallDark = .clear := by
  obtain ⟨-, -, -, slots, windows, made⟩ := fresh.rebuilt_rest (bad := bad)
  obtain ⟨log, queue, conds⟩ := noticeEnd_first (rebuild bad h) bad
  rw [← ends] at log queue conds
  obtain ⟨dark, fault, stale⟩ := syncConditions_first (rebuild bad h) bad
  rw [conds, dark, fault, stale]
  refine ⟨?_, queue, ?_, ?_, ?_⟩
  · rw [log, made, faults, logged_all (by rw [List.length_nil, Nat.zero_add]; exact notTakenEntries_few _ _ _), List.nil_append]
    rfl
  · rw [fresh.rebuilt_clock, if_pos rfl]
  · by_cases none : bad = AreaSet.none
    · rw [if_pos none, none, if_neg (by decide)]
    · rw [if_neg none, if_pos (bne_iff_ne.2 none)]
  · unfold Hall.darkCause
    rw [windows, fresh.windows]
    exact if_neg (by rw [Bool.and_eq_true_iff]; exact fun both => absurd both.2 (by decide))

/-- The fleet behind a start-up, where it was lawful in the store (R18, R99, R112, R117). -/
theorem Fresh.fleet_started {bad : AreaSet} {set : Settings} {own : Fleet} {acc : Account} {m : Nat} {h : Hall}
    (fresh : Fresh set own acc m h) (lawful : own.Lawful) :
    (∀ n, (rebuild bad h).rested.hire n = (own.hires.find? fun x => x.number == n).map (startedHire bad set acc m)) ∧
      (∀ r ∈ own.receivers, (rebuild bad h).rested.receiver r.serial = some (startedReceiver own m r)) ∧
      (rebuild bad h).rested.fleet.receivers.length = own.receivers.length ∧
      (rebuild bad h).rested.fleet.hires.length = own.hires.length ∧
      (∀ w : WindowId, (rebuild bad h).rested.lowFired[w] =
        decide ((rebuild bad h).rested.stockCount w < set.windows[w].lowStock)) ∧
      (bad.account = true → (rebuild bad h).rested.account.peakHires = (rebuild bad h).rested.fleet.hires.length) ∧
      (∀ c : ChannelId, (rebuild bad h).rested.channels[c].demand =
        ((rebuild bad h).rested.fleet.hires.filter fun y => y.preset == c).length) ∧
      (rebuild bad h).rested.levels.hires = (rebuild bad h).rested.fleet.hires.length := by
  obtain ⟨-, -, lowFired, -, levels⟩ := rested_lists (rebuild bad h)
  obtain ⟨receivers, hires, before⟩ := fresh.rebuilt_lengths (bad := bad) lawful
  have counted := (fresh.rebuilt_counted (bad := bad) lawful).2
  have ordered : h.fleet.ordered := by rw [fresh.fleet]; exact lawful.ordered
  rw [rested_fleet, rested_account, rested_channels, lowFired, levels]
  refine ⟨fun n => ?_, fun r mem => ?_, receivers, hires, fun w => ?_, fun lost => ?_, counted, ?_⟩
  · have marks : (fun x => dueMarked m (recountedHire bad h x)) = startedHire bad set acc m := funext fun x => fresh.hire_started x
    rw [hire_congr (rested_fleet _), fresh.rebuilt_hire lawful, marks]
  · have found : (own.receivers.find? fun x => x.serial == r.serial) = some r := by
      have found := receiver_find ordered (by rw [fresh.fleet]; exact mem)
      rwa [Hall.receiver, fresh.fleet] at found
    have kept : (rebuild bad h).rested.receiver r.serial = (rebuild bad h).receiver r.serial := by
      unfold Hall.receiver
      rw [rested_fleet]
    rw [kept, fresh.rebuilt_receiver lawful, found, Option.map_some, fresh.receiver_started lawful mem]
  · rw [fresh.begun.low, fresh.settings, ← fresh.rebuilt_stock lawful]
    unfold Hall.stockCount
    rw [rested_fleet]
  · rw [fresh.rebuilt_account, hires]
    exact (if_pos lost).trans before
  · rw [fresh.rebuilt_levels, hires]
    exact before

end Sys2Proof.StepProofs
end

-- ==== Proofs: StartUpHolds ====
section
/-! PROOFS. The statement of start-up, from what the state behind it is. -/

namespace Sys2Proof.StepProofs

open Machine

section
variable {bad : AreaSet} {set : Settings} {own : Fleet} {acc : Account} {m : Nat} {h : Hall} (fresh : Fresh set own acc m h)
include fresh

/-- The settings and the badges behind a start-up, with the badge limit raised to the longest list (R117). -/
theorem Fresh.retained : (rebuild bad h).rested.settings =
      { set with hall := { set.hall with badgeLimit := (rebuild bad h).rested.settings.hall.badgeLimit } } ∧
    set.hall.badgeLimit ≤ (rebuild bad h).rested.settings.hall.badgeLimit ∧
    (∀ b ∈ own.badges, b.hires.length ≤ (rebuild bad h).rested.settings.hall.badgeLimit) ∧
    ((rebuild bad h).rested.settings.hall.badgeLimit = set.hall.badgeLimit ∨
      ∃ b ∈ own.badges, (rebuild bad h).rested.settings.hall.badgeLimit = b.hires.length) ∧
    (rebuild bad h).rested.account = { acc with peakHires := (rebuild bad h).rested.account.peakHires } ∧
    (bad.account = false → (rebuild bad h).rested.account.peakHires = acc.peakHires) ∧
    (rebuild bad h).rested.fleet.badges = own.badges := by
  obtain ⟨least, bound, attained⟩ := longestList_limit own set.hall.badgeLimit
  rw [rested_settings, rested_account, rested_fleet, fresh.rebuilt_settings, fresh.rebuilt_account, fresh.rebuilt_badges]
  refine ⟨rfl, least, bound, attained, rfl, fun kept => ?_, rfl⟩
  rw [kept]
  rfl

/-- A channel and its wait list behind a start-up. -/
theorem Fresh.channel_started (c : ChannelId) :
    (rebuild bad h).rested.channels = (rebuild bad h).channels ∧ (rebuild bad h).rested.waitLists[c] = [] := by
  obtain ⟨lists, -⟩ := rested_lists (rebuild bad h)
  obtain ⟨kept, -⟩ := fresh.rebuilt_rest (bad := bad)
  rw [lists, kept]
  exact ⟨rested_channels _, fresh.waitList c⟩

/-- The carriers behind a start-up: the pinned channels take carriers 1 upwards (R94). -/
theorem Fresh.air_started (room : (pinnedIn set).length ≤ 15) : (rebuild bad h).rested.air.waiting = [] ∧
    ∀ k : CarrierId, (rebuild bad h).rested.air.carriers[k] = if k = 0 then .onAir 0 m
      else match (pinnedIn set)[k.val - 1]? with
        | some c => .onAir c m
        | none => .free := by
  obtain ⟨none, filled⟩ := fresh.rebuilt_air (bad := bad) room
  rw [rested_air]
  refine ⟨none, fun k => ?_⟩
  rw [filled]
  by_cases zero : k = 0
  · rw [if_pos zero]
    exact if_pos zero
  · rw [if_neg zero]
    exact filledWith_other _ _ zero

/-- The levels, the meters, the link and the booths behind a start-up (R63, R76, R94, R155). -/
theorem Fresh.rest_started :
    (rebuild bad h).rested.levels = ⟨0, (rebuild bad h).rested.levels.hires, (rebuild bad h).rested.inUse,
      (rebuild bad h).rested.unservedCount⟩ ∧
    (∀ i : MeterId, (rebuild bad h).rested.meters[i].next =
      if set.meters[i].enabled = true ∧ 0 < set.meters[i].threshold then some (m + set.meters[i].window) else none) ∧
    (rebuild bad h).rested.link.generation = 1 ∧
    (∀ e : EmitterId, (rebuild bad h).rested.link.slots[e] = ⟨.absent, 0, false⟩) ∧
    ∀ b : BoothId, (rebuild bad h).rested.booths[b] = ⟨none, [], none, none, none⟩ := by
  obtain ⟨-, booths, -, meters, levels⟩ := rested_lists (rebuild bad h)
  obtain ⟨-, booths', -, slots, -⟩ := fresh.rebuilt_rest (bad := bad)
  have inUse : (rebuild bad h).rested.inUse = (rebuild bad h).inUse := inUse_congr (by rw [rested_air])
  have unserved : (rebuild bad h).rested.unservedCount = (rebuild bad h).unservedCount :=
    unservedCount_congr (rested_settings _) (rested_channels _)
  rw [levels, meters, rested_link, booths, booths', slots, inUse, unserved, fresh.rebuilt_levels]
  exact ⟨rfl, fresh.rebuilt_next, fresh.rebuilt_generation, fresh.slot, fresh.booth⟩

end

/-- What READ START reports (R177). -/
theorem startReport_says {bad : AreaSet} {set : Settings} {own : Fleet} {h : Hall} {clock : Option Nat} {stamps : List Nat} {before : Hall} (settings : before.settings = set)
    (fleet : before.fleet = own) {r : StartReport} (e : r = startReport bad clock stamps before (rebuild bad h)) :
    (∀ a, r.good.has a = !bad.has a) ∧ r.resume = resumeMinute clock stamps ∧ r.dayZero = dayZero bad own ∧
      r.moved = (own.hires.filter (strayOf bad set)).length ∧
      r.limitRaise = (if (rebuild bad h).rested.settings.hall.badgeLimit = set.hall.badgeLimit then 0
        else (rebuild bad h).rested.settings.hall.badgeLimit) ∧
      r.source = resumeSource clock stamps := by
  have moved : (if bad.settings then before.strayHires.length else 0) = (own.hires.filter (strayOf bad set)).length := by
    unfold Hall.strayHires strayOf
    rw [settings, fleet]
    cases bad.settings with
    | true => rfl
    | false => exact (congrArg List.length (List.filter_eq_nil_iff.2 fun x _ => by rw [Bool.false_and]; decide)).symm
  rw [rested_settings]
  generalize rebuild bad h = k at e ⊢
  rw [e, ← settings, ← fleet]
  refine ⟨fun a => ?_, rfl, rfl, ?_, rfl, rfl⟩
  · refine (diff_has _ _ a).trans ?_
    cases a <;> rfl
  · rw [settings, fleet]
    exact moved

/-- Settles O59: the areas that are not bad are loaded, the blocks rebuilt from them alone, and the event's end writes,
reports and chooses. -/
theorem startUp : Obligations.StartUp := by
  intro s cause damaged live lacking cut bad settings fleet account clock stamps stray pinned running isOpen
  have found : badAt cause damaged s = bad := badAt_eq cause damaged s
  have present := badAt_present cause damaged s.opened
  have taken := startUp_taken damaged live
  rw [show badAt cause damaged s.opened = bad from found] at present
  rw [found] at taken
  have set : (goodContent bad s.opened).settings.getD Settings.default = settings := goodContent_settings bad s.opened
  have own : loadedFleet bad s.opened = fleet := loadedFleet_eq bad s.opened
  have acc : loadedAccount bad s.opened = account.poweredUp (dayZero bad fleet) := by
    unfold loadedAccount
    rw [own, goodContent_account]
    rfl
  have stood : (goodContent bad s.opened).clock = clock := goodContent_clock bad s.opened
  have stamped : loadedStamps bad s.opened = stamps := by
    unfold loadedStamps
    rw [own, acc]
    rfl
  have fresh := fresh_checked bad s.opened
  have faults := checkedHall_faults bad s.opened
  have woken := awoken_startWith bad s.opened
  have holds := woken.holds present rfl
  have loadedSet : (loadedHall bad s.opened).settings = settings := set
  have loadedOwn : (loadedHall bad s.opened).fleet = fleet := own
  have start := woken.start
  rw [set, own, acc, stood, stamped] at fresh
  rw [stood, stamped] at faults start
  have notices := fresh.notices faults woken.notice
  have hall := woken.hall
  have reported := startReport_says loadedSet loadedOwn start
  obtain ⟨awake, pfw, pending, out⟩ := woken.levels
  obtain ⟨listening, port, desks⟩ := woken.ports
  have failed := woken.failed
  have awaits := woken.own_write
  clear start woken
  generalize startWith bad s.opened = t at *
  generalize checkedHall bad s.opened = h at *
  obtain ⟨good, resume, zero, moved, limit, source⟩ := reported
  obtain ⟨log, queue, staleClock, fault, dark⟩ := notices
  obtain ⟨limited, least, bound, attained, books, peak, badges⟩ := fresh.retained (bad := bad)
  obtain ⟨levels, next, generation, slots, booths⟩ := fresh.rest_started (bad := bad)
  rw [← hall] at limited least bound attained books peak badges levels next generation slots booths limit
  refine ⟨t, resumeMinute clock stamps, taken, awake, listening, pfw, pending, out, port, fun d => ?_, ?_,
    resumeMinute_mem clock stamps, fun x mem => le_resumeMinute mem, log, fun a => ⟨by rw [failed], good a⟩, awaits, holds, resume,
    zero, moved, limit, ?_, staleClock, fault, dark, limited, least, bound, attained, books, peak, badges, fun lawful => ?_,
    fun c => ?_, fun room => ?_, fun calm room => ?_, levels, next, generation, slots, booths, fun a => ?_⟩
  · rw [desks]
    exact replicate_get _ d
  · rw [hall, rested_clock]
    exact fresh.rebuilt_clock
  · rw [source]
    exact resumeSource_eq clock stamps
  · rw [hall]
    exact fresh.fleet_started lawful
  · obtain ⟨channels, lists⟩ := fresh.channel_started (bad := bad) c
    obtain ⟨feeder, run⟩ := fresh.rebuilt_channel (bad := bad) c
    rw [hall, lists, channels]
    exact ⟨feeder, rfl, run⟩
  · rw [hall]
    exact fresh.air_started room
  · rw [queue, fresh.rebuilt_posts calm room]
    rfl
  · rw [hall]
    exact fresh.console_started a

end Sys2Proof.StepProofs
end
